-- ==== Sys2Proof/Word.lean ====
section
/-! DEFINITION. The word types of the BW7210 model: bytes, station addresses, and the finite table keyed by index. -/

namespace Sys2Proof

/-- One byte on a link or in flash. -/
abbrev Byte := BitVec 8

/-- A 48-bit station address; the first byte on the wire is the most significant (R22). -/
abbrev Addr := BitVec 48

/-- A finite table of the part: the entries in use, with their index, indexes strictly rising. -/
abbrev Table (α : Type) := List (Nat × α)

end Sys2Proof
end

