-- ==== Sys2Proof/Syntax.lean ====
section
/-! DEFINITION. The commands of the block: one constructor of Instr per row of spec/opcode_table.json, with what the world
supplies when it sends the command (a frame's bytes, an index, a pin level, a flash device's answer). -/

namespace Sys2Proof

/-- The strap pins sampled at the release of reset (Table 11-3). -/
structure Straps where
  /-- BH_SPEED: high is 1000 Mbit/s. -/
  bhFast : Bool
  /-- ND_SPEED: high is 1000 Mbit/s. -/
  ndFast : Bool
  /-- MSPI_MODE: high is mode 3. -/
  spiMode3 : Bool
  deriving DecidableEq, Repr

/-- A bulletin as the backhaul port receives it: outer header (less the destination address, which no rule reads),
bulletin header (less the kind byte, which the command names) and every byte that follows the header (Table 1-5). -/
structure MeshFrame where
  srcAddr : Addr
  frameType : BitVec 16
  meshTag : BitVec 16
  source : BitVec 8
  target : BitVec 8
  seq : BitVec 16
  bodyLen : BitVec 16
  bytes : List Byte
  deriving DecidableEq, Repr

/-- A carried frame as the backhaul port receives it (Table 1-6). -/
structure CarriedFrame where
  srcAddr : Addr
  frameType : BitVec 16
  meshTag : BitVec 16
  source : BitVec 8
  dest : BitVec 8
  cls : BitVec 8
  flags : BitVec 8
  frameLen : BitVec 16
  bytes : List Byte
  deriving DecidableEq, Repr

/-- A frame of type 0x8808 as the backhaul port receives it: destination and the first four payload bytes (R106). -/
structure PauseFrame where
  dst : Addr
  opcode : BitVec 16
  time : BitVec 16
  deriving DecidableEq, Repr

/-- An item as the node port receives it: its node tag (less the class field, which R35 says is not used on received
items) and the bytes that follow the tag (Table 2-4). -/
structure NodeItem where
  kind : BitVec 8
  flags : BitVec 8
  origin : BitVec 8
  sample : BitVec 8
  pairs : BitVec 8
  bodyLen : BitVec 16
  bytes : List Byte
  deriving DecidableEq, Repr

/-- Which of an entry's two recorded readings lapses (R29). -/
inductive ReadingKind where
  | best
  | serving
  deriving DecidableEq, Repr

/-- A SUBMIT transaction as the host clocks it: every byte shifted in after the request code (Table 10-1): the host tag,
two bytes of argument length, the arguments. Chip select is released after the last of them. -/
abbrev Submit := List Byte

/-- The kinds of transaction a full reset may fall in, as far as they tell what the part shifts out (R170). -/
inductive LinkKind where
  | submit
  | poll (offset : BitVec 16)
  | collect
  deriving DecidableEq, Repr

/-- A transaction in progress when a full reset falls: its kind, and how many bytes are clocked before the reset and from
it until chip select is released (R171). -/
structure CutLink where
  kind : LinkKind
  before : Nat
  after : Nat
  deriving DecidableEq, Repr

/-- The commands the world can send the part, in the table's order. -/
inductive Instr where
  /-- All supplies within 5 % of nominal, with the strap levels and the transaction it falls in, if any (R171, R184). -/
  | powerUp (straps : Straps) (cut : Option CutLink := none)
  /-- The reset input is asserted, with the transaction it falls in, if any (R171, R184). -/
  | resetInputAssert (cut : Option CutLink := none)
  | resetInputRelease (straps : Straps)
  | startUpComplete
  | pulseReceive (f : MeshFrame)
  | sightingReceive (f : MeshFrame)
  | claimReceive (f : MeshFrame)
  | grantReceive (f : MeshFrame)
  | refuseReceive (f : MeshFrame)
  | withdrawReceive (f : MeshFrame)
  | arrivedReceive (f : MeshFrame)
  | contextReceive (f : MeshFrame)
  | offerReceive (f : MeshFrame)
  | fetchReceive (f : MeshFrame)
  | chunkReceive (f : MeshFrame)
  | carriedFrameReceive (f : CarriedFrame)
  | pauseFrameReceive (f : PauseFrame)
  | pauseExpiry
  | nodePortData (it : NodeItem)
  | nodePortSamples (it : NodeItem)
  | backhaulTxDone
  | nodePortTxDone
  | pulseTimerExpiry
  | sightingTimerExpiry
  /-- The clash timer of node number n. -/
  | clashTimerExpiry (n : Nat)
  /-- A recorded reading of Client Table entry i. -/
  | readingLapse (i : Nat) (which : ReadingKind)
  | sampleAgeLapse (i : Nat)
  | claimWaitExpiry (i : Nat)
  | handWaitExpiryHanding (i : Nat)
  | handWaitExpiryExpecting (i : Nat)
  | removalTimerExpiry (i : Nat)
  | holddownExpiry (i : Nat)
  | noUplinkTimerExpiry
  /-- The offer timer of the client at Client Table index i. -/
  | offerTimerExpiry (i : Nat)
  /-- The flow at Flow Table index i. -/
  | flowIdleExpiry (i : Nat)
  | gameQuietElapsed
  /-- The fetch with this fetch number. -/
  | fetchTimeout (number : BitVec 16)
  /-- The skip timer of node number n. -/
  | skipTimerExpiry (n : Nat)
  | drainTimerExpiry
  | lapseTimerExpiry
  | holdoffExpiry
  | minuteTick
  | shareComputationDone
  | supplyFailAssert
  | supplyFailDeassert
  /-- The bytes the flash device gives at the read-back of the chunk's position (R150). -/
  | chunkProgramDone (readBack : List Byte)
  | headerProgramDone
  | blockEraseDone
  | checkReadDone
  | serveReadDone
  | imageReadDone
  | swapProgramDone
  /-- The bytes the flash device gives at the read-back of block 0 (R189). -/
  | startWriteDone (readBack : List Byte)
  /-- The result offset, and how many bytes the transaction had when chip select was released. -/
  | poll (offset : BitVec 16) (clocks : Nat)
  /-- How many bytes the transaction had when chip select was released. -/
  | collect (clocks : Nat)
  /-- Every byte the host shifted in, the kind byte included. -/
  | submitUnknownRequest (bytes : List Byte)
  | setTime (t : Submit)
  | clientAttach (t : Submit)
  | clientDetach (t : Submit)
  | clientAssign (t : Submit)
  | profileWrite (t : Submit)
  | profilePause (t : Submit)
  | profileResume (t : Submit)
  | ruleWrite (t : Submit)
  | ruleClear (t : Submit)
  | imageBegin (t : Submit)
  | imageChunk (t : Submit)
  | imageRead (t : Submit)
  | activateNow (t : Submit)
  | swapSlots (t : Submit)
  | cancelActivation (t : Submit)
  | readStatus (t : Submit)
  | readPeer (t : Submit)
  | readClient (t : Submit)
  | readFlow (t : Submit)
  | readShare (t : Submit)
  | readProfile (t : Submit)
  | readFault (t : Submit)
  | eventMask (t : Submit)
  | startWrite (t : Submit)
  | blockResetPeers (t : Submit)
  | blockResetClients (t : Submit)
  | blockResetFlows (t : Submit)
  | blockResetShare (t : Submit)
  | blockResetSchedules (t : Submit)
  | blockResetImage (t : Submit)
  | blockResetEvents (t : Submit)
  | resetPart (t : Submit)
  /-- A bulletin whose kind byte is outside 1..11 (R7). -/
  | unknownKindBulletinReceive (kind : BitVec 8) (f : MeshFrame)
  | powerLoss
  deriving DecidableEq, Repr

end Sys2Proof
end

