-- ==== Sys2Proof/Config.lean ====
section
/-! DEFINITION. What the manual fixes for every part (sizes, timer lengths), what each part fixes for itself, and the
values the manual leaves open: each of the latter is an opaque constant without a body, so nothing can be proved of it
(assumption log 1, 2, 14 and 39). -/

namespace Sys2Proof

/-- How a flash program or erase that a reset or a power loss cut short left its target (R153, R184, R189, CAUTION of
section 11.4): as before it, as after it, or neither. -/
inductive CutOutcome where
  | before
  | after
  | mixed
  deriving DecidableEq, Repr, Inhabited

/-- The part's own backhaul station address, fixed at manufacture (R1). -/
opaque Config.ownAddress : Addr

/-- FREE VALUE: the arbitrary value in 1..65535 of the bulletin sequence counter after a full reset, less one (R4, R21). -/
opaque Config.freeSeq : Nat → Fin 65535

/-- FREE VALUE: the arbitrary value of the claim number counter after a full reset (R45, R65). -/
opaque Config.freeClaim : Nat → BitVec 16

/-- FREE VALUE: how a flash operation cut short left its target (R184). -/
opaque Config.cutOutcome : Nat → CutOutcome

/-- FREE VALUE: the bytes a flash operation cut short left behind (R184, R189). -/
opaque Config.cutBytes : Nat → List Byte

/-! Time is counted in nanoseconds. -/

def Config.msNs : Nat := 1000000
def Config.secNs : Nat := 1000000000
def Config.minNs : Nat := 60000000000

/-- What one idle step lets pass: 1 ms (assumption log 6). -/
def Config.tickNs : Nat := 1000000

/-! Timers of Table 0-5 and of the chapters. -/

def Config.claimWaitNs : Nat := 300 * Config.msNs
def Config.clashNs : Nat := 10 * Config.secNs
def Config.sampleLapseNs : Nat := 5 * Config.secNs
def Config.removalNs : Nat := 60 * Config.secNs
def Config.noUplinkNs : Nat := 60 * Config.secNs
def Config.gameIdleNs : Nat := 10 * Config.secNs
def Config.otherIdleNs : Nat := 60 * Config.secNs
def Config.gameQuietNs : Nat := 120 * Config.secNs
def Config.fetchNs : Nat := 250 * Config.msNs
def Config.skipNs : Nat := 10 * Config.secNs
def Config.drainNs : Nat := 60 * Config.secNs
def Config.lapseNs : Nat := 10 * Config.minNs
def Config.holdoffNs : Nat := 30 * Config.minNs

/-! Sizes of Table 0-4 and of the chapters. -/

def Config.clientEntries : Nat := 256
def Config.flowEntries : Nat := 512
def Config.ruleEntries : Nat := 32
def Config.profiles : Nat := 16
def Config.poolCells : Nat := 4096
def Config.controlQueue : Nat := 16
def Config.offerListMax : Nat := 8
def Config.eventQueue : Nat := 64
def Config.fetchListMax : Nat := 4
def Config.serveQueueMax : Nat := 8
def Config.programQueueMax : Nat := 4
def Config.byteCountMax : Nat := 16777215
def Config.imageBytesMax : Nat := 16777216

/-- The broadcast station address, all ones (R1). -/
def Config.broadcast : Addr := 0xFFFFFFFFFFFF#48

/-- The station address that pause frames are sent to (R106). -/
def Config.pauseAddress : Addr := 0x0180C2000001#48

end Sys2Proof
end

