-- ==== Sys2Proof/Machine/State.lean ====
section
/-! DEFINITION. The state of the part as plain data, block by block (Table 0-1), its reset value, and the setters of its
top-level fields. INVENTORY.md lists every field with the rule that names it. -/

namespace Sys2Proof.Machine

/-! ## Names of the manual -/

/-- Traffic classes; UPDATE carries image chunks (chapter 4). -/
inductive Class where
  | game | standard | bulk | update
  deriving DecidableEq, Repr

/-- Part states (R185). -/
inductive PartState where
  | starting | running | isolated
  deriving DecidableEq, Repr

/-- The two phases of start-up within STARTING (R185). -/
inductive StartPhase where
  | loading | scanning
  deriving DecidableEq, Repr

/-- Reset causes (R184). -/
inductive ResetCause where
  | power | pin | request
  deriving DecidableEq, Repr

/-- States of a Peer Table entry other than ABSENT, which is a missing entry (Table 1-3). -/
inductive PeerState where
  | joining | present | silent
  deriving DecidableEq, Repr

/-- Incoming slot states (Table 8-3). -/
inductive IncState where
  | empty | erasing | filling | checking | ready | rejected
  deriving DecidableEq, Repr

/-- Client roles (Table 2-2). -/
inductive Role where
  | served | handing | remote | claiming | expecting | orphan | departed
  deriving DecidableEq, Repr

/-- The schedule decision on a client (Table 7-3). -/
inductive Verdict where
  | allowed | blocked
  deriving DecidableEq, Repr

/-- Clock grades (R118). -/
inductive Grade where
  | unset | borrowed | set
  deriving DecidableEq, Repr

/-- Causes of schedule events (section 10.4). -/
inductive Cause where
  | pause | strict | window | budget
  deriving DecidableEq, Repr

/-- Kinds of window (Table 7-2). -/
inductive WindowKind where
  | closed | maintenance
  deriving DecidableEq, Repr

/-- Protocols of a flow key (R69). -/
inductive Proto where
  | tcp | udp | other
  deriving DecidableEq, Repr

/-- States of a chunk other than missing, which is a missing entry of the presence map (R139). -/
inductive ChunkState where
  | requested | awaiting | present
  deriving DecidableEq, Repr

/-- Flash slots (R136). -/
inductive Slot where
  | a | b
  deriving DecidableEq, Repr

/-- Activation states (Table 9-1). -/
inductive AcState where
  | idle | waiting | wanting | draining | leaving | swapping | swapped
  deriving DecidableEq, Repr

/-- Request states (section 10.1). -/
inductive ReqState where
  | empty | pending | done
  deriving DecidableEq, Repr

/-- Outcome codes (Table 10-2). -/
inductive ReqOutcome where
  | ok | busy | badRequest | badField | outOfRange | tableFull | notFound | wrongState | notReady
  deriving DecidableEq, Repr

/-- Why a peer is left out of the share (Table 5-1). -/
inductive ShareReason where
  | joining | silent | period | supply | quiet
  deriving DecidableEq, Repr

/-- Why a start record is bad (R186). -/
inductive BadReason where
  | noSync | count | sum
  deriving DecidableEq, Repr

/-- Kinds of flash fault (R150, R151). -/
inductive FaultKind where
  | programVerify | slotFull
  deriving DecidableEq, Repr

/-! ## Records -/

/-- Four values, one for each backhaul class. -/
structure Quad where
  game : Nat
  standard : Nat
  bulk : Nat
  update : Nat
  deriving DecidableEq, Repr

/-- Four signed values, one for each backhaul class (token counts, R105). -/
structure IntQuad where
  game : Int
  standard : Int
  bulk : Int
  update : Int
  deriving DecidableEq, Repr

/-- Three values for STANDARD, BULK and UPDATE (chapter 5). -/
structure Triple where
  standard : Nat
  bulk : Nat
  update : Nat
  deriving DecidableEq, Repr

/-- The start parameters (Table 11-2). -/
structure Params where
  node : Nat
  meshTag : Nat
  frameType : Nat
  uplink : Bool
  pulsePeriod : Nat
  sightPeriod : Nat
  cap : Nat
  gc : Nat
  wS : Nat
  wB : Nat
  wU : Nat
  limGame : Nat
  limStandard : Nat
  limBulk : Nat
  limUpdate : Nat
  limNode : Nat
  margin : Nat
  k : Nat
  h : Nat
  handWait : Nat
  holddown : Nat
  gmax : Nat
  pendingProfile : Nat
  deriving DecidableEq, Repr

/-- The body of a PULSE (Table 1-7). -/
structure PulseBody where
  period : Nat
  grade : Grade
  uplink : Bool
  fresh : Bool
  drainWanted : Bool
  draining : Bool
  leaving : Bool
  supplyFail : Bool
  minute : Nat
  milli : Nat
  served : Nat
  demand : Quad
  activeImage : Nat
  incImage : Nat
  incLength : Nat
  incCheck : Nat
  incState : IncState
  held : Nat
  deriving DecidableEq, Repr

/-- A Peer Table entry that is not ABSENT (Table 1-2). -/
structure Peer where
  state : PeerState
  addr : Addr
  lastSeq : BitVec 16
  lastFresh : Bool
  quiet : Nat
  run : Nat
  heard : Bool
  lastPulse : Nat
  adv : PulseBody
  mismatch : Bool
  skew : Bool
  deriving DecidableEq, Repr

/-- One listing of a SIGHTING (Table 1-8). -/
structure Listing where
  addr : Addr
  reading : Int
  servedHere : Bool
  tenure : BitVec 16
  deriving DecidableEq, Repr

/-- A bulletin body (Tables 1-7 to 1-10). -/
inductive Body where
  | pulse (b : PulseBody)
  | sighting (entries : List Listing)
  | claim (addr : Addr) (number : BitVec 16) (reading : Int)
  | grant (addr : Addr) (number : BitVec 16)
  | refuse (addr : Addr) (number : BitVec 16) (reason : Nat)
  | withdraw (addr : Addr) (number : BitVec 16)
  | arrived (addr : Addr) (tenure : BitVec 16)
  | context (addr : Addr) (tenure : BitVec 16) (profile day used extra : Nat)
  | offer (addr : Addr)
  | fetch (image first count : Nat) (number : BitVec 16)
  | chunk (image index : Nat) (number : BitVec 16) (position : Nat) (crc : Nat) (data : List Byte)
  deriving DecidableEq, Repr

/-- A bulletin waiting in the control transmit queue: a PULSE, whose body is built when it is taken, or a bulletin with
its target and its body complete (R9). -/
inductive Control where
  | pulse (timed : Bool)
  | bulletin (target : Nat) (body : Body)
  deriving DecidableEq, Repr

/-- A frame in a transmitter's own frame buffer: its bytes on the wire and the instant its last byte leaves (R106, R112). -/
structure TxFrame where
  bytes : List Byte
  ends : Nat
  deriving DecidableEq, Repr

/-- A signal value with the instant it was taken or recorded (R29, R36). -/
structure Signal where
  value : Int
  since : Nat
  deriving DecidableEq, Repr

/-- A best peer reading with its node (R29). -/
structure BestReading where
  node : Nat
  value : Int
  since : Nat
  deriving DecidableEq, Repr

/-- A Client Table entry in use (Table 2-1 and the last refusal reason of R55). -/
structure Client where
  addr : Addr
  role : Role
  serving : Nat
  tenure : BitVec 16
  average : Option Signal
  best : Option BestReading
  servingReading : Option Signal
  better : Nat
  claimNo : Option (BitVec 16)
  claimant : Option Nat
  timer : Option Nat
  holddownEnds : Nat
  profile : Nat
  given : Bool
  day : Nat
  used : Nat
  extra : Nat
  drawn : Nat
  active : Bool
  verdict : Option Verdict
  games : Nat
  lastActivity : Nat
  refusal : Option Nat
  deriving DecidableEq, Repr

/-- A drain offer: client index, offered node, instant its timer expires (section 3.7). -/
structure Offer where
  client : Nat
  node : Nat
  ends : Nat
  deriving DecidableEq, Repr

/-- A flow key (R69). -/
structure FlowKey where
  subject : Addr
  version : Nat
  proto : Proto
  remote : Nat
  remotePort : Nat
  localPort : Nat
  deriving DecidableEq, Repr

/-- A Flow Table entry in use (Table 4-3). -/
structure Flow where
  key : FlowKey
  cls : Class
  demoted : Bool
  client : Nat
  bytes : Nat
  lastSeen : Nat
  deriving DecidableEq, Repr

/-- A rule of the Rule Table (Table 4-2). -/
structure Rule where
  valid : Bool
  version : Option Nat
  proto : Option Proto
  remotePort : Option (Nat × Nat)
  localPort : Option (Nat × Nat)
  priority : Option (Nat × Nat)
  dscp : Option Nat
  profile : Option Nat
  action : Class
  deriving DecidableEq, Repr

/-- What a queue entry carries (Table 6-2). -/
inductive Load where
  | carried (dest : Nat) (reForwarded : Bool) (frame : List Byte)
  | chunk (target : Nat) (body : Body)
  | nodeSide (toClient : Bool) (frame : List Byte)
  deriving DecidableEq, Repr

/-- A queue entry (Table 6-2). -/
structure QEntry where
  len : Nat
  cells : Nat
  cls : Class
  load : Load
  deriving DecidableEq, Repr

/-- A participant of a snapshot (R86). -/
structure Part where
  node : Nat
  demand : Quad
  held : Bool
  served : Nat
  deriving DecidableEq, Repr

/-- The share parameters copied with a snapshot (Table 5-2). -/
structure ShareParams where
  cap : Nat
  gc : Nat
  wS : Nat
  wB : Nat
  wU : Nat
  deriving DecidableEq, Repr

/-- A demand snapshot (R93). -/
structure Snapshot where
  epoch : Nat
  self : Nat
  params : ShareParams
  parts : List Part
  excluded : List (Nat × ShareReason)
  deriving DecidableEq, Repr

/-- The result record of a computation (R88). -/
structure ShareResult where
  epoch : Nat
  params : ShareParams
  parts : List Part
  excluded : List (Nat × ShareReason)
  g : Nat
  gcap : Nat
  gameGrants : List (Nat × Nat)
  gg : Nat
  r : Nat
  totals : Triple
  w : Nat
  pools : Triple
  capped : Triple
  spilled : Triple
  leftover : Nat
  remainder : Nat
  grants : Quad
  deriving DecidableEq, Repr

/-- The time-of-week clock; `sub` is the model's own count of nanoseconds within the millisecond (R118). -/
structure Clock where
  grade : Grade
  minute : Nat
  milli : Nat
  sub : Nat
  deriving DecidableEq, Repr

/-- A window of a profile; `mask` is the weekday mask byte, bit d for day number d (Table 7-2). -/
structure Window where
  mask : Byte
  start : Nat
  stop : Nat
  kind : WindowKind
  deriving DecidableEq, Repr

/-- The part of a profile record that PROFILE WRITE carries (R123). -/
structure ProfileRecord where
  windows : List Window
  budget : Nat
  strict : Bool
  deriving DecidableEq, Repr

/-- A profile: its record, paused flag and staged record, and its state, CLOSED with a cause or OPEN (Table 7-1, R127). -/
structure Profile where
  record : ProfileRecord
  paused : Bool
  staged : Option ProfileRecord
  closed : Option Cause
  deriving DecidableEq, Repr

/-- An image descriptor (Table 8-2). -/
structure Desc where
  number : Nat
  length : Nat
  check : Nat
  failed : Nat
  deriving DecidableEq, Repr

/-- A slot's header block in flash, by its fields (Table 8-2); `garbled` stands for contents that no whole program left
("any other contents" of Table 8-6). -/
structure Header where
  desc : Option Desc
  filling : Bool
  ready : Bool
  reject : Bool
  erasing : Bool
  activeCount : Option Nat
  retired : Bool
  remap : List (Nat × Nat)
  progress : Table Unit
  garbled : Bool
  deriving DecidableEq, Repr

/-- What follows an erase of the incoming slot (R140). -/
inductive After where
  | nothing
  | image (d : Desc)
  | rejection (d : Desc)
  deriving DecidableEq, Repr

/-- A fetch-list entry; `received` holds the chunk indexes received (Table 8-4). -/
structure Fetch where
  number : BitVec 16
  peer : Nat
  first : Nat
  count : Nat
  received : List Nat
  ends : Nat
  deriving DecidableEq, Repr

/-- A serve-queue entry, with how many of its chunks have been admitted (R147, R148). -/
structure Serve where
  requester : Nat
  image : Nat
  first : Nat
  count : Nat
  number : BitVec 16
  sent : Nat
  deriving DecidableEq, Repr

/-- A chunk in the program queue; `host` when an IMAGE CHUNK request brought it (R149). -/
structure Prog where
  index : Nat
  data : List Byte
  host : Bool
  deriving DecidableEq, Repr

/-- A header program (Table 8-2). -/
inductive Mark where
  | fill (d : Desc)
  | reject (d : Desc)
  | ready
  | erasing
  | remap (page spare : Nat)
  | active (count : Nat)
  | retired
  deriving DecidableEq, Repr

/-- Header-class flash work (R141). -/
inductive HeaderWork where
  | mark (slot : Slot) (m : Mark)
  | startRecord (bytes : List Byte)
  deriving DecidableEq, Repr

/-- The flash operation in flight (R141). A chunk program sequence holds the physical position taken at its start, and
`live` until its chunk leaves the queue under it. -/
inductive FlashOp where
  | header (w : HeaderWork)
  | chunk (slot : Slot) (position : Nat) (p : Prog) (live : Bool)
  | imageRead
  | serveRead (e : Serve)
  | checkRead (index : Nat)
  | erase (slot : Slot) (block : Nat)
  deriving DecidableEq, Repr

/-- An IMAGE READ under way: range asked for and bytes read so far (R154). -/
structure ImageRead where
  offset : Nat
  length : Nat
  got : List Byte
  deriving DecidableEq, Repr

/-- A whole-image check under way: next chunk and CRC register (R152). -/
structure Check where
  next : Nat
  register : BitVec 32
  deriving DecidableEq, Repr

/-- The last-fault record (R150). -/
structure FaultRec where
  kind : FaultKind
  slot : Slot
  block : Nat
  chunk : Nat
  deriving DecidableEq, Repr

/-- An event as its raising rule gives it: kind, subject and detail (Table 10-4). -/
inductive Event where
  | peerJoined (n : Nat)
  | peerSilent (n : Nat)
  | peerGone (n : Nat)
  | nodeClash (n : Nat) (foreign : Addr)
  | periodMismatch (n period : Nat)
  | timeBorrowed (n : Nat)
  | timeSkew (n minute milli : Nat)
  | steer (a : Addr) (claimant : Nat) (number : BitVec 16)
  | steerCancelled (a : Addr) (claimant : Nat)
  | steerFailed (a : Addr) (claimant : Nat) (peerLost : Bool)
  | clientArrived (a : Addr) (n : Nat) (tenure : BitVec 16)
  | doubleServe (a : Addr) (keeper : Nat) (tenure held : BitVec 16)
  | orphaned (a : Addr) (lost : Nat)
  | noUplink
  | profileClosed (p : Nat) (c : Cause)
  | profileOpened (p : Nat) (c : Cause)
  | clientBlocked (a : Addr) (p : Nat) (c : Cause)
  | clientAllowed (a : Addr) (p : Nat)
  | imageFound (n number length : Nat)
  | imageConflict (n number heldChunks offeredChunks : Nat)
  | imageReady (number : Nat)
  | imageCheckFailed (number failures : Nat)
  | imageRejected (number : Nat)
  | flashFault (f : FaultRec)
  | drainBegun (served number : Nat)
  | readyToRestart (number served : Nat) (limit : Bool)
  | activationLapsed (number : Nat)
  | swapped (number count : Nat)
  | supplyFail
  | supplyRestored
  | started (c : ResetCause)
  | startClamped (code given used : Nat)
  | startBad (r : BadReason) (offset : Nat)
  deriving DecidableEq, Repr

/-- A queued event record (Table 10-5). -/
structure EventRec where
  event : Event
  overrun : Bool
  minute : Nat
  milli : Nat
  deriving DecidableEq, Repr

/-! ## The blocks -/

/-- Bulletin Unit (chapter 1). -/
structure Bu where
  peers : Table Peer
  seq : BitVec 16
  freshCount : Nat
  control : List Control
  lastDemand : Quad
  pulseTimer : Option Nat
  sightTimer : Option Nat
  clash : Table Nat
  deriving DecidableEq, Repr

/-- Roaming Controller (chapters 2 and 3). -/
structure Rc where
  clients : Table Client
  claimCounter : BitVec 16
  offers : List Offer
  lapsed : Table Nat
  noUplink : Option Nat
  deriving DecidableEq, Repr

/-- Flow Classifier (chapter 4). -/
structure Fc where
  rules : Table Rule
  flows : Table Flow
  gameCount : Nat
  quietSince : Option Nat
  arrivals : Quad
  deriving DecidableEq, Repr

/-- Share Calculator (chapter 5). -/
structure Sc where
  epoch : Nat
  snapshot : Option Snapshot
  inFlight : Bool
  result : ShareResult
  staged : Quad
  loaded : Quad
  loadedEpoch : Nat
  deriving DecidableEq, Repr

/-- Egress Scheduler and the two port transmitters (chapter 6). -/
structure Es where
  game : List QEntry
  standard : List QEntry
  bulk : List QEntry
  update : List QEntry
  node : List QEntry
  free : Nat
  tokens : IntQuad
  pointer : Class
  pause : Option Nat
  backhaulTx : Option TxFrame
  nodeTx : Option TxFrame
  deriving DecidableEq, Repr

/-- Schedule Unit (chapter 7). -/
structure Su where
  clock : Clock
  profiles : Table Profile
  maintenance : Bool
  deriving DecidableEq, Repr

/-- The serial flash: start record block and data blocks byte by byte, slot headers by their fields (R136, R137). -/
structure Flash where
  mem : List Host.Cell
  headerA : Header
  headerB : Header
  deriving DecidableEq, Repr

/-- Image Engine (chapter 8). `resetWaits` holds while a BLOCK RESET IMAGE waits for the end of the program sequence in flight,
after which its erase begins (R156). -/
structure Ie where
  activeSlot : Slot
  activeDesc : Option Desc
  activeRemap : List (Nat × Nat)
  inc : IncState
  incDesc : Option Desc
  incRemap : List (Nat × Nat)
  after : After
  presence : Table ChunkState
  tally : List Nat
  fetches : List Fetch
  fetchCounter : BitVec 16
  strikes : Table Nat
  skips : Table Nat
  serves : List Serve
  progs : List Prog
  headers : List HeaderWork
  imageRead : Option ImageRead
  check : Option Check
  erase : Option Nat
  op : Option FlashOp
  fault : Option FaultRec
  conflictInc : Bool
  conflictActive : Bool
  resetWaits : Bool
  deriving DecidableEq, Repr

/-- Activation Controller (R157). -/
structure Ac where
  state : AcState
  count : Nat
  drainTimer : Option Nat
  lapseTimer : Option Nat
  holdoffEnds : Nat
  activateNow : Bool
  deriving DecidableEq, Repr

/-- Management Link (chapter 10); `miso` holds what the last transaction shifted out. -/
structure Ml where
  code : Nat
  tag : Byte
  state : ReqState
  outcome : Option ReqOutcome
  polled : Bool
  result : List Byte
  busy : Bool
  events : List EventRec
  mask : BitVec 64
  miso : List Byte
  deriving DecidableEq, Repr

/-- Start Loader (chapter 11). `recordGood` is whether LOADING found a record that passed; `nextPulse` and `nextSight` are
periods that a reload left waiting for the next expiry of their timer (R190). -/
structure Sl where
  part : PartState
  phase : StartPhase
  recordGood : Bool
  cause : ResetCause
  params : Params
  nextPulse : Option Nat
  nextSight : Option Nat
  deriving DecidableEq, Repr

/-- Input pins: supply, reset input and supply-fail input, and the straps as they were sampled (Table 11-3). -/
structure Pins where
  powered : Bool
  resetHeld : Bool
  supplyFail : Bool
  straps : Straps
  deriving DecidableEq, Repr

/-- The whole state. `now` (nanoseconds) and `free` (which free value comes next) are the model's own; `pending` is the
queue of commands the world has sent. -/
structure State where
  bu : Bu
  rc : Rc
  fc : Fc
  sc : Sc
  es : Es
  su : Su
  flash : Flash
  ie : Ie
  ac : Ac
  ml : Ml
  sl : Sl
  pins : Pins
  now : Nat
  free : Nat
  pending : List Instr
  deriving DecidableEq, Repr

/-! ## Outcomes other than a next state -/

/-- The part has no fault that stops it: every rule of the manual gives a next state, so no meaning raises a fault and
this type has no constructor (assumption log 50). -/
inductive Fault where
  deriving DecidableEq, Repr

/-- Refusals. -/
inductive Refusal where
  /-- Raised by exec alone, for a command that has no meaning yet. Safe: nothing is claimed of such a step. -/
  | notModelled (mnemonic : String)
  deriving DecidableEq, Repr

/-! ## Setters, one per top-level field -/

def State.setBu (s : State) (x : Bu) : State := { s with bu := x }
def State.setRc (s : State) (x : Rc) : State := { s with rc := x }
def State.setFc (s : State) (x : Fc) : State := { s with fc := x }
def State.setSc (s : State) (x : Sc) : State := { s with sc := x }
def State.setEs (s : State) (x : Es) : State := { s with es := x }
def State.setSu (s : State) (x : Su) : State := { s with su := x }
def State.setFlash (s : State) (x : Flash) : State := { s with flash := x }
def State.setIe (s : State) (x : Ie) : State := { s with ie := x }
def State.setAc (s : State) (x : Ac) : State := { s with ac := x }
def State.setMl (s : State) (x : Ml) : State := { s with ml := x }
def State.setSl (s : State) (x : Sl) : State := { s with sl := x }
def State.setPins (s : State) (x : Pins) : State := { s with pins := x }
def State.setNow (s : State) (x : Nat) : State := { s with now := x }
def State.setFree (s : State) (x : Nat) : State := { s with free := x }
def State.setPending (s : State) (x : List Instr) : State := { s with pending := x }

/-! ## Reset values -/

def Quad.zero : Quad := { game := 0, standard := 0, bulk := 0, update := 0 }
def IntQuad.zero : IntQuad := { game := 0, standard := 0, bulk := 0, update := 0 }
def Triple.zero : Triple := { standard := 0, bulk := 0, update := 0 }

/-- Every start parameter at its default and the node number 0 (R186, R187). -/
def Params.default : Params :=
  { node := 0, meshTag := 0, frameType := 0x88B5, uplink := false, pulsePeriod := 25, sightPeriod := 500,
    cap := 2930, gc := 40, wS := 8, wB := 4, wU := 1,
    limGame := 256, limStandard := 1536, limBulk := 1024, limUpdate := 256, limNode := 1024,
    margin := 6, k := 3, h := 64, handWait := 5, holddown := 10, gmax := 4, pendingProfile := 0 }

/-- The cleared result record: epoch 0, no participants, zero in every other field (R96). -/
def ShareResult.cleared : ShareResult :=
  { epoch := 0, params := { cap := 0, gc := 0, wS := 0, wB := 0, wU := 0 }, parts := [], excluded := [],
    g := 0, gcap := 0, gameGrants := [], gg := 0, r := 0, totals := Triple.zero, w := 0, pools := Triple.zero,
    capped := Triple.zero, spilled := Triple.zero, leftover := 0, remainder := 0, grants := Quad.zero }

/-- No windows, a daily budget of 0, strict clear (R135). -/
def ProfileRecord.blank : ProfileRecord := { windows := [], budget := 0, strict := false }

/-- A profile after a full reset: empty, not paused, nothing staged, OPEN (R135). -/
def Profile.blank : Profile := { record := ProfileRecord.blank, paused := false, staged := none, closed := none }

/-- A header block with every field blank (R137). -/
def Header.blank : Header :=
  { desc := none, filling := false, ready := false, reject := false, erasing := false, activeCount := none,
    retired := false, remap := [], progress := [], garbled := false }

/-- Every event kind, codes 1..33, enabled (R182). -/
def maskAll : BitVec 64 := 0x3FFFFFFFE#64

/-- The BU after a full reset (R21); `seq` is the counter's arbitrary value. -/
def Bu.reset (seq : BitVec 16) : Bu :=
  { peers := [], seq := seq, freshCount := 3, control := [], lastDemand := Quad.zero, pulseTimer := none,
    sightTimer := none, clash := [] }

/-- The RC after a full reset (R43, R65); `ctr` is the claim number counter's arbitrary value. -/
def Rc.reset (ctr : BitVec 16) : Rc :=
  { clients := [], claimCounter := ctr, offers := [], lapsed := [], noUplink := none }

/-- The FC after a full reset (R82). -/
def Fc.reset : Fc := { rules := [], flows := [], gameCount := 0, quietSince := none, arrivals := Quad.zero }

/-- The SC after a full reset (R98). -/
def Sc.reset : Sc :=
  { epoch := 0, snapshot := none, inFlight := false, result := ShareResult.cleared, staged := Quad.zero,
    loaded := Quad.zero, loadedEpoch := 0 }

/-- The ES after a full reset (R116). -/
def Es.reset : Es :=
  { game := [], standard := [], bulk := [], update := [], node := [], free := 4096, tokens := IntQuad.zero,
    pointer := .standard, pause := none, backhaulTx := none, nodeTx := none }

/-- The SU after a full reset (R135). -/
def Su.reset : Su :=
  { clock := { grade := .unset, minute := 0, milli := 0, sub := 0 }, profiles := [], maintenance := false }

/-- An erased flash (assumption log 3). -/
def Flash.erased : Flash := { mem := [], headerA := Header.blank, headerB := Header.blank }

/-- The IE after a full reset, before the resume scan: slot A active and holding no image, the other slot EMPTY (R153,
R156). -/
def Ie.reset : Ie :=
  { activeSlot := .a, activeDesc := none, activeRemap := [], inc := .empty, incDesc := none, incRemap := [],
    after := .nothing, presence := [], tally := [], fetches := [], fetchCounter := 0, strikes := [], skips := [],
    serves := [], progs := [], headers := [], imageRead := none, check := none, erase := none, op := none,
    fault := none, conflictInc := false, conflictActive := false, resetWaits := false }

/-- The AC after a full reset (R169). -/
def Ac.reset : Ac :=
  { state := .idle, count := 0, drainTimer := none, lapseTimer := none, holdoffEnds := 0, activateNow := false }

/-- The ML after a full reset of the given cause (R182): STARTED is the one queued event, with a time stamp of 0. The result
polled mark, for which R182 gives no value, is clear (DESIGN CHOICE, assumption log 62); the bytes shifted out are none (DESIGN
CHOICE, assumption log 43). -/
def Ml.reset (c : ResetCause) : Ml :=
  { code := 0, tag := 0, state := .empty, outcome := none, polled := false, result := [], busy := false,
    events := [{ event := .started c, overrun := false, minute := 0, milli := 0 }], mask := maskAll, miso := [] }

/-- The SL after a full reset of the given cause: STARTING, LOADING still to come (R184, R185). -/
def Sl.reset (c : ResetCause) : Sl :=
  { part := .starting, phase := .loading, recordGood := false, cause := c, params := Params.default,
    nextPulse := none, nextSight := none }

/-- The part right after a power-up reset with an erased flash, before LOADING (assumption log 1 to 5, 9, 10, 43
and 62). -/
def State.reset : State :=
  { bu := Bu.reset 1, rc := Rc.reset 0, fc := Fc.reset, sc := Sc.reset, es := Es.reset, su := Su.reset,
    flash := Flash.erased, ie := Ie.reset, ac := Ac.reset, ml := Ml.reset .power, sl := Sl.reset .power,
    pins := { powered := true, resetHeld := false, supplyFail := false,
              straps := { bhFast := true, ndFast := true, spiMode3 := false } },
    now := 0, free := 0, pending := [] }

end Sys2Proof.Machine
end

