-- ==== Sys2Proof/Machine/Table.lean ====
section
/-! DEFINITION. Reading and writing a finite table keyed by index; indexes stay strictly rising. -/

namespace Sys2Proof.Machine

/-- The entry at index i, if one is in use. -/
def tabGet {α : Type} (t : Table α) (i : Nat) : Option α :=
  match t with
  | [] => none
  | (j, v) :: r => if j = i then some v else tabGet r i

/-- The table with v at index i. -/
def tabSet {α : Type} (t : Table α) (i : Nat) (v : α) : Table α :=
  match t with
  | [] => [(i, v)]
  | (j, w) :: r => if i < j then (i, v) :: (j, w) :: r else if i = j then (i, v) :: r else (j, w) :: tabSet r i v

/-- The table without an entry at index i. -/
def tabErase {α : Type} (t : Table α) (i : Nat) : Table α := t.filter (fun p => p.1 != i)

/-- The table with f applied to every entry. -/
def tabMap {α : Type} (t : Table α) (f : α → α) : Table α := t.map (fun p => (p.1, f p.2))

/-- The indexes in use, rising. -/
def tabKeys {α : Type} (t : Table α) : List Nat := t.map Prod.fst

/-- The lowest index below n that is not in use. -/
def tabFree {α : Type} (t : Table α) (n : Nat) : Option Nat := (List.range n).find? (fun i => (tabGet t i).isNone)

/-- Indexes strictly rising: the table's canonical form. -/
def tabSorted {α : Type} (t : Table α) : Bool :=
  match t with
  | [] => true
  | (i, _) :: r => r.all (fun p => decide (i < p.1)) && tabSorted r

end Sys2Proof.Machine
end

