-- ==== Sys2Proof/Machine/Wire.lean ====
section
/-! DEFINITION. Byte order, signed fields, serial arithmetic, station addresses and the CRC-32. -/

namespace Sys2Proof.Machine

/-- The number that bytes spell, most significant byte first (R22). -/
def beNat (bytes : List Byte) : Nat := bytes.foldl (fun a b => a * 256 + b.toNat) 0

/-- v in k bytes, most significant byte first (R22). -/
def toBE : Nat → Nat → List Byte
  | 0, _ => []
  | k + 1, v => BitVec.ofNat 8 (v / 256 ^ k) :: toBE k v

/-- The n bytes from an offset on. -/
def slice (off n : Nat) (bytes : List Byte) : List Byte := (bytes.drop off).take n

/-- The n-byte number at an offset. -/
def field (off n : Nat) (bytes : List Byte) : Nat := beNat (slice off n bytes)

/-- A 16-bit field read as two's complement (R22). -/
def signed16 (v : Nat) : Int := if v < 32768 then (v : Int) else (v : Int) - 65536

/-- A signed value as a 16-bit two's-complement field (R22). -/
def unsigned16 (v : Int) : Nat := (v % 65536).toNat

/-- A byte read as two's complement (Table 2-4). -/
def signed8 (b : Byte) : Int := if b.toNat < 128 then (b.toNat : Int) else (b.toNat : Int) - 256

/-- A signed value as a 32-bit two's-complement field. -/
def unsigned32 (v : Int) : Nat := (v % 4294967296).toNat

/-- The station address at an offset. -/
def addrAt (off : Nat) (bytes : List Byte) : Addr := BitVec.ofNat 48 (field off 6 bytes)

/-- The six bytes of a station address. -/
def addrBytes (a : Addr) : List Byte := toBE 6 a.toNat

/-- Bit k of a byte. -/
def bitOf (b : Byte) (k : Nat) : Bool := b.getLsbD k

/-- One byte of a flag (R183). -/
def flagByte (b : Bool) : List Byte := [if b then 1#8 else 0#8]

/-- One byte with the given flag bits, bit 0 first. -/
def flagBits (bits : List Bool) : Nat :=
  match bits with
  | [] => 0
  | b :: r => (if b then 1 else 0) + 2 * flagBits r

/-- a is newer than b by the serial arithmetic of section 0.5.3: (a - b) modulo 65536 lies in 1..32767. -/
def newer (a b : BitVec 16) : Bool := decide (1 ≤ (a - b).toNat) && decide ((a - b).toNat ≤ 32767)

/-- 1 after 65535, else the number plus one (R4, R26). -/
def nextNonzero (v : BitVec 16) : BitVec 16 := if v = 65535#16 then 1#16 else v + 1

/-- The first byte's lowest bit is set, or the address is all zero: never the key of an entry (R23). -/
def isGroup (a : Addr) : Bool := a.getLsbD 40 || a == 0#48

/-- a divided by b, rounded up. -/
def ceilDiv (a b : Nat) : Nat := (a + b - 1) / b

/-- One bit through the CRC-32 register (R138). -/
def crcBit (reg : BitVec 32) (bit : Bool) : BitVec 32 :=
  let shifted := reg >>> 1
  if Bool.xor (reg.getLsbD 0) bit then shifted ^^^ 0xEDB88320#32 else shifted

/-- One byte through the CRC-32 register, least significant bit first (R138). -/
def crcByte (reg : BitVec 32) (b : Byte) : BitVec 32 :=
  (List.range 8).foldl (fun r k => crcBit r (b.getLsbD k)) reg

/-- The register at the start, all ones (R138). -/
def crcInit : BitVec 32 := 0xFFFFFFFF#32

/-- Bytes through the register, in order (R138). -/
def crcFeed (reg : BitVec 32) (bytes : List Byte) : BitVec 32 := bytes.foldl crcByte reg

/-- The CRC-32 of a run of bytes (R138). -/
def crc32 (bytes : List Byte) : Nat := (~~~ (crcFeed crcInit bytes)).toNat

end Sys2Proof.Machine
end

