-- ==== Sys2Proof/Machine/Ops.lean ====
section
/-! DEFINITION. Shared operations: the outcome of a command, time, events, the request slot, the control transmit queue,
lookups and updates of the tables, flow removal, the flash's bytes. -/

namespace Sys2Proof.Machine

/-! ## Outcome of a command -/

/-- The part has its supply and is not held in reset: only then does it take anything or run a timer (R184). -/
def alive (s : State) : Bool := s.pins.powered && !s.pins.resetHeld

/-- A command the living part takes; an unpowered part, or one held in reset, takes none (R184, assumption log 8). -/
def taken (f : State → State) (s : State) : Host.Outcome State Fault Refusal :=
  .next (if alive s then f s else s)

/-- The part state is RUNNING. -/
def running (s : State) : Bool := s.sl.part == .running

/-! ## Time -/

/-- The clock after d nanoseconds without a minute tick: the millisecond advances and waits at the end of the minute for
MINUTE_TICK (R118, assumption log 36). -/
def clockAfter (c : Clock) (d : Nat) : Clock :=
  match c.grade with
  | .unset => c
  | _ =>
    let t := min (c.milli * 1000000 + c.sub + d) 59999999999
    { c with milli := t / 1000000, sub := t % 1000000 }

/-- Time runs on until instant d, if d is still to come (assumption log 7). -/
def runTo (d : Nat) (s : State) : State :=
  if s.now < d then
    (s.setSu { s.su with clock := if alive s then clockAfter s.su.clock (d - s.now) else s.su.clock }).setNow d
  else s

/-- What a step on an empty queue lets pass: one millisecond (assumption log 6). -/
def tick (s : State) : State := runTo (s.now + Config.tickNs) s

/-- Nanoseconds left until an instant, 0 when it has come. -/
def leftUntil (s : State) (d : Nat) : Nat := d - s.now

/-- A timer that is running, as an instant; stopped otherwise. An expiry brings time to that instant and then does its
work; the expiry of a stopped timer does not happen (assumption log 7). -/
def onExpiry (timer : Option Nat) (f : State → State) (s : State) : State :=
  match timer with
  | some d => f (runTo d s)
  | none => s

/-! ## Events (R178, R179) -/

/-- An event's kind code (Table 10-4). -/
def eventCode : Event → Nat
  | .peerJoined _ => 1
  | .peerSilent _ => 2
  | .peerGone _ => 3
  | .nodeClash _ _ => 4
  | .periodMismatch _ _ => 5
  | .timeBorrowed _ => 6
  | .timeSkew _ _ _ => 7
  | .steer _ _ _ => 8
  | .steerCancelled _ _ => 9
  | .steerFailed _ _ _ => 10
  | .clientArrived _ _ _ => 11
  | .doubleServe _ _ _ _ => 12
  | .orphaned _ _ => 13
  | .noUplink => 14
  | .profileClosed _ _ => 15
  | .profileOpened _ _ => 16
  | .clientBlocked _ _ _ => 17
  | .clientAllowed _ _ => 18
  | .imageFound _ _ _ => 19
  | .imageConflict _ _ _ _ => 20
  | .imageReady _ => 21
  | .imageCheckFailed _ _ => 22
  | .imageRejected _ => 23
  | .flashFault _ => 24
  | .drainBegun _ _ => 25
  | .readyToRestart _ _ _ => 26
  | .activationLapsed _ => 27
  | .swapped _ _ => 28
  | .supplyFail => 29
  | .supplyRestored => 30
  | .started _ => 31
  | .startClamped _ _ _ => 32
  | .startBad _ _ => 33

/-- The queue with the overrun mark of its newest event set (R179). -/
def markTail (q : List EventRec) : List EventRec :=
  match q with
  | [] => []
  | [e] => [{ e with overrun := true }]
  | e :: r => e :: markTail r

/-- The time stamp of an event: the clock's fields, which are 0 while UNSET (R178). -/
def stamp (e : Event) (s : State) : EventRec :=
  { event := e, overrun := false, minute := s.su.clock.minute, milli := s.su.clock.milli }

/-- An event record offered to the event queue: masked, queued, or lost to overrun (R178, R179). -/
def offerEvent (r : EventRec) (m : Ml) : Ml :=
  if m.mask.getLsbD (eventCode r.event) then
    if m.events.length < Config.eventQueue then { m with events := m.events ++ [r] }
    else { m with events := markTail m.events }
  else m

/-- A block raises an event (R178). -/
def raise (e : Event) (s : State) : State := s.setMl (offerEvent (stamp e s) s.ml)

/-! ## The request slot (R172, R173) -/

/-- The PENDING request completes with an outcome and a result. -/
def complete (o : ReqOutcome) (result : List Byte) (s : State) : State :=
  s.setMl { s.ml with state := .done, outcome := some o, result := result, polled := false }

/-- The request is completed if it is PENDING and has this code: flash work ends the request that waits for it. -/
def completePending (code : Nat) (o : ReqOutcome) (result : List Byte) (s : State) : State :=
  if s.ml.state == .pending && s.ml.code == code then complete o result s else s

/-! ## The control transmit queue (R9, R10) -/

/-- A queued SIGHTING. -/
def isSighting : Control → Bool
  | .bulletin _ (.sighting _) => true
  | _ => false

/-- A queued PULSE of either sort. -/
def isPulse : Control → Bool
  | .pulse _ => true
  | _ => false

/-- The queue after a bulletin is offered to it: it joins at the tail; at 16 bulletins a SIGHTING takes the place of the
oldest queued SIGHTING and any other bulletin is not sent (R10). -/
def joinControl (c : Control) (q : List Control) : List Control :=
  if q.length < Config.controlQueue then q ++ [c]
  else if isSighting c && q.any isSighting then q.eraseP isSighting ++ [c]
  else q

/-- A bulletin handed to the BU; nothing is queued unless the part is RUNNING (R1, R9). -/
def queueControl (c : Control) (s : State) : State :=
  if running s then s.setBu { s.bu with control := joinControl c s.bu.control } else s

/-- A bulletin of a kind other than PULSE handed to the BU with its target. -/
def sendBulletin (target : Nat) (b : Body) (s : State) : State := queueControl (.bulletin target b) s

/-- An announcement PULSE is asked for: it joins unless a PULSE is waiting (R13). -/
def announcePulse (s : State) : State :=
  if s.bu.control.any isPulse then s else queueControl (.pulse false) s

/-! ## Peers and clients -/

/-- The Peer Table entry of a node, none when ABSENT. -/
def peerOf (s : State) (n : Nat) : Option Peer := tabGet s.bu.peers n

def setPeers (p : Table Peer) (s : State) : State := s.setBu { s.bu with peers := p }

/-- The node numbers 1..8. -/
def nodes : List Nat := [1, 2, 3, 4, 5, 6, 7, 8]

/-- The peer is PRESENT. -/
def isPresent (s : State) (n : Nat) : Bool :=
  match peerOf s n with
  | some p => p.state == .present
  | none => false

/-- The peer's last accepted PULSE advertises DRAINING or LEAVING. -/
def isDrainingPeer (s : State) (n : Nat) : Bool :=
  match peerOf s n with
  | some p => p.adv.draining || p.adv.leaving
  | none => false

def clientAt (s : State) (i : Nat) : Option Client := tabGet s.rc.clients i

def setClients (t : Table Client) (s : State) : State := s.setRc { s.rc with clients := t }

/-- Client Table entry i is written. -/
def putClient (i : Nat) (c : Client) (s : State) : State := setClients (tabSet s.rc.clients i c) s

/-- Client Table entry i is changed, when it is in use. -/
def modClient (i : Nat) (f : Client → Client) (s : State) : State :=
  match clientAt s i with
  | some c => putClient i (f c) s
  | none => s

/-- A station address is looked up; a group or all-zero address is not found (R23). -/
def findClient (s : State) (a : Addr) : Option (Nat × Client) :=
  if isGroup a then none else s.rc.clients.find? (fun p => p.2.addr == a)

/-- Work done for every entry in use, in index order. -/
def forClients (f : Nat → State → State) (s : State) : State :=
  (tabKeys s.rc.clients).foldl (fun t i => f i t) s

/-- SERVED or HANDING. -/
def isServing (r : Role) : Bool := r == .served || r == .handing

/-- The served count: entries in role SERVED or HANDING (R24). -/
def servedCount (s : State) : Nat := s.rc.clients.countP (fun p => isServing p.2.role)

/-- The entry's last activity becomes the present instant (R34). -/
def touch (i : Nat) (s : State) : State := modClient i (fun c => { c with lastActivity := s.now }) s

/-! ## Flow removal (R75, R76, R80) -/

/-- The table-wide GAME flow count falls to n; a fall from above 0 to 0 sets the game-quiet instant (R80). -/
def dropGames (n : Nat) (now : Nat) (f : Fc) : Fc :=
  { f with gameCount := n, quietSince := if 0 < f.gameCount && n == 0 then some now else f.quietSince }

/-- Every flow of a Client Table entry is removed (R76). -/
def removeFlowsOf (i : Nat) (s : State) : State :=
  let gone := s.fc.flows.countP (fun p => p.2.client == i && p.2.cls == .game)
  let fc := dropGames (s.fc.gameCount - gone) s.now
    { s.fc with flows := s.fc.flows.filter (fun p => p.2.client != i) }
  modClient i (fun c => { c with games := 0 }) (s.setFc fc)

/-- The Flow Table is emptied and every GAME flow count becomes 0 (R82). -/
def emptyFlows (s : State) : State :=
  let t := s.setFc (dropGames 0 s.now { s.fc with flows := [] })
  setClients (tabMap t.rc.clients (fun c => { c with games := 0 })) t

/-- A Client Table entry is removed: its flows go and the entry becomes free (R25); an offer list or lapsed record keeps
nothing for it (assumption log 21). -/
def removeClient (i : Nat) (s : State) : State :=
  let t := removeFlowsOf i s
  t.setRc { t.rc with clients := tabErase t.rc.clients i, lapsed := tabErase t.rc.lapsed i,
                      offers := t.rc.offers.filter (fun o => o.client != i) }

/-! ## Byte counts -/

/-- A byte count that saturates at 16,777,215 (R72, R81). -/
def addBytes (a n : Nat) : Nat := min (a + n) Config.byteCountMax

def Quad.at (q : Quad) (c : Class) : Nat :=
  match c with
  | .game => q.game
  | .standard => q.standard
  | .bulk => q.bulk
  | .update => q.update

def Quad.put (q : Quad) (c : Class) (v : Nat) : Quad :=
  match c with
  | .game => { q with game := v }
  | .standard => { q with standard := v }
  | .bulk => { q with bulk := v }
  | .update => { q with update := v }

def Quad.sum (q : Quad) : Nat := q.game + q.standard + q.bulk + q.update

def IntQuad.at (q : IntQuad) (c : Class) : Int :=
  match c with
  | .game => q.game
  | .standard => q.standard
  | .bulk => q.bulk
  | .update => q.update

def IntQuad.put (q : IntQuad) (c : Class) (v : Int) : IntQuad :=
  match c with
  | .game => { q with game := v }
  | .standard => { q with standard := v }
  | .bulk => { q with bulk := v }
  | .update => { q with update := v }

/-! ## Flash bytes (R136) -/

/-- The byte at a flash offset; one that nothing is listed for is erased, all ones (R186). -/
def memRead (m : List Host.Cell) (a : Nat) : Byte := (tabGet m a).getD 0xFF#8

/-- A byte written at a flash offset; an erased byte is not listed. -/
def memWrite (m : List Host.Cell) (a : Nat) (b : Byte) : List Host.Cell :=
  if b = 0xFF#8 then tabErase m a else tabSet m a b

/-- Bytes written from a flash offset on. -/
def memWriteAll (m : List Host.Cell) (a : Nat) (bytes : List Byte) : List Host.Cell :=
  match bytes with
  | [] => m
  | b :: r => memWriteAll (memWrite m a b) (a + 1) r

/-- n bytes read from a flash offset on. -/
def memReadAll (m : List Host.Cell) (a n : Nat) : List Byte := (List.range n).map (fun k => memRead m (a + k))

/-- One erase block of 64 KiB is erased. -/
def memEraseBlock (m : List Host.Cell) (block : Nat) : List Host.Cell :=
  m.filter (fun p => decide (p.1 < block * 65536) || decide (block * 65536 + 65536 ≤ p.1))

/-- The canonical form of the flash's bytes: offsets strictly rising, no listed byte erased. -/
def memWf (m : List Host.Cell) : Bool := tabSorted m && m.all (fun p => p.2 != 0xFF#8)

end Sys2Proof.Machine
end

