-- ==== Sys2Proof/Machine/Operands.lean ====
section
/-! DEFINITION. Byte layouts: bulletin bodies and mesh headers (section 1.11), node tags (Table 2-4), the reading of a client
frame (section 4.1), SUBMIT arguments (Table 10-3), event records (Table 10-5) and the codes of Table 10-7. -/

namespace Sys2Proof.Machine

/-! ## Codes (Table 10-7 and the bulletin fields) -/

def classCode : Class → Nat
  | .game => 0
  | .standard => 1
  | .bulk => 2
  | .update => 3

def partCode : PartState → Nat
  | .starting => 0
  | .running => 1
  | .isolated => 2

def causeOfReset : ResetCause → Nat
  | .power => 1
  | .pin => 2
  | .request => 3

def peerStateCode : PeerState → Nat
  | .joining => 1
  | .present => 2
  | .silent => 3

def roleCode : Role → Nat
  | .served => 1
  | .handing => 2
  | .remote => 3
  | .claiming => 4
  | .expecting => 5
  | .orphan => 6
  | .departed => 7

def verdictCode : Option Verdict → Nat
  | none => 0
  | some .allowed => 1
  | some .blocked => 2

def gradeCode : Grade → Nat
  | .unset => 0
  | .borrowed => 1
  | .set => 2

def causeCode : Cause → Nat
  | .pause => 1
  | .strict => 2
  | .window => 3
  | .budget => 4

def incCode : IncState → Nat
  | .empty => 0
  | .erasing => 1
  | .filling => 2
  | .checking => 3
  | .ready => 4
  | .rejected => 5

def acCode : AcState → Nat
  | .idle => 0
  | .waiting => 1
  | .wanting => 2
  | .draining => 3
  | .leaving => 4
  | .swapping => 5
  | .swapped => 6

def protoCode : Proto → Nat
  | .tcp => 1
  | .udp => 2
  | .other => 3

def slotCode : Slot → Nat
  | .a => 0
  | .b => 1

def shareReasonCode : ShareReason → Nat
  | .joining => 1
  | .silent => 2
  | .period => 3
  | .supply => 4
  | .quiet => 5

def badCode : BadReason → Nat
  | .noSync => 1
  | .count => 2
  | .sum => 3

def faultCode : FaultKind → Nat
  | .programVerify => 1
  | .slotFull => 2

def reqStateCode : ReqState → Nat
  | .empty => 0
  | .pending => 1
  | .done => 2

/-- Outcome codes (Table 10-2), 0 while there is no outcome. -/
def outcomeCode : Option ReqOutcome → Nat
  | none => 0
  | some .ok => 1
  | some .busy => 2
  | some .badRequest => 3
  | some .badField => 4
  | some .outOfRange => 5
  | some .tableFull => 6
  | some .notFound => 7
  | some .wrongState => 8
  | some .notReady => 9

def gradeOf : Nat → Option Grade
  | 0 => some .unset
  | 1 => some .borrowed
  | 2 => some .set
  | _ => none

def incStateOf : Nat → Option IncState
  | 0 => some .empty
  | 1 => some .erasing
  | 2 => some .filling
  | 3 => some .checking
  | 4 => some .ready
  | 5 => some .rejected
  | _ => none

/-! ## Bulletin bodies -/

/-- Kind codes (Table 1-1). -/
def bodyKind : Body → Nat
  | .pulse _ => 1
  | .sighting _ => 2
  | .claim _ _ _ => 3
  | .grant _ _ => 4
  | .refuse _ _ _ => 5
  | .withdraw _ _ => 6
  | .arrived _ _ => 7
  | .context _ _ _ _ _ _ => 8
  | .offer _ => 9
  | .fetch _ _ _ _ => 10
  | .chunk _ _ _ _ _ _ => 11

/-- The PULSE body (Table 1-7). -/
def encodePulse (b : PulseBody) : List Byte :=
  toBE 1 b.period ++ toBE 1 (gradeCode b.grade) ++
  toBE 1 (flagBits [b.uplink, b.fresh, b.drainWanted, b.draining, b.leaving, b.supplyFail]) ++
  toBE 2 b.minute ++ toBE 2 b.milli ++ toBE 2 b.served ++
  toBE 2 b.demand.game ++ toBE 2 b.demand.standard ++ toBE 2 b.demand.bulk ++ toBE 2 b.demand.update ++
  toBE 4 b.activeImage ++ toBE 4 b.incImage ++ toBE 4 b.incLength ++ toBE 4 b.incCheck ++
  toBE 1 (incCode b.incState) ++ toBE 2 b.held

/-- One SIGHTING entry (Table 1-8). -/
def encodeListing (e : Listing) : List Byte :=
  addrBytes e.addr ++ toBE 2 (unsigned16 e.reading) ++ toBE 1 (flagBits [e.servedHere]) ++ toBE 2 e.tenure.toNat

/-- A bulletin body in bytes (Tables 1-7 to 1-10). -/
def encodeBody : Body → List Byte
  | .pulse b => encodePulse b
  | .sighting es => toBE 1 es.length ++ es.flatMap encodeListing
  | .claim a n r => addrBytes a ++ toBE 2 n.toNat ++ toBE 2 (unsigned16 r)
  | .grant a n => addrBytes a ++ toBE 2 n.toNat
  | .refuse a n r => addrBytes a ++ toBE 2 n.toNat ++ toBE 1 r
  | .withdraw a n => addrBytes a ++ toBE 2 n.toNat
  | .arrived a t => addrBytes a ++ toBE 2 t.toNat
  | .context a t p d u x => addrBytes a ++ toBE 2 t.toNat ++ toBE 1 p ++ toBE 1 d ++ toBE 2 u ++ toBE 2 x
  | .offer a => addrBytes a
  | .fetch i f c n => toBE 4 i ++ toBE 2 f ++ toBE 1 c ++ toBE 2 n.toNat
  | .chunk i x n p crc d => toBE 4 i ++ toBE 2 x ++ toBE 2 n.toNat ++ toBE 1 p ++ toBE 2 d.length ++ toBE 4 crc ++ d

/-- A PULSE body of 36 bytes is read; the values R22 names make it malformed. -/
def decodePulse (d : List Byte) : Option PulseBody :=
  if d.length = 36 then
    match gradeOf (field 1 1 d), incStateOf (field 33 1 d) with
    | some grade, some incState =>
      let period := field 0 1 d
      let flags := (d.drop 2).headD 0#8
      if 10 ≤ period ∧ period ≤ 100 ∧ period % 5 = 0 ∧ field 3 2 d ≤ 10079 ∧ field 5 2 d ≤ 59999 then
        some { period := period, grade := grade,
               uplink := bitOf flags 0, fresh := bitOf flags 1, drainWanted := bitOf flags 2,
               draining := bitOf flags 3, leaving := bitOf flags 4, supplyFail := bitOf flags 5,
               minute := field 3 2 d, milli := field 5 2 d, served := field 7 2 d,
               demand := { game := field 9 2 d, standard := field 11 2 d, bulk := field 13 2 d, update := field 15 2 d },
               activeImage := field 17 4 d, incImage := field 21 4 d, incLength := field 25 4 d,
               incCheck := field 29 4 d, incState := incState, held := field 34 2 d }
      else none
    | _, _ => none
  else none

/-- The listings of a SIGHTING, n of them. -/
def decodeListings : Nat → List Byte → List Listing
  | 0, _ => []
  | n + 1, d =>
    { addr := addrAt 0 d, reading := signed16 (field 6 2 d), servedHere := bitOf ((d.drop 8).headD 0#8) 0,
      tenure := BitVec.ofNat 16 (field 9 2 d) } :: decodeListings n (d.drop 11)

/-- A SIGHTING body: an entry count of 1..48 and 11 bytes for each entry (R22, Table 1-8). -/
def decodeSighting (d : List Byte) : Option (List Listing) :=
  let n := field 0 1 d
  if 1 ≤ n ∧ n ≤ 48 ∧ d.length = 1 + 11 * n then some (decodeListings n (d.drop 1)) else none

/-- A body of a known kind is read; none when its length is not what its layout requires, or R22 calls it malformed (R2). -/
def decodeBody (kind : Nat) (d : List Byte) : Option Body :=
  match kind with
  | 1 => (decodePulse d).map .pulse
  | 2 => (decodeSighting d).map .sighting
  | 3 => if d.length = 10 then some (.claim (addrAt 0 d) (BitVec.ofNat 16 (field 6 2 d)) (signed16 (field 8 2 d))) else none
  | 4 => if d.length = 8 then some (.grant (addrAt 0 d) (BitVec.ofNat 16 (field 6 2 d))) else none
  | 5 => if d.length = 9 then some (.refuse (addrAt 0 d) (BitVec.ofNat 16 (field 6 2 d)) (field 8 1 d)) else none
  | 6 => if d.length = 8 then some (.withdraw (addrAt 0 d) (BitVec.ofNat 16 (field 6 2 d))) else none
  | 7 => if d.length = 8 then some (.arrived (addrAt 0 d) (BitVec.ofNat 16 (field 6 2 d))) else none
  | 8 =>
    if d.length = 14 then
      some (.context (addrAt 0 d) (BitVec.ofNat 16 (field 6 2 d)) (field 8 1 d) (field 9 1 d) (field 10 2 d) (field 12 2 d))
    else none
  | 9 => if d.length = 6 then some (.offer (addrAt 0 d)) else none
  | 10 =>
    if d.length = 9 then some (.fetch (field 0 4 d) (field 4 2 d) (field 6 1 d) (BitVec.ofNat 16 (field 7 2 d))) else none
  | 11 =>
    if 15 ≤ d.length ∧ d.length = 15 + field 9 2 d then
      some (.chunk (field 0 4 d) (field 4 2 d) (BitVec.ofNat 16 (field 6 2 d)) (field 8 1 d) (field 11 4 d) (d.drop 15))
    else none
  | _ => none

/-! ## Mesh frames sent -/

/-- The outer header (Table 1-5): destination, the own station address, the frame type of the start record (R1). -/
def outerHeader (dst : Addr) (frameType : Nat) : List Byte :=
  addrBytes dst ++ addrBytes Config.ownAddress ++ toBE 2 frameType

/-- A bulletin as it is sent: to the broadcast address, with its target in the bulletin header (R1, Table 1-5). -/
def bulletinBytes (p : Params) (target : Nat) (seq : BitVec 16) (b : Body) : List Byte :=
  outerHeader Config.broadcast p.frameType ++ toBE 2 p.meshTag ++ toBE 1 (bodyKind b) ++ toBE 1 p.node ++
    toBE 1 target ++ toBE 2 seq.toNat ++ toBE 2 (encodeBody b).length ++ encodeBody b

/-- A carried frame as it is sent (R1, Table 1-6). -/
def carriedBytes (p : Params) (dst : Addr) (dest : Nat) (cls : Class) (reForwarded : Bool) (frame : List Byte) : List Byte :=
  outerHeader dst p.frameType ++ toBE 2 p.meshTag ++ toBE 1 128 ++ toBE 1 p.node ++ toBE 1 dest ++
    toBE 1 (classCode cls) ++ toBE 1 (flagBits [reForwarded]) ++ toBE 2 frame.length ++ frame

/-- A DATA item as the node port sends it: the tag of R42 and the frame. -/
def nodeItemBytes (toClient : Bool) (cls : Class) (frame : List Byte) : List Byte :=
  toBE 1 1 ++ toBE 1 (flagBits [toClient, toClient]) ++ toBE 1 0 ++ toBE 1 0 ++ toBE 1 (classCode cls) ++ toBE 1 0 ++
    toBE 2 frame.length ++ frame

/-! ## Node tag flags (Table 2-4) -/

def itemToClient (it : NodeItem) : Bool := bitOf it.flags 0
def itemSubjectDest (it : NodeItem) : Bool := bitOf it.flags 1
def itemHasSample (it : NodeItem) : Bool := bitOf it.flags 2

/-- The subject station address: the frame's destination or source address by the subject flag (R69). -/
def itemSubject (it : NodeItem) : Addr := if itemSubjectDest it then addrAt 0 it.bytes else addrAt 6 it.bytes

/-- The checks of R35 on a DATA item. -/
def dataItemOk (it : NodeItem) : Bool :=
  it.kind == 1#8 && decide (it.origin.toNat ≤ 2) && decide (it.bodyLen.toNat = it.bytes.length) &&
  decide (14 ≤ it.bodyLen.toNat) && decide (it.bodyLen.toNat ≤ 1536) && it.pairs == 0#8 &&
  !(!itemToClient it && it.origin == 2#8)

/-- The checks of R35 on a SAMPLES item. -/
def samplesItemOk (it : NodeItem) : Bool :=
  it.kind == 2#8 && decide (it.origin.toNat ≤ 2) && decide (it.bodyLen.toNat = it.bytes.length) &&
  decide (1 ≤ it.pairs.toNat) && decide (it.pairs.toNat ≤ 32) && decide (it.bodyLen.toNat = 7 * it.pairs.toNat)

/-- The pairs of a SAMPLES item: a station address and a sample in dBm each. -/
def samplePairs : Nat → List Byte → List (Addr × Int)
  | 0, _ => []
  | n + 1, d => (addrAt 0 d, signed8 ((d.drop 6).headD 0#8)) :: samplePairs n (d.drop 7)

/-! ## Reading a client frame (R66 to R69) -/

/-- What the FC reads from an IP frame beside its key. -/
structure FrameInfo where
  version : Nat
  proto : Proto
  fragment : Bool
  srcIp : Nat
  dstIp : Nat
  srcPort : Nat
  dstPort : Nat
  dscp : Nat
  priority : Option Nat
  deriving DecidableEq, Repr

def isTagType (t : Nat) : Bool := t == 0x8100 || t == 0x88A8

/-- Where the type stands after up to two tags, and the outer priority; none when a third tag follows or the frame is too
short to hold a tag it announces (R66). -/
def afterTags (d : List Byte) : Option (Nat × Option Nat) :=
  if isTagType (field 12 2 d) then
    if d.length < 18 then none
    else
      let prio := some (field 14 1 d / 32)
      if isTagType (field 16 2 d) then
        if d.length < 22 then none
        else if isTagType (field 20 2 d) then none
        else some (20, prio)
      else some (16, prio)
  else some (12, none)

/-- TCP is 6 and UDP is 17; every other value is OTHER (R67). -/
def protoOf (n : Nat) : Proto := if n = 6 then .tcp else if n = 17 then .udp else .other

/-- The ports at an offset, for TCP and UDP frames that are not non-first fragments; 0 for the rest; none when the frame
ends before ports it should have (R67, R68). -/
def portsAt (proto : Proto) (fragment : Bool) (off : Nat) (d : List Byte) : Option (Nat × Nat) :=
  if proto == .other || fragment then some (0, 0)
  else if d.length < off + 4 then none
  else some (field off 2 d, field (off + 2) 2 d)

/-- The IPv4 reading from offset p (R67). -/
def readIpv4 (p : Nat) (prio : Option Nat) (d : List Byte) : Option FrameInfo :=
  let ihl := field p 1 d % 16
  let proto := protoOf (field (p + 9) 1 d)
  let fragment := field (p + 6) 2 d % 8192 != 0
  if field p 1 d / 16 = 4 ∧ 5 ≤ ihl ∧ p + ihl * 4 ≤ d.length then
    match portsAt proto fragment (p + ihl * 4) d with
    | some (sp, dp) =>
      some { version := 4, proto := proto, fragment := fragment, srcIp := field (p + 12) 4 d, dstIp := field (p + 16) 4 d,
             srcPort := sp, dstPort := dp, dscp := field (p + 1) 1 d / 4, priority := prio }
    | none => none
  else none

/-- The IPv6 reading from offset p (R68). -/
def readIpv6 (p : Nat) (prio : Option Nat) (d : List Byte) : Option FrameInfo :=
  let proto := protoOf (field (p + 6) 1 d)
  let trafficClass := (field p 1 d % 16) * 16 + field (p + 1) 1 d / 16
  if field p 1 d / 16 = 6 ∧ p + 40 ≤ d.length then
    match portsAt proto false (p + 40) d with
    | some (sp, dp) =>
      some { version := 6, proto := proto, fragment := false, srcIp := field (p + 8) 16 d, dstIp := field (p + 24) 16 d,
             srcPort := sp, dstPort := dp, dscp := trafficClass / 4, priority := prio }
    | none => none
  else none

/-- The reading of a client frame; none makes it non-IP (R66). -/
def readFrame (d : List Byte) : Option FrameInfo :=
  match afterTags d with
  | some (o, prio) =>
    if field o 2 d = 0x0800 then readIpv4 (o + 2) prio d
    else if field o 2 d = 0x86DD then readIpv6 (o + 2) prio d
    else none
  | none => none

/-- The flow key, oriented by the subject flag (R69, Table 4-1). -/
def flowKey (subject : Addr) (subjectDest : Bool) (f : FrameInfo) : FlowKey :=
  if subjectDest then
    { subject := subject, version := f.version, proto := f.proto, remote := f.srcIp, remotePort := f.srcPort,
      localPort := f.dstPort }
  else
    { subject := subject, version := f.version, proto := f.proto, remote := f.dstIp, remotePort := f.dstPort,
      localPort := f.srcPort }

/-! ## SUBMIT (Table 10-1) -/

/-- The host tag of a SUBMIT. -/
def submitTag (t : Submit) : Byte := t.headD 0#8

/-- The argument length field of a SUBMIT. -/
def submitLen (t : Submit) : Nat := field 1 2 t

/-- The argument bytes its length field gives. -/
def submitArgs (t : Submit) : List Byte := (t.drop 3).take (submitLen t)

/-- A SUBMIT is whole: chip select was held for its header and, unless its length field exceeds 1040, for the argument
bytes it announces (R171). -/
def submitWhole (t : Submit) : Bool :=
  decide (3 ≤ t.length) && (decide (1040 < submitLen t) || decide (3 + submitLen t ≤ t.length))

/-- An optional profile argument: 0xFF is absent (R172). -/
def optProfile (v : Nat) : Option Nat := if v = 0xFF then none else some v

/-- An optional extra-minutes argument: 0xFFFF is absent (R172). -/
def optExtra (v : Nat) : Option Nat := if v = 0xFFFF then none else some v

/-! ## Event records (Tables 10-4 and 10-5) -/

/-- An event's subject: whether it is a station address, and its six bytes as a number. -/
def eventSubject : Event → Bool × Nat
  | .peerJoined n | .peerSilent n | .peerGone n | .nodeClash n _ | .periodMismatch n _ | .timeBorrowed n
  | .timeSkew n _ _ | .imageFound n _ _ | .imageConflict n _ _ _ => (false, n)
  | .steer a _ _ | .steerCancelled a _ | .steerFailed a _ _ | .clientArrived a _ _ | .doubleServe a _ _ _
  | .orphaned a _ | .clientBlocked a _ _ | .clientAllowed a _ => (true, a.toNat)
  | .noUplink | .profileClosed _ _ | .profileOpened _ _ | .imageReady _ | .imageCheckFailed _ _ | .imageRejected _
  | .flashFault _ | .drainBegun _ _ | .readyToRestart _ _ _ | .activationLapsed _ | .swapped _ _ | .supplyFail
  | .supplyRestored | .started _ | .startClamped _ _ _ | .startBad _ _ => (false, 0)

/-- An event's detail bytes, in the order of Table 10-4. -/
def eventDetail : Event → List Byte
  | .nodeClash _ a => addrBytes a
  | .periodMismatch _ p => toBE 1 p
  | .timeSkew _ m ms => toBE 2 m ++ toBE 2 ms
  | .steer _ n c => toBE 1 n ++ toBE 2 c.toNat
  | .steerCancelled _ n => toBE 1 n
  | .steerFailed _ n lost => toBE 1 n ++ toBE 1 (if lost then 2 else 1)
  | .clientArrived _ n t => toBE 1 n ++ toBE 2 t.toNat
  | .doubleServe _ n t h => toBE 1 n ++ toBE 2 t.toNat ++ toBE 2 h.toNat
  | .orphaned _ n => toBE 1 n
  | .profileClosed p c | .profileOpened p c | .clientBlocked _ p c => toBE 1 p ++ toBE 1 (causeCode c)
  | .clientAllowed _ p => toBE 1 p
  | .imageFound _ i l => toBE 4 i ++ toBE 4 l
  | .imageConflict _ i h o => toBE 4 i ++ toBE 2 h ++ toBE 2 o
  | .imageReady i | .imageRejected i | .activationLapsed i => toBE 4 i
  | .imageCheckFailed i n => toBE 4 i ++ toBE 1 n
  | .flashFault f => toBE 1 (faultCode f.kind) ++ toBE 1 (slotCode f.slot) ++ toBE 2 f.block ++ toBE 2 f.chunk
  | .drainBegun n i => toBE 2 n ++ toBE 4 i
  | .readyToRestart i n limit => toBE 4 i ++ toBE 2 n ++ toBE 1 (if limit then 2 else 1)
  | .swapped i n => toBE 4 i ++ toBE 4 n
  | .started c => toBE 1 (causeOfReset c)
  | .startClamped c g u => toBE 1 c ++ toBE 2 g ++ toBE 2 u
  | .startBad r o => toBE 1 (badCode r) ++ toBE 2 o
  | .peerJoined _ | .peerSilent _ | .peerGone _ | .timeBorrowed _ | .noUplink | .supplyFail | .supplyRestored => []

/-- Bytes filled up with zeros to n. -/
def padTo (n : Nat) (d : List Byte) : List Byte := d ++ List.replicate (n - d.length) 0#8

/-- The 20 bytes of an event record (Table 10-5). -/
def eventBytes (r : EventRec) : List Byte :=
  toBE 1 (eventCode r.event) ++ toBE 1 (flagBits [r.overrun, (eventSubject r.event).1]) ++
    toBE 6 (eventSubject r.event).2 ++ padTo 8 (eventDetail r.event) ++ toBE 2 r.minute ++ toBE 2 r.milli

end Sys2Proof.Machine
end

