-- ==== Sys2Proof/Machine/Flags.lean ====
section
/-! DEFINITION. Conditions and status the part computes from its state: the interrupt output, the echo, the activation
conditions, the image that is due, what a peer blocks, transmitter readiness. -/

namespace Sys2Proof.Machine

/-- The interrupt output is asserted (low): the event queue is not empty, or a DONE result has not been polled (R181). -/
def interruptAsserted (s : State) : Bool :=
  !s.ml.events.isEmpty || (s.ml.state == .done && !s.ml.polled)

/-- The echo of bytes 0..7, copied at the assertion of chip select (R170, Table 10-1). -/
def echoBytes (s : State) : List Byte :=
  toBE 1 s.ml.code ++ [s.ml.tag] ++ toBE 1 (reqStateCode s.ml.state) ++
    toBE 1 (if s.ml.state == .done then outcomeCode s.ml.outcome else 0) ++
    toBE 1 ((if s.ml.busy then 1 else 0) + 2 * partCode s.sl.part) ++
    toBE 1 s.ml.events.length ++ toBE 2 s.ml.result.length

/-- What a transaction of n bytes shifts out when the part has these bytes for it: zeros where it has nothing (R170). -/
def shiftedOut (n : Nat) (d : List Byte) : List Byte := (padTo n d).take n

/-! ## Image Engine -/

/-- The active image number, 0 when the active slot holds no image (R139). -/
def activeNumber (s : State) : Nat :=
  match s.ie.activeDesc with
  | some d => d.number
  | none => 0

/-- The own incoming number (R139). -/
def ownIncomingNumber (s : State) : Nat :=
  match s.ie.inc with
  | .filling | .checking | .ready | .rejected => (s.ie.incDesc.map Desc.number).getD 0
  | .erasing =>
    match s.ie.after with
    | .image d => d.number
    | _ => 0
  | .empty => 0

/-- The advertised descriptor: incoming while FILLING, CHECKING or READY, active otherwise, none without an active image
(R139). -/
def advertised (s : State) : Option Desc :=
  match s.ie.inc with
  | .filling | .checking | .ready => s.ie.incDesc
  | _ => s.ie.activeDesc

/-- How many chunks an image of this length has (R136). -/
def chunkCount (length : Nat) : Nat := ceilDiv length 1024

/-- The held-chunk count: chunks marked present (R139). -/
def heldCount (s : State) : Nat := s.ie.presence.countP (fun p => p.2 == .present)

/-- The incoming image is READY (R139). -/
def incReady (s : State) : Bool := s.ie.inc == .ready

/-! ## Activation Controller -/

/-- The image is due: the incoming slot is READY with a number greater than the active image number (R158). -/
def imageDue (s : State) : Bool := incReady s && decide (activeNumber s < (s.ie.incDesc.map Desc.number).getD 0)

/-- The holdoff remaining is 0 (R159, condition 1). -/
def condHoldoff (s : State) : Bool := decide (s.ac.holdoffEnds ≤ s.now)

/-- The maintenance indication is open or the activate-now mark is set (R159, condition 2). -/
def condMaintenance (s : State) : Bool := s.su.maintenance || s.ac.activateNow

/-- The game-quiet condition (R80; R159, condition 3). -/
def condQuiet (s : State) : Bool :=
  s.fc.gameCount == 0 &&
    match s.fc.quietSince with
    | some t => decide (t + Config.gameQuietNs ≤ s.now)
    | none => false

/-- The clock is BORROWED or SET or the activate-now mark is set (R159, condition 4). -/
def condClock (s : State) : Bool := s.su.clock.grade != .unset || s.ac.activateNow

/-- All conditions of R159 hold. -/
def activationOk (s : State) : Bool := condHoldoff s && condMaintenance s && condQuiet s && condClock s

/-- DRAINING, LEAVING, SWAPPING or SWAPPED: no claim is sent (R48). -/
def acBusy (s : State) : Bool :=
  match s.ac.state with
  | .draining | .leaving | .swapping | .swapped => true
  | _ => false

/-- IDLE or WAITING: discoveries are taken (R142). -/
def acQuiet (s : State) : Bool := s.ac.state == .idle || s.ac.state == .waiting

/-- The Activation Controller is DRAINING. -/
def acDraining (s : State) : Bool := s.ac.state == .draining

/-- The peer blocks this node (R161). -/
def peerBlocks (s : State) (n : Nat) : Bool :=
  match peerOf s n with
  | some p => p.state == .present &&
      (p.adv.draining || p.adv.leaving || (decide (n < s.sl.params.node) && p.adv.drainWanted))
  | none => false

/-- Some peer blocks this node (R161). -/
def anyBlocks (s : State) : Bool := nodes.any (peerBlocks s)

/-! ## Transmitters -/

/-- The backhaul transmitter is READY: neither BUSY nor HELD, in a part that is RUNNING (R106). -/
def backhaulReady (s : State) : Bool := running s && s.es.backhaulTx.isNone && s.es.pause.isNone

/-- The node port transmitter may take an entry (R112). -/
def nodePortReady (s : State) : Bool := running s && s.es.nodeTx.isNone

/-- Nanoseconds a frame of n bytes takes on a port: eight times its length in bits at the strapped rate (R106, R112). -/
def wireNs (fast : Bool) (n : Nat) : Nat := n * (if fast then 8 else 80)

/-- Nanoseconds of 512 bit times on the backhaul port (R106). -/
def pauseUnitNs (s : State) : Nat := if s.pins.straps.bhFast then 512 else 5120

/-! ## Clock -/

/-- The clock's day number (R118). -/
def dayOf (c : Clock) : Nat := c.minute / 1440

end Sys2Proof.Machine
end

