-- ==== Sys2Proof/Machine/Roles.lean ====
section
/-! DEFINITION. Shared operations of the Roaming Controller: role changes, readings, claims, contexts, evictions, drain offers,
and the loss of a peer's clients (chapters 2 and 3). -/

namespace Sys2Proof.Machine

/-- The role timer that belongs to a role, from the instant now (R24). -/
def roleTimer (p : Params) (now : Nat) (r : Role) : Option Nat :=
  match r with
  | .claiming => some (now + Config.claimWaitNs)
  | .expecting | .handing => some (now + p.handWait * Config.secNs)
  | .orphan | .departed => some (now + Config.removalNs)
  | .served | .remote => none

/-- An entry whose role changes: the new role's timer starts, what belongs to the old role alone becomes absent, the better
count is 0 when it leaves REMOTE, and the last activity is set (R24, R34, R47). -/
def changeRole (p : Params) (now : Nat) (r : Role) (c : Client) : Client :=
  { c with
    role := r
    timer := roleTimer p now r
    lastActivity := now
    claimNo := if r == .claiming || r == .expecting || r == .handing then c.claimNo else none
    claimant := if r == .handing then c.claimant else none
    verdict := if isServing r then c.verdict else none
    active := if isServing c.role && !isServing r then false else c.active
    better := if c.role == .remote && r != .remote then 0 else c.better }

/-- The entry's serving node; its serving node's reading becomes absent and its better count 0 when it changes (R29,
R47). -/
def setServing (n : Nat) (c : Client) : Client :=
  if c.serving = n then c else { c with serving := n, servingReading := none, better := 0 }

/-- The holddown is set: the holddown time of the start record from now (R44). -/
def setHolddown (p : Params) (now : Nat) (c : Client) : Client :=
  { c with holddownEnds := now + p.holddown * Config.secNs }

/-- The holddown remaining is above 0 (R44). -/
def holddownRuns (now : Nat) (c : Client) : Bool := decide (now < c.holddownEnds)

/-- The offers of a client leave the offer list (R63). -/
def dropOffersOf (i : Nat) (s : State) : State :=
  s.setRc { s.rc with offers := s.rc.offers.filter (fun o => o.client != i) }

/-- Client Table entry i takes a role; an entry that leaves SERVED loses its offer (R63). -/
def toRole (i : Nat) (r : Role) (f : Client → Client) (s : State) : State :=
  let t := modClient i (fun c => f (changeRole s.sl.params s.now r c)) s
  if r == .served then t else dropOffersOf i t

/-! ## Drain offers (section 3.7) -/

/-- A Client Table entry may be offered (R62). -/
def offerEligible (s : State) (i : Nat) (c : Client) : Bool :=
  c.role == .served && !(s.rc.offers.any (fun o => o.client == i)) &&
    match c.best with
    | some r => isPresent s r.node && !isDrainingPeer s r.node &&
        match tabGet s.rc.lapsed i with
        | some t => decide (t < r.since)
        | none => true
    | none => false

/-- One OFFER: the lowest-indexed eligible entry, to the node of its best peer reading (R62). -/
def offerOne (s : State) : State :=
  match s.rc.clients.find? (fun p => offerEligible s p.1 p.2) with
  | some (i, c) =>
    match c.best with
    | some r =>
      let t := sendBulletin r.node (.offer c.addr) s
      t.setRc { t.rc with offers := t.rc.offers ++ [{ client := i, node := r.node, ends := t.now + Config.claimWaitNs }] }
    | none => s
  | none => s

/-- The offer list is filled as far as it holds, up to n offers more. -/
def offerLoop : Nat → State → State
  | 0, s => s
  | n + 1, s => if s.rc.offers.length < Config.offerListMax then offerLoop n (offerOne s) else s

/-- While the Activation Controller is DRAINING, the offer list is kept filled (R62). -/
def offerFill (s : State) : State := if acDraining s then offerLoop Config.offerListMax s else s

/-- The Activation Controller leaves DRAINING: offer list and lapsed record are emptied (R63). -/
def clearOffers (s : State) : State := s.setRc { s.rc with offers := [], lapsed := [] }

/-! ## Readings (R29) -/

/-- A reading from node n recorded in an entry (R29). -/
def recordReading (n : Nat) (reading : Int) (now : Nat) (c : Client) : Client :=
  let c1 :=
    if c.serving = n ∧ (c.role = .remote ∨ c.role = .claiming ∨ c.role = .expecting) then
      { c with servingReading := some { value := reading, since := now } }
    else c
  let replace :=
    match c.best with
    | none => true
    | some b => b.node == n || decide (b.value < reading)
  if replace then { c1 with best := some { node := n, value := reading, since := now } } else c1

/-- Every reading recorded from node n becomes absent (R29). -/
def dropReadings (n : Nat) (c : Client) : Client :=
  let c1 := match c.best with
    | some b => if b.node = n then { c with best := none } else c
    | none => c
  if c1.serving = n then { c1 with servingReading := none, better := 0 } else c1

/-! ## Loss of a peer (R32, R53) -/

/-- An entry served by lost node n becomes ORPHAN with ORPHANED raised (R32). -/
def orphanOne (n i : Nat) (s : State) : State :=
  match clientAt s i with
  | some c =>
    if c.serving = n ∧ (c.role = .remote ∨ c.role = .claiming ∨ c.role = .expecting) then
      raise (.orphaned c.addr n) (toRole i .orphan (setServing 0) s)
    else s
  | none => s

/-- A HANDING entry whose claimant n is lost returns to SERVED with STEER FAILED raised (R53). -/
def handBackOne (n i : Nat) (s : State) : State :=
  match clientAt s i with
  | some c =>
    if c.role = .handing ∧ c.claimant = some n then raise (.steerFailed c.addr n true) (toRole i .served id s) else s
  | none => s

/-- The RC's part in the loss of peer n: orphaning, then hand-backs, in index order; its readings and the offers to it go
(R29, R32, R53, R63). -/
def loseClients (n : Nat) (s : State) : State :=
  let t := forClients (handBackOne n) (forClients (orphanOne n) s)
  t.setRc { t.rc with clients := tabMap t.rc.clients (dropReadings n),
                      offers := t.rc.offers.filter (fun o => o.node != n) }

/-! ## Claims (R45, R48) -/

/-- The serving node is PRESENT and its last accepted PULSE advertises neither DRAINING nor LEAVING (R48). -/
def servingTakesClaims (s : State) (n : Nat) : Bool := isPresent s n && !isDrainingPeer s n

/-- This node may claim at all: its served count is below H and its Activation Controller is not busy (R48). -/
def mayClaim (s : State) : Bool := decide (servedCount s < s.sl.params.h) && !acBusy s

/-- A CLAIM is sent for entry i: it takes the next claim number, carries the local average, and the entry becomes CLAIMING
(R45, R48). -/
def sendClaim (i : Nat) (s : State) : State :=
  match clientAt s i with
  | some c =>
    match c.average with
    | some a =>
      let number := s.rc.claimCounter
      let s1 := s.setRc { s.rc with claimCounter := number + 1 }
      let s2 := sendBulletin c.serving (.claim c.addr number a.value) s1
      toRole i .claiming (fun x => { x with claimNo := some number, better := 0, refusal := none }) s2
    | none => s
  | none => s

/-- The claim evaluation for a listing of entry i from node n (R46, R48). -/
def evaluateClaim (i n : Nat) (reading : Int) (s : State) : State :=
  match clientAt s i with
  | some c =>
    if c.role = .remote ∧ c.serving = n ∧ c.servingReading.isSome then
      match c.average with
      | none => modClient i (fun x => { x with better := 0 }) s
      | some a =>
        if 4 * (s.sl.params.margin : Int) ≤ a.value - reading then
          let t := modClient i (fun x => { x with better := min (x.better + 1) 7 }) s
          if s.sl.params.k ≤ min (c.better + 1) 7 ∧ mayClaim s ∧ ¬ holddownRuns s.now c ∧ servingTakesClaims s n then
            sendClaim i t
          else t
        else modClient i (fun x => { x with better := 0 }) s
    else s
  | none => s

/-! ## Contexts (R59) -/

/-- CONTEXT for an entry as it stood, to node n with tenure t (R59). -/
def sendContext (c : Client) (n : Nat) (t : BitVec 16) (s : State) : State :=
  sendBulletin n (.context c.addr t c.profile c.day c.used c.extra) s

/-! ## Creation and eviction (R26, R27, R30) -/

/-- The older of two entries by last activity, the lower index between equals (R27). -/
def olderOf (a b : Nat × Client) : Nat × Client :=
  if b.2.lastActivity < a.2.lastActivity then b else a

/-- Among the entries of a role, the one with the oldest last activity (R27, R30). -/
def oldestOf (s : State) (r : Role) : Option Nat :=
  match s.rc.clients.filter (fun p => p.2.role == r) with
  | [] => none
  | p :: rest => some (rest.foldl olderOf p).1

/-- The entry to evict among these roles, the first role that has one (R27, R30). -/
def victimOf (s : State) (roles : List Role) : Option Nat := roles.findSome? (oldestOf s)

/-- A free index, the lowest, or one freed by eviction among these roles; the state after the eviction (R23, R25, R27). -/
def makeRoom (roles : List Role) (s : State) : Option (Nat × State) :=
  match tabFree s.rc.clients Config.clientEntries with
  | some i => some (i, s)
  | none =>
    match victimOf s roles with
    | some i => some (i, removeClient i s)
    | none => none

/-- A new entry: everything optional absent, counters 0, flags clear, the pending profile, the clock's day (R26, R30). -/
def newClient (s : State) (a : Addr) (r : Role) (serving : Nat) (t : BitVec 16) : Client :=
  { addr := a, role := r, serving := serving, tenure := t, average := none, best := none, servingReading := none,
    better := 0, claimNo := none, claimant := none, timer := none, holddownEnds := 0,
    profile := s.sl.params.pendingProfile, given := false, day := dayOf s.su.clock, used := 0, extra := 0, drawn := 0,
    active := false, verdict := none, games := 0, lastActivity := s.now, refusal := none }

/-! ## Samples (R36) -/

/-- A sample clamped to -100..-10 dBm (R36). -/
def clampSample (v : Int) : Int := if v < -100 then -100 else if -10 < v then -10 else v

/-- The local average after a clamped sample: four times it, or a step of an eighth of the difference rounded down
(R36). -/
def averageAfter (a : Option Signal) (sample : Int) : Int :=
  match a with
  | none => 4 * clampSample sample
  | some s => s.value + (4 * clampSample sample - s.value) / 8

/-- A signal sample for a station address; an address not in the table drops it (R36). -/
def takeSample (a : Addr) (sample : Int) (s : State) : State :=
  match findClient s a with
  | some (i, c) =>
    putClient i { c with average := some { value := averageAfter c.average sample, since := s.now },
                         lastActivity := s.now } s
  | none => s

end Sys2Proof.Machine
end

