-- ==== Sys2Proof/Machine/Egress.lean ====
section
/-! DEFINITION. Shared operations of the Egress Scheduler: cells, queues, admission, head drop, limits, tokens and the round
robin (chapter 6). -/

namespace Sys2Proof.Machine

/-- The five frame queues (Table 6-1). -/
inductive QName where
  | game | standard | bulk | update | node
  deriving DecidableEq, Repr

/-- The queue of a backhaul class. -/
def queueName : Class → QName
  | .game => .game
  | .standard => .standard
  | .bulk => .bulk
  | .update => .update

def Es.queue (e : Es) : QName → List QEntry
  | .game => e.game
  | .standard => e.standard
  | .bulk => e.bulk
  | .update => e.update
  | .node => e.node

def Es.setQueue (e : Es) (q : QName) (l : List QEntry) : Es :=
  match q with
  | .game => { e with game := l }
  | .standard => { e with standard := l }
  | .bulk => { e with bulk := l }
  | .update => { e with update := l }
  | .node => { e with node := l }

/-- A queue's limit in cells (Table 6-1). -/
def limitOf (p : Params) : QName → Nat
  | .game => p.limGame
  | .standard => p.limStandard
  | .bulk => p.limBulk
  | .update => p.limUpdate
  | .node => p.limNode

/-- ceil(L / 256) cells (R100). -/
def cellsFor (len : Nat) : Nat := ceilDiv len 256

/-- The cells a queue holds. -/
def cellsOf (l : List QEntry) : Nat := (l.map QEntry.cells).sum

/-- The bytes a queue holds, by admitted length (R114). -/
def bytesOf (l : List QEntry) : Nat := (l.map QEntry.len).sum

/-- An entry of the given admitted length (Table 6-2). -/
def mkEntry (len : Nat) (cls : Class) (load : Load) : QEntry :=
  { len := len, cells := cellsFor len, cls := cls, load := load }

/-- The admitted length of a CHUNK bulletin with n data bytes: 14, 9 and 15 bytes of headers and fields (R111). -/
def chunkLength (n : Nat) : Nat := 38 + n

/-- Both conditions of admission: the queue's limit and the free cells (R102). -/
def fits (limit : Nat) (q : List QEntry) (free cells : Nat) : Bool :=
  decide (cellsOf q + cells ≤ limit) && decide (cells ≤ free)

/-- The GAME head drop: oldest frames go until the new frame fits or the queue is empty; the queue and the free cells as it
leaves them (R104). -/
def headDrop (limit cells : Nat) : List QEntry → Nat → List QEntry × Nat
  | [], free => ([], free)
  | e :: r, free => if fits limit (e :: r) free cells then (e :: r, free) else headDrop limit cells r (free + e.cells)

/-- A frame offered to GAME (R104). -/
def admitGame (limit : Nat) (x : QEntry) (e : Es) : Es × Bool :=
  let d := headDrop limit x.cells e.game e.free
  if fits limit d.1 d.2 x.cells then ({ e with game := d.1 ++ [x], free := d.2 - x.cells }, true)
  else ({ e with game := d.1, free := d.2 }, false)

/-- A frame offered to a queue other than GAME (R103). -/
def admitTail (limit : Nat) (q : QName) (x : QEntry) (e : Es) : Es × Bool :=
  if fits limit (e.queue q) e.free x.cells then
    ({ e.setQueue q (e.queue q ++ [x]) with free := e.free - x.cells }, true)
  else (e, false)

/-- A frame offered to a queue, with the limit in force (R102). -/
def admitFrame (p : Params) (q : QName) (x : QEntry) (e : Es) : Es × Bool :=
  match q with
  | .game => admitGame (limitOf p .game) x e
  | .standard => admitTail (limitOf p .standard) .standard x e
  | .bulk => admitTail (limitOf p .bulk) .bulk x e
  | .update => admitTail (limitOf p .update) .update x e
  | .node => admitTail (limitOf p .node) .node x e

/-- The ES answers an offer with ADMITTED or DROPPED; while the part is not RUNNING every offer is DROPPED (R102). -/
def offer (q : QName) (x : QEntry) (s : State) : State × Bool :=
  if running s then
    let r := admitFrame s.sl.params q x s.es
    (s.setEs r.1, r.2)
  else (s, false)

/-- An admission to a backhaul class queue counts in the class's arrivals (R81). -/
def countArrival (c : Class) (len : Nat) (s : State) : State :=
  s.setFc { s.fc with arrivals := s.fc.arrivals.put c (addBytes (s.fc.arrivals.at c) len) }

/-- Offered to a backhaul class queue, and counted when admitted (R81, R102). -/
def offerClass (c : Class) (x : QEntry) (s : State) : State × Bool :=
  let r := offer (queueName c) x s
  (if r.2 then countArrival c x.len r.1 else r.1, r.2)

/-! ## Limits lowered by a reload (R115) -/

/-- The oldest entries go until the queue is within the limit (GAME, R115). -/
def trimOldest (limit : Nat) : List QEntry → List QEntry
  | [] => []
  | e :: r => if cellsOf (e :: r) ≤ limit then e :: r else trimOldest limit r

/-- The newest entries go until the queue is within the limit (the other queues, R115). -/
def trimNewest (limit : Nat) (q : List QEntry) : List QEntry := (trimOldest limit q.reverse).reverse

/-- The queues brought within the limits in force, the removed frames' cells returned (R115). -/
def trimQueues (p : Params) (e : Es) : Es :=
  let g := trimOldest p.limGame e.game
  let st := trimNewest p.limStandard e.standard
  let b := trimNewest p.limBulk e.bulk
  let u := trimNewest p.limUpdate e.update
  let n := trimNewest p.limNode e.node
  let held := cellsOf e.game + cellsOf e.standard + cellsOf e.bulk + cellsOf e.update + cellsOf e.node
  let kept := cellsOf g + cellsOf st + cellsOf b + cellsOf u + cellsOf n
  { e with game := g, standard := st, bulk := b, update := u, node := n, free := e.free + (held - kept) }

/-! ## Tokens and round robin (R105, R107, R108) -/

/-- A count refilled: 256 times the grant plus the debt carried (R105). -/
def refillOne (old : Int) (grant : Nat) : Int := 256 * (grant : Int) + min old 0

/-- The four counts refilled from the loaded grants (R105). -/
def refill (t : IntQuad) (g : Quad) : IntQuad :=
  { game := refillOne t.game g.game, standard := refillOne t.standard g.standard,
    bulk := refillOne t.bulk g.bulk, update := refillOne t.update g.update }

/-- The class after one in the cycle STANDARD, BULK, UPDATE (R108). -/
def nextClass : Class → Class
  | .standard => .bulk
  | .bulk => .update
  | .update => .standard
  | .game => .standard

/-- A class is found when its queue holds a frame and its token count is above 0 (R107). -/
def classFound (e : Es) (c : Class) : Bool := !(e.queue (queueName c)).isEmpty && decide (0 < e.tokens.at c)

/-- The class the transmitter serves: GAME when found, else the first found from the pointer on (R107, R108). -/
def chooseClass (e : Es) : Option Class :=
  if classFound e .game then some .game
  else [e.pointer, nextClass e.pointer, nextClass (nextClass e.pointer)].find? (classFound e)

/-- The head of a class queue is taken: it leaves the queue, its cells return, its length is subtracted from the class's
count, and the pointer moves past a round-robin class (R108, R109). -/
def takeHead (c : Class) (x : QEntry) (rest : List QEntry) (e : Es) : Es :=
  { e.setQueue (queueName c) rest with
    free := e.free + x.cells
    tokens := e.tokens.put c (e.tokens.at c - (x.len : Int))
    pointer := if c == .game then e.pointer else nextClass c }

/-- Every queue emptied, every cell free, counts 0, pointer at STANDARD; pause and frames being sent are kept (R116). -/
def esIsolated (e : Es) : Es :=
  { e with game := [], standard := [], bulk := [], update := [], node := [], free := Config.poolCells,
           tokens := IntQuad.zero, pointer := .standard }

end Sys2Proof.Machine
end

