-- ==== Sys2Proof/Machine/Classify.lean ====
section
/-! DEFINITION. Shared operations of the Flow Classifier and the RC's destination resolution: rules, flows, admissions of a client
frame, uplink choice (chapters 2 and 4). -/

namespace Sys2Proof.Machine

/-! ## Rules (R70) -/

/-- A match that is absent, or holds. -/
def optHolds {α : Type} (o : Option α) (f : α → Bool) : Bool :=
  match o with
  | none => true
  | some v => f v

/-- A value within a range, both ends included. -/
def inRange (r : Nat × Nat) (v : Nat) : Bool := decide (r.1 ≤ v) && decide (v ≤ r.2)

/-- Port ranges hold for TCP or UDP frames that are not non-first fragments (R70). -/
def portsUsable (f : FrameInfo) : Bool := f.proto != .other && !f.fragment

/-- Every present match of a rule holds; `profile` is the subject's profile when it is in the Client Table (R70). -/
def ruleMatches (r : Rule) (k : FlowKey) (f : FrameInfo) (profile : Option Nat) : Bool :=
  optHolds r.version (· == k.version) && optHolds r.proto (· == k.proto) &&
  optHolds r.remotePort (fun p => portsUsable f && inRange p k.remotePort) &&
  optHolds r.localPort (fun p => portsUsable f && inRange p k.localPort) &&
  optHolds r.priority (fun p => match f.priority with | some v => inRange p v | none => false) &&
  optHolds r.dscp (· == f.dscp) &&
  optHolds r.profile (fun p => profile == some p)

/-- The rule result: the action of the first valid rule, in index order, whose matches all hold; STANDARD when none does
(R70). -/
def ruleResult (rules : Table Rule) (k : FlowKey) (f : FrameInfo) (profile : Option Nat) : Class :=
  match rules.find? (fun p => p.2.valid && ruleMatches p.2 k f profile) with
  | some p => p.2.action
  | none => .standard

/-! ## Flows (R72 to R74) -/

/-- The flow with a key. -/
def findFlow (s : State) (k : FlowKey) : Option (Nat × Flow) := s.fc.flows.find? (fun p => p.2.key == k)

/-- A role whose subject may get a flow (R73). -/
def flowRole (r : Role) : Bool :=
  match r with
  | .served | .handing | .remote | .claiming | .expecting => true
  | .orphan | .departed => false

/-- A new flow at index j for client i: the rule result, demoted when it is GAME and the client holds its limit; a GAME
flow counts, and the game-quiet instant then has no value (R73, R80). -/
def createFlow (i : Nat) (c : Client) (j : Nat) (k : FlowKey) (result : Class) (s : State) : State × Class :=
  let demoted := result == .game && decide (s.sl.params.gmax ≤ c.games)
  let cls := if demoted then Class.standard else result
  let fl : Flow := { key := k, cls := cls, demoted := demoted, client := i, bytes := 0, lastSeen := s.now }
  let t := s.setFc { s.fc with flows := tabSet s.fc.flows j fl }
  if cls == .game then
    (modClient i (fun x => { x with games := x.games + 1 })
      (t.setFc { t.fc with gameCount := t.fc.gameCount + 1, quietSince := none }), cls)
  else (t, cls)

/-- The lookup misses: the rules decide, and a flow is created when the subject's role and a free index allow it; an
unrecorded GAME frame is STANDARD (R73, R74). The flow's index, if there is one, goes with the class. -/
def flowMiss (k : FlowKey) (f : FrameInfo) (s : State) : State × Class × Option Nat :=
  match findClient s k.subject with
  | some (i, c) =>
    let result := ruleResult s.fc.rules k f (some c.profile)
    match flowRole c.role, tabFree s.fc.flows Config.flowEntries with
    | true, some j =>
      let r := createFlow i c j k result s
      (r.1, r.2, some j)
    | _, _ => (s, if result == .game then Class.standard else result, none)
  | none =>
    let result := ruleResult s.fc.rules k f none
    (s, if result == .game then Class.standard else result, none)

/-- A client frame is classified: a non-IP frame is STANDARD without a flow; a hit takes the flow's class and renews its
last seen; a miss goes by the rules (R66, R72, R73). -/
def classify (subject : Addr) (subjectDest : Bool) (frame : List Byte) (s : State) : State × Class × Option Nat :=
  match readFrame frame with
  | none => (s, .standard, none)
  | some f =>
    let k := flowKey subject subjectDest f
    match findFlow s k with
    | some (j, fl) => (s.setFc { s.fc with flows := tabSet s.fc.flows j { fl with lastSeen := s.now } }, fl.cls, some j)
    | none => flowMiss k f s

/-! ## What follows an admission (R72, R78, R79, R81) -/

/-- An admitted frame's length is added to its flow's bytes this epoch (R72). -/
def countFlow (j : Option Nat) (len : Nat) (s : State) : State :=
  match j with
  | some i =>
    match tabGet s.fc.flows i with
    | some fl => s.setFc { s.fc with flows := tabSet s.fc.flows i { fl with bytes := addBytes fl.bytes len } }
    | none => s
  | none => s

/-- An admitted frame of a SERVED or HANDING client marks it active this minute (R78, R79). -/
def markActive (a : Addr) (s : State) : State :=
  match findClient s a with
  | some (i, c) => if isServing c.role then putClient i { c with active := true } s else s
  | none => s

/-! ## Destinations (R38, R39) -/

/-- Where a frame goes. -/
inductive Dest where
  | nodeSide (toClient : Bool)
  | peer (n : Nat)
  | nowhere
  deriving DecidableEq, Repr

/-- The node has the uplink: this node by its start record, a peer when PRESENT with the UPLINK flag (R39). -/
def hasUplink (s : State) (n : Nat) : Bool :=
  if n = s.sl.params.node then s.sl.params.uplink
  else
    match peerOf s n with
    | some p => p.state == .present && p.adv.uplink
    | none => false

/-- The uplink node: the lowest-numbered candidate (R39). -/
def uplinkNode (s : State) : Option Nat := nodes.find? (hasUplink s)

/-- The destination of a TO_UPLINK frame (R39). -/
def uplinkDest (s : State) : Dest :=
  match uplinkNode s with
  | some n => if n = s.sl.params.node then .nodeSide false else .peer n
  | none => .nowhere

/-- The destination of a TO_CLIENT frame, by the subject's role (R38). -/
def clientDest (s : State) (a : Addr) : Dest :=
  match findClient s a with
  | some (_, c) =>
    match c.role with
    | .served | .handing => .nodeSide true
    | .remote | .claiming | .expecting => .peer c.serving
    | .orphan | .departed => .nowhere
  | none => .nowhere

/-- A frame is offered where it goes: the node-side queue, or the class queue with its destination node (R38, R39). -/
def offerFrame (d : Dest) (cls : Class) (reForwarded : Bool) (frame : List Byte) (s : State) : State × Bool :=
  match d with
  | .nodeSide toClient => offer .node (mkEntry frame.length cls (.nodeSide toClient frame)) s
  | .peer n => offerClass cls (mkEntry frame.length cls (.carried n reForwarded frame)) s
  | .nowhere => (s, false)

/-- NO UPLINK is raised unless its timer is running, and starts it (R39). -/
def noUplink (s : State) : State :=
  match s.rc.noUplink with
  | some _ => s
  | none => raise .noUplink (s.setRc { s.rc with noUplink := some (s.now + Config.noUplinkNs) })

end Sys2Proof.Machine
end

