-- ==== Sys2Proof/Machine/Drain.lean ====
section
/-! DEFINITION. Shared operations of the Activation Controller: what is due, the activation conditions, the drain and its ends
(chapter 9). -/

namespace Sys2Proof.Machine

/-- The incoming image number the events of the AC carry. -/
def incomingNumber (s : State) : Nat := (s.ie.incDesc.map Desc.number).getD 0

/-- The AC takes a state; leaving DRAINING empties the RC's offer list and lapsed record (R63). -/
def acTo (a : AcState) (s : State) : State :=
  let t := s.setAc { s.ac with state := a }
  if acDraining s && a != .draining then clearOffers t else t

/-- The drain and lapse timers stop and the drain-wanted count is 0. -/
def acStopTimers (s : State) : State := s.setAc { s.ac with count := 0, drainTimer := none, lapseTimer := none }

/-- The AC goes to IDLE: timers stop, count 0, activate-now mark cleared (R158, R160). -/
def acToIdle (s : State) : State :=
  let t := acStopTimers (acTo .idle s)
  t.setAc { t.ac with activateNow := false }

/-- The holdoff remaining is set to 30 min (R164, R165). -/
def setHoldoff (s : State) : State := s.setAc { s.ac with holdoffEnds := s.now + Config.holdoffNs }

/-- DRAINING or its limit leads to LEAVING: drain timer stopped, lapse timer started, READY TO RESTART raised (R163). -/
def enterLeaving (limit : Bool) (s : State) : State :=
  let t := acTo .leaving s
  raise (.readyToRestart (incomingNumber t) (servedCount t) limit)
    (t.setAc { t.ac with drainTimer := none, lapseTimer := some (t.now + Config.lapseNs) })

/-- A DRAINING node whose served count is 0 goes on to LEAVING (R162, R163). -/
def acDrained (s : State) : State := if acDraining s && servedCount s == 0 then enterLeaving false s else s

/-- WANTING leads to DRAINING: the drain timer starts, DRAIN BEGUN is raised, the offers begin; an empty node goes on to
LEAVING (R162). -/
def enterDraining (s : State) : State :=
  let t := acTo .draining s
  acDrained (offerFill (raise (.drainBegun (servedCount t) (incomingNumber t))
    (t.setAc { t.ac with drainTimer := some (t.now + Config.drainNs) })))

/-- IDLE and WAITING follow the image that is due; a slot that stops being READY takes the AC to IDLE (R158). -/
def acDue (s : State) : State :=
  match s.ac.state with
  | .idle => if imageDue s then acTo .waiting s else s
  | .waiting | .wanting | .draining | .leaving => if imageDue s then s else acToIdle s
  | .swapping | .swapped => s

/-- WAITING and WANTING follow the conditions (R159). -/
def acConditions (s : State) : State :=
  match s.ac.state with
  | .waiting => if activationOk s then (let t := acTo .wanting s; t.setAc { t.ac with count := 0 }) else s
  | .wanting => if activationOk s then s else (let t := acTo .waiting s; t.setAc { t.ac with count := 0 })
  | _ => s

/-- The AC brought in line with what a command changed: the image that is due, the conditions, a drain that is complete,
the offers of a drain that goes on (R62, R158, R159, R163; that a PULSE which changes only a peer fills them too is
assumption log 57). -/
def acSettle (s : State) : State := offerFill (acDrained (acConditions (acDue s)))

/-- What a drain makes of a command that changed the Client Table: an empty node goes on to LEAVING, a draining one fills
its offer list (R62, R163). -/
def drainSettle (s : State) : State := offerFill (acDrained s)

/-- The AC's look at the Peer Table at an own epoch edge in WANTING (R161). -/
def acEdge (s : State) : State :=
  if s.ac.state == .wanting then
    if anyBlocks s then s.setAc { s.ac with count := 0 }
    else if 3 ≤ s.ac.count then enterDraining (s.setAc { s.ac with count := 4 })
    else s.setAc { s.ac with count := s.ac.count + 1 }
  else s

/-- An accepted PULSE from node n passed to the AC: a blocking peer sets the count to 0 (R161); a lower-numbered PRESENT
peer advertising DRAINING sends a DRAINING node back to WANTING (R162). -/
def acPulse (n : Nat) (b : PulseBody) (s : State) : State :=
  match s.ac.state with
  | .wanting => if peerBlocks s n then s.setAc { s.ac with count := 0 } else s
  | .draining =>
    if isPresent s n && decide (n < s.sl.params.node) && b.draining then acStopTimers (acTo .wanting s) else s
  | _ => s

/-- Entry to ISOLATED: WANTING, DRAINING and LEAVING go to WAITING, their timers stop and the count is 0; the activate-now
mark is cleared (R160, R169). -/
def acIsolated (s : State) : State :=
  let t :=
    match s.ac.state with
    | .wanting | .draining | .leaving => acStopTimers (acTo .waiting s)
    | _ => s
  t.setAc { t.ac with activateNow := false }

end Sys2Proof.Machine
end

