-- ==== Sys2Proof/Machine/Share.lean ====
section
/-! DEFINITION. The share computation: own demand, participants, the four stages, staging and loading (chapter 5). -/

namespace Sys2Proof.Machine

/-- Own demand in a class: queued and arrived blocks, each rounded up, held at 65535 (R85). -/
def demandOf (queued arrived : Nat) : Nat := min (ceilDiv queued 256 + ceilDiv arrived 256) 65535

/-- The four own demands at an edge (R85). -/
def ownDemand (s : State) : Quad :=
  { game := demandOf (bytesOf s.es.game) s.fc.arrivals.game
    standard := demandOf (bytesOf s.es.standard) s.fc.arrivals.standard
    bulk := demandOf (bytesOf s.es.bulk) s.fc.arrivals.bulk
    update := demandOf (bytesOf s.es.update) s.fc.arrivals.update }

/-- Why a peer is left out of the share: the first reason of Table 5-1 that applies (R86). -/
def shareReason (p : Peer) : Option ShareReason :=
  match p.state with
  | .joining => some .joining
  | .silent => some .silent
  | .present =>
    if p.mismatch then some .period
    else if p.adv.supplyFail then some .supply
    else if 4 ≤ p.quiet then some .quiet
    else none

/-- The participants of a snapshot, this node with its own demands (R86). That they stand in node order, here and in READ
SHARE, their bare GAME grants with them, is the model's choice (assumption log 26). -/
def shareParts (s : State) (own : Quad) : List Part :=
  nodes.filterMap (fun n =>
    if n = s.sl.params.node then some { node := n, demand := own, held := false, served := servedCount s }
    else
      match peerOf s n with
      | some p =>
        if (shareReason p).isNone then
          some { node := n, demand := p.adv.demand, held := decide (1 ≤ p.quiet), served := p.adv.served }
        else none
      | none => none)

/-- The excluded peers with their reasons (R86), in node order, which is the model's choice (assumption log 26). -/
def shareExcluded (s : State) : List (Nat × ShareReason) :=
  nodes.filterMap (fun n =>
    match peerOf s n with
    | some p => (shareReason p).map (fun r => (n, r))
    | none => none)

/-- The snapshot of the edge with this epoch number (R93). -/
def takeSnapshot (s : State) (epoch : Nat) (own : Quad) : Snapshot :=
  { epoch := epoch, self := s.sl.params.node,
    params := { cap := s.sl.params.cap, gc := s.sl.params.gc, wS := s.sl.params.wS, wB := s.sl.params.wB,
                wU := s.sl.params.wU },
    parts := shareParts s own, excluded := shareExcluded s }

/-- The participants' demands in a class, summed (R89, R90). -/
def totalDemand (parts : List Part) (c : Class) : Nat := (parts.map (fun p => p.demand.at c)).sum

/-- A participant's GAME grant (R89). -/
def gameGrant (g gcap demand : Nat) : Nat := if g ≤ gcap then demand else demand * gcap / g

/-- A class's pool before the cap (R90). -/
def poolOf (r w weight total : Nat) : Nat := if total = 0 ∨ w = 0 then 0 else r * weight / w

/-- What a class takes of the leftover in the spill (R91). -/
def spillOf (left pool total : Nat) : Nat := min left (total - pool)

/-- The own grant of a class from its pool (R92). -/
def ownGrant (pool demand total : Nat) : Nat := if total = 0 then 0 else pool * demand / total

/-- The weight of a class that has demand, 0 for one that has none (R90). -/
def liveWeight (weight total : Nat) : Nat := if total = 0 then 0 else weight

/-- The demand of the own node in the snapshot. -/
def selfDemand (sn : Snapshot) : Quad :=
  match sn.parts.find? (fun p => p.node == sn.self) with
  | some p => p.demand
  | none => Quad.zero

/-- The four stages of the computation on a snapshot (R89 to R92). -/
def shareCompute (sn : Snapshot) : ShareResult :=
  let q := sn.params
  let g := totalDemand sn.parts .game
  let gcap := q.cap * q.gc / 100
  let grants := sn.parts.map (fun p => (p.node, gameGrant g gcap p.demand.game))
  let gg := (grants.map Prod.snd).sum
  let r := q.cap - gg
  let tS := totalDemand sn.parts .standard
  let tB := totalDemand sn.parts .bulk
  let tU := totalDemand sn.parts .update
  let w := liveWeight q.wS tS + liveWeight q.wB tB + liveWeight q.wU tU
  let pS := poolOf r w q.wS tS
  let pB := poolOf r w q.wB tB
  let pU := poolOf r w q.wU tU
  let cS := min pS tS
  let cB := min pB tB
  let cU := min pU tU
  let l := r - (cS + cB + cU)
  let sS := spillOf l cS tS
  let sB := spillOf (l - sS) cB tB
  let sU := spillOf (l - sS - sB) cU tU
  let d := selfDemand sn
  { epoch := sn.epoch, params := q, parts := sn.parts, excluded := sn.excluded,
    g := g, gcap := gcap, gameGrants := grants, gg := gg, r := r,
    totals := { standard := tS, bulk := tB, update := tU }, w := w,
    pools := { standard := pS, bulk := pB, update := pU },
    capped := { standard := cS, bulk := cB, update := cU },
    spilled := { standard := cS + sS, bulk := cB + sB, update := cU + sU },
    leftover := l, remainder := l - sS - sB - sU,
    grants := { game := gameGrant g gcap d.game, standard := ownGrant (cS + sS) d.standard tS,
                bulk := ownGrant (cB + sB) d.bulk tB, update := ownGrant (cU + sU) d.update tU } }

/-- The epoch number after an edge, wrapping after 4,294,967,295 (R83). -/
def nextEpoch (e : Nat) : Nat := (e + 1) % 4294967296

/-- The SC at an edge: the staged set is loaded, the snapshot replaces the last one and its computation starts, an older
one being abandoned, and the epoch number rises (R83, R94). -/
def scEdge (sn : Snapshot) (c : Sc) : Sc :=
  { c with epoch := nextEpoch c.epoch, snapshot := some sn, inFlight := true, loaded := c.staged,
           loadedEpoch := nextEpoch c.epoch }

/-- A computation completes and stages its result (R94). -/
def scDone (c : Sc) : Sc :=
  match c.snapshot with
  | some sn =>
    if c.inFlight then
      { c with inFlight := false, result := shareCompute sn, staged := (shareCompute sn).grants }
    else c
  | none => c

/-- BLOCK RESET SHARE: the computation in flight is abandoned, result and grant sets are cleared; the epoch number is kept
(R99). -/
def scBlockReset (c : Sc) : Sc :=
  { c with inFlight := false, result := ShareResult.cleared, staged := Quad.zero, loaded := Quad.zero, loadedEpoch := 0 }

end Sys2Proof.Machine
end

