-- ==== Sys2Proof/Machine/Store.lean ====
section
/-! DEFINITION. Shared operations of the Image Engine: flash map, header programs, chunks, the start of flash work, erases,
discovery, fetches, acceptance (chapter 8). -/

namespace Sys2Proof.Machine

/-! ## Flash map (R136) -/

/-- The data block a page map sends a logical page to: the spare of the last remap entry that names it, else its home
block (R136). -/
def pageBlock (remap : List (Nat × Nat)) (page : Nat) : Nat :=
  match remap.reverse.find? (fun e => e.1 == page) with
  | some e => 256 + e.2
  | none => page

/-- The physical chunk position of a chunk (R136). -/
def physical (remap : List (Nat × Nat)) (chunk : Nat) : Nat := pageBlock remap (chunk / 64) * 64 + chunk % 64

/-- The flash block of a slot's data block 0 (Table 8-1). -/
def dataBase : Slot → Nat
  | .a => 2
  | .b => 275

/-- The flash offset of a physical chunk position of a slot. -/
def chunkOffset (sl : Slot) (position : Nat) : Nat := dataBase sl * 65536 + position * 1024

/-- The other slot. -/
def otherSlot : Slot → Slot
  | .a => .b
  | .b => .a

/-- The incoming slot (R139). -/
def incSlot (s : State) : Slot := otherSlot s.ie.activeSlot

/-- How many bytes a chunk of an image holds: 1024, or the rest for the last (R136). -/
def chunkBytes (length chunk : Nat) : Nat := if chunk + 1 = chunkCount length then length - 1024 * chunk else 1024

/-- A chunk's bytes read through a page map. -/
def readChunk (f : Flash) (sl : Slot) (remap : List (Nat × Nat)) (length chunk : Nat) : List Byte :=
  memReadAll f.mem (chunkOffset sl (physical remap chunk)) (chunkBytes length chunk)

def Flash.header (f : Flash) : Slot → Header
  | .a => f.headerA
  | .b => f.headerB

def Flash.setHeader (f : Flash) (sl : Slot) (h : Header) : Flash :=
  match sl with
  | .a => { f with headerA := h }
  | .b => { f with headerB := h }

/-- A header program applied to a header (Table 8-2). -/
def applyMark (m : Mark) (h : Header) : Header :=
  match m with
  | .fill d => { h with desc := some d, filling := true }
  | .reject d => { h with desc := some d, reject := true }
  | .ready => { h with ready := true }
  | .erasing => { h with erasing := true }
  | .remap p sp => { h with remap := h.remap ++ [(p, sp)] }
  | .active n => { h with activeCount := some n }
  | .retired => { h with retired := true }

def setIe (s : State) (f : Ie → Ie) : State := s.setIe (f s.ie)

/-- Header-class work is requested (R141). -/
def requestHeader (w : HeaderWork) (s : State) : State := setIe s (fun e => { e with headers := e.headers ++ [w] })

/-! ## Servable images (R147, R148) -/

/-- The image a FETCH or a serve-queue entry names, with the slot it is read from and its page map; none when it is not
servable (R147, R148). -/
def servable (s : State) (image : Nat) : Option (Slot × List (Nat × Nat) × Desc) :=
  match s.ie.activeDesc with
  | some d =>
    if 0 < d.number ∧ d.number = image then some (s.ie.activeSlot, s.ie.activeRemap, d)
    else
      match s.ie.incDesc with
      | some e => if s.ie.inc = .ready ∧ e.number = image then some (incSlot s, s.ie.incRemap, e) else none
      | none => none
  | none =>
    match s.ie.incDesc with
    | some e => if s.ie.inc = .ready ∧ e.number = image then some (incSlot s, s.ie.incRemap, e) else none
    | none => none

/-! ## Start of flash work (R141, R155) -/

/-- The serve queue from its first servable entry on: an entry whose image has stopped being servable by the time of its
read leaves without it (R148). -/
def servableFrom (s : State) : List Serve → List Serve
  | [] => []
  | e :: r => if (servable s e.image).isSome then e :: r else servableFrom s r

/-- The first waiting header-class work, unless the supply-fail input is asserted (R141, R155). -/
def nextHeader (s : State) : Option (HeaderWork × List HeaderWork) :=
  if s.pins.supplyFail then none
  else
    match s.ie.headers with
    | w :: r => some (w, r)
    | [] => none

/-- The program queue's head, unless the supply-fail input is asserted (R141, R155). -/
def nextProg (s : State) : Option Prog := if s.pins.supplyFail then none else s.ie.progs.head?

/-- The next block erase, unless the supply-fail input is asserted (R141, R155). -/
def nextErase (s : State) : Option Nat := if s.pins.supplyFail then none else s.ie.erase

/-- When no flash operation is in flight and work is waiting, the first in the order of R141 starts. -/
def startFlash (s : State) : State :=
  if s.ie.op.isSome then s
  else
    match nextHeader s with
    | some (w, r) => setIe s (fun e => { e with headers := r, op := some (.header w) })
    | none =>
      match nextProg s with
      | some p =>
        setIe s (fun e => { e with op := some (.chunk (incSlot s) (physical e.incRemap p.index) p true) })
      | none =>
        match s.ie.imageRead with
        | some _ => setIe s (fun e => { e with op := some .imageRead })
        | none =>
          match servableFrom s s.ie.serves with
          | q :: r => setIe s (fun e => { e with serves := q :: r, op := some (.serveRead q) })
          | [] =>
            match s.ie.check with
            | some c => setIe s (fun e => { e with serves := [], op := some (.checkRead c.next) })
            | none =>
              match nextErase s with
              | some b => setIe s (fun e => { e with serves := [], op := some (.erase (incSlot s) b) })
              | none => setIe s (fun e => { e with serves := [] })

/-! ## Presence (R139) -/

/-- A chunk of a run that is still requested returns to missing (R146). -/
def unrequest (p : Table ChunkState) (chunk : Nat) : Table ChunkState :=
  if tabGet p chunk = some .requested then tabErase p chunk else p

/-- The chunk indexes of a fetch's run. -/
def runOf (f : Fetch) : List Nat := (List.range f.count).map (f.first + ·)

/-- A fetch leaves the list; the chunks of its run not received return to missing while still requested (R146). -/
def failFetch (f : Fetch) (e : Ie) : Ie :=
  { e with
    fetches := e.fetches.filter (fun g => g != f)
    presence := ((runOf f).filter (fun k => !f.received.contains k)).foldl unrequest e.presence }

/-- Every fetch outstanding to a peer is failed back (R6, R17, R146). -/
def failFetchesTo (n : Nat) (e : Ie) : Ie := (e.fetches.filter (fun f => f.peer == n)).foldl (fun x f => failFetch f x) e

/-- The whole fetch list is emptied, each fetch's chunks as R146 has it. -/
def emptyFetches (e : Ie) : Ie := { e.fetches.foldl (fun x f => failFetch f x) e with fetches := [] }

/-! ## Erase of the incoming slot (R140) -/

/-- The chunk program sequence in flight, if there is one, no longer has its chunk in the queue (R150). -/
def orphanOp (o : Option FlashOp) : Option FlashOp :=
  match o with
  | some (.chunk sl pos p _) => some (.chunk sl pos p false)
  | _ => o

/-- An erase of the incoming slot begins, with what is to follow it (R140). An IMAGE CHUNK waiting in the program queue
completes with WRONG_STATE (R149). -/
def beginErase (after : After) (s : State) : State :=
  let hostWaits := s.ie.progs.any Prog.host
  let t := setIe s (fun e =>
    { e with
      inc := .erasing
      incDesc := none
      after := after
      presence := []
      fetches := []
      progs := []
      serves := e.serves.filter (fun q => q.image == activeNumber s)
      headers := if (s.flash.header (incSlot s)).erasing then e.headers else e.headers ++ [.mark (incSlot s) .erasing]
      check := none
      erase := some 0
      op := orphanOp e.op
      conflictInc := false
      resetWaits := false })
  if hostWaits then completePending 11 .wrongState [] t else t

/-- The incoming slot becomes FILLING with this descriptor, which is programmed with the filling mark (R140, R142). -/
def beginFilling (d : Desc) (s : State) : State :=
  setIe s (fun e =>
    { e with
      inc := .filling
      incDesc := some d
      after := .nothing
      presence := []
      headers := e.headers ++ [.mark (incSlot s) (.fill d)]
      conflictInc := false })

/-- A discovered or given image acts on the incoming slot by its state (R142). -/
def takeImage (d : Desc) (s : State) : State :=
  match s.ie.inc with
  | .empty => beginFilling d s
  | .erasing => setIe s (fun e => { e with after := .image d, conflictInc := false })
  | .filling | .checking | .ready | .rejected => beginErase (.image d) s

/-- The end of an erase: tallies 0, page map blank, and what is queued decides the state (R140). A BLOCK RESET IMAGE
completes when the slot is EMPTY (R156). -/
def endErase (s : State) : State :=
  let t := setIe s (fun e => { e with tally := [], incRemap := [], erase := none })
  match t.ie.after with
  | .image d => beginFilling d t
  | .rejection d =>
    setIe t (fun e =>
      { e with inc := .rejected, incDesc := some d, after := .nothing,
               headers := e.headers ++ [.mark (incSlot t) (.reject d)], conflictInc := false })
  | .nothing => completePending 25 .ok [] (setIe t (fun e => { e with inc := .empty }))

/-! ## Conflicts (R144) -/

/-- The descriptor a number is held against on the incoming side: the incoming descriptor, or the queued image in
ERASING (R144). -/
def heldIncoming (s : State) : Option Desc :=
  match s.ie.inc with
  | .erasing =>
    match s.ie.after with
    | .image d => some d
    | _ => none
  | .empty => none
  | _ => s.ie.incDesc

/-- A description of a held image number that differs from the one held (R144). -/
def conflicts (held : Option Desc) (number length check : Nat) : Bool :=
  match held with
  | some d => d.number == number && (d.length != length || d.check != check)
  | none => false

/-- A length as its chunk count, saturating at 65535 (R144). -/
def chunksCapped (length : Nat) : Nat := min (chunkCount length) 65535

/-- IMAGE CONFLICT is raised for each descriptor the description conflicts with whose flag is clear, and sets the flag
(R144). -/
def noteConflicts (from_ number length check : Nat) (s : State) : State :=
  let s1 :=
    if conflicts (heldIncoming s) number length check && !s.ie.conflictInc then
      raise (.imageConflict from_ number (chunksCapped (((heldIncoming s).map Desc.length).getD 0)) (chunksCapped length))
        (setIe s (fun e => { e with conflictInc := true }))
    else s
  if conflicts s1.ie.activeDesc number length check && !s1.ie.conflictActive then
    raise (.imageConflict from_ number (chunksCapped ((s1.ie.activeDesc.map Desc.length).getD 0)) (chunksCapped length))
      (setIe s1 (fun e => { e with conflictActive := true }))
  else s1

/-! ## Discovery (R142) -/

/-- The image number a pulse's advertised descriptor names is a discovery (R142). -/
def isDiscovery (s : State) (n : Nat) (b : PulseBody) : Bool :=
  isPresent s n && decide (0 < b.incImage) && decide (activeNumber s < b.incImage) &&
  decide (ownIncomingNumber s < b.incImage) && decide (1 ≤ b.incLength) &&
  decide (b.incLength ≤ Config.imageBytesMax) && acQuiet s

/-- An accepted pulse reaches the IE (R142, R144). -/
def lookForImage (n : Nat) (b : PulseBody) (s : State) : State :=
  if isDiscovery s n b then
    takeImage { number := b.incImage, length := b.incLength, check := b.incCheck, failed := 0 }
      (raise (.imageFound n b.incImage b.incLength) s)
  else noteConflicts n b.incImage b.incLength b.incCheck s

/-! ## Fetches (R145) -/

/-- A peer is eligible for the incoming image (R145). -/
def fetchEligible (s : State) (d : Desc) (n : Nat) : Bool :=
  match peerOf s n with
  | some p =>
    p.state == .present && (tabGet s.ie.skips n).isNone &&
    (p.adv.activeImage == d.number || (p.adv.incState == .ready && p.adv.incImage == d.number)) &&
    (p.adv.incImage != d.number || (p.adv.incLength == d.length && p.adv.incCheck == d.check))
  | none => false

/-- The lower sum of advertised demands, the lower node number between equals (R145). -/
def cheaper (s : State) (a b : Nat) : Nat :=
  if ((peerOf s b).map (fun p => p.adv.demand.sum)).getD 0 < ((peerOf s a).map (fun p => p.adv.demand.sum)).getD 0
  then b else a

/-- The peer to fetch from (R145). -/
def fetchPeer (s : State) (d : Desc) : Option Nat :=
  match nodes.filter (fetchEligible s d) with
  | [] => none
  | n :: r => some (r.foldl (cheaper s) n)

/-- How many chunks from an index on are missing, at most n. -/
def missingRun (p : Table ChunkState) (total : Nat) : Nat → Nat → Nat
  | 0, _ => 0
  | n + 1, k => if k < total ∧ (tabGet p k).isNone then 1 + missingRun p total n (k + 1) else 0

/-- One FETCH: the run of up to 8 missing chunks from the lowest on, from the cheapest eligible peer (R145). A chunk counts
as missing by the presence map alone: one that is missing again while a listed fetch has it received is fetched anew at once, where
R146 speaks only of one received in no fetch (DESIGN CHOICE, assumption log 61). -/
def fetchOne (s : State) : State :=
  match s.ie.incDesc with
  | some d =>
    match (List.range (chunkCount d.length)).find? (fun k => (tabGet s.ie.presence k).isNone), fetchPeer s d with
    | some first, some n =>
      let count := missingRun s.ie.presence (chunkCount d.length) 8 first
      let f : Fetch := { number := s.ie.fetchCounter, peer := n, first := first, count := count, received := [],
                         ends := s.now + Config.fetchNs }
      setIe (sendBulletin n (.fetch d.number first count s.ie.fetchCounter) s) (fun e =>
        { e with
          fetches := e.fetches ++ [f]
          fetchCounter := e.fetchCounter + 1
          presence := (runOf f).foldl (fun p k => tabSet p k .requested) e.presence })
    | _, _ => s
  | none => s

/-- Up to n fetches more. -/
def fetchLoop : Nat → State → State
  | 0, s => s
  | n + 1, s => if s.ie.fetches.length < Config.fetchListMax then fetchLoop n (fetchOne s) else s

/-- The IE issues fetches while the slot is FILLING and the supply-fail input is not asserted (R145). -/
def issueFetches (s : State) : State :=
  if s.ie.inc == .filling && !s.pins.supplyFail then fetchLoop Config.fetchListMax s else s

/-- A strike: the third sets the count to 0 and starts the skip timer (R146). -/
def strike (n : Nat) (now : Nat) (e : Ie) : Ie :=
  if 2 ≤ (tabGet e.strikes n).getD 0 then
    { e with strikes := tabErase e.strikes n, skips := tabSet e.skips n (now + Config.skipNs) }
  else { e with strikes := tabSet e.strikes n ((tabGet e.strikes n).getD 0 + 1) }

/-! ## Acceptance (R149) -/

/-- The outcome of the acceptance checks (Table 8-5). -/
inductive Accept where
  | accepted
  | wrongState
  | outOfRange
  | badField
  | held
  | busy
  deriving DecidableEq, Repr

/-- The acceptance checks, in the order of Table 8-5 (R149). -/
def acceptance (s : State) (image index crc : Nat) (data : List Byte) : Accept :=
  match s.ie.incDesc with
  | none => .wrongState
  | some d =>
    if ¬ (s.ie.inc = .filling ∧ image = d.number) then .wrongState
    else if ¬ (index < chunkCount d.length) then .outOfRange
    else if data.length ≠ chunkBytes d.length index then .badField
    else if crc32 data ≠ crc then .badField
    else if tabGet s.ie.presence index = some .awaiting ∨ tabGet s.ie.presence index = some .present then .held
    else if s.pins.supplyFail ∨ ¬ (s.ie.progs.length < Config.programQueueMax) then .busy
    else .accepted

/-- An accepted chunk joins the program queue and is awaiting (R149). -/
def acceptChunk (p : Prog) (e : Ie) : Ie :=
  { e with progs := e.progs ++ [p], presence := tabSet e.presence p.index .awaiting }

/-- A received chunk is noted in the fetch it counts for (R146). -/
def noteReceived (index : Nat) (f : Fetch) : Fetch :=
  if f.received.contains index then f else { f with received := f.received ++ [index] }

/-- A CHUNK counts for a fetch (R146). -/
def countsFor (source : Nat) (number : BitVec 16) (index : Nat) (f : Fetch) : Bool :=
  f.peer == source && f.number == number && decide (f.first ≤ index) && decide (index < f.first + f.count)

end Sys2Proof.Machine
end

