-- ==== Sys2Proof/Machine/Edge.lean ====
section
/-! DEFINITION. Shared operations of the transmitters and of the epoch edge: the loss of a peer, the own PULSE, peer liveness, what a
READY transmitter takes (chapters 1, 5 and 6). -/

namespace Sys2Proof.Machine

/-! ## Loss of a peer (R6, R17, R32, R146) -/

/-- What the RC and the IE do when peer n restarts, or is lost: orphaning, hand-backs, readings, fetches failed back. -/
def losePeer (n : Nat) (s : State) : State := setIe (loseClients n s) (failFetchesTo n)

/-- The work of an entry that became ABSENT beside PEER GONE; its strike count is 0 and its skip timer stops (R17,
R146). -/
def peerAbsent (n : Nat) (s : State) : State :=
  setIe (losePeer n (setPeers (tabErase s.bu.peers n) s)) (fun e =>
    { e with strikes := tabErase e.strikes n, skips := tabErase e.skips n })

/-- Every entry becomes ABSENT with the work of R17 and no PEER GONE (R21, R188). The entries go first, then their losses
peer by peer in node order, each with its clients in index order: that order of ORPHANED and STEER FAILED is the model's
choice (assumption log 47). -/
def allPeersAbsent (s : State) : State :=
  (tabKeys s.bu.peers).foldl (fun t n => peerAbsent n t) (setPeers [] s)

/-! ## The own PULSE (R12) -/

/-- The body of an own PULSE with the given demands, from the values that hold now (R12, R139, R157). -/
def pulseBody (d : Quad) (s : State) : PulseBody :=
  let c := s.su.clock
  let unset := c.grade == .unset
  let a := advertised s
  { period := s.sl.params.pulsePeriod
    grade := c.grade
    uplink := s.sl.params.uplink
    fresh := decide (0 < s.bu.freshCount)
    drainWanted := s.ac.state == .wanting
    draining := s.ac.state == .draining
    leaving := s.ac.state == .leaving || s.ac.state == .swapping || s.ac.state == .swapped
    supplyFail := s.pins.supplyFail
    minute := if unset then 0 else c.minute
    milli := if unset then 0 else c.milli
    served := servedCount s
    demand := d
    activeImage := activeNumber s
    incImage := (a.map Desc.number).getD 0
    incLength := (a.map Desc.length).getD 0
    incCheck := (a.map Desc.check).getD 0
    incState := s.ie.inc
    held := heldCount s }

/-! ## Taking a frame (R4, R106, R109) -/

/-- The backhaul transmitter sends these bytes and is BUSY for their time on the wire (R106). -/
def sendFrame (bytes : List Byte) (s : State) : State :=
  s.setEs { s.es with
    backhaulTx := some { bytes := bytes, ends := s.now + wireNs s.pins.straps.bhFast bytes.length } }

/-- A bulletin is taken: numbered from the sequence counter, which advances, and sent (R4, R109). -/
def txBulletin (target : Nat) (b : Body) (s : State) : State :=
  sendFrame (bulletinBytes s.sl.params target s.bu.seq b) (s.setBu { s.bu with seq := nextNonzero s.bu.seq })

/-! ## Peer liveness (R16) -/

/-- The peer counts as heard at this edge (R16). -/
def heardAt (s : State) (p : Peer) : Bool :=
  p.heard ||
    (decide (s.sl.params.pulsePeriod < p.adv.period) &&
      decide (s.now ≤ p.lastPulse + (p.adv.period + s.sl.params.pulsePeriod) * Config.msNs))

/-- A peer entry after an edge, before its state is looked at: run, quiet count and heard flag (R16). -/
def edgePeer (heard : Bool) (p : Peer) : Peer :=
  if heard then { p with run := min (p.run + 1) 3, heard := false }
  else { p with run := 0, quiet := p.quiet + 1, heard := false }

/-- Node n's entry brought up to date at an own epoch edge (R16, R17). -/
def liveness (n : Nat) (s : State) : State :=
  match peerOf s n with
  | none => s
  | some p =>
    let q := edgePeer (heardAt s p) p
    let gone := peerAbsent n (raise (.peerGone n) s)
    let kept := setPeers (tabSet s.bu.peers n q) s
    match q.state with
    | .joining =>
      if 3 ≤ q.run then raise (.peerJoined n) (setPeers (tabSet s.bu.peers n { q with state := .present }) s)
      else if 8 ≤ q.quiet then gone
      else kept
    | .present =>
      if 8 ≤ q.quiet then raise (.peerSilent n) (setPeers (tabSet s.bu.peers n { q with state := .silent }) s)
      else kept
    | .silent => if 120 ≤ q.quiet then gone else kept

/-- Every entry brought up to date (R16). Their order, and so the order of their events, is node order: the model's choice
(assumption log 47). -/
def livenessAll (s : State) : State := nodes.foldl (fun t n => liveness n t) s

/-! ## The epoch edge (R11, R83) -/

/-- The FC's counts at an edge: arrivals handed over and the flows' bytes of the epoch return to 0 (R72, R81). -/
def edgeCounts (f : Fc) : Fc :=
  { f with arrivals := Quad.zero, flows := tabMap f.flows (fun x => { x with bytes := 0 }) }

/-- The SC's and the ES's work at an edge: staged grants loaded, snapshot taken, epoch number raised, buckets refilled
(R83, R94, R105). -/
def edgeShare (d : Quad) (s : State) : State :=
  let sc := scEdge (takeSnapshot s (nextEpoch s.sc.epoch) d) s.sc
  (s.setSc sc).setEs { s.es with tokens := refill s.es.tokens sc.loaded }

/-- The own epoch edge once the PULSE with demands d has been built: liveness, share, counts, the AC's look at the table,
then the fetches and offers that a lost peer makes room for (R16, R83, R105, R145, R161; that offers are filled at every edge
of a DRAINING node, whatever it changed, is assumption log 57). -/
def epochEdge (d : Quad) (s : State) : State :=
  let a := livenessAll s
  let b := edgeShare d a
  let c := acEdge (b.setFc (edgeCounts b.fc))
  offerFill (if a.ie.fetches.length < s.ie.fetches.length then issueFetches c else c)

/-- A PULSE is taken; a timed one makes the epoch edge (R11, R12, R13). -/
def takePulse (timed : Bool) (s : State) : State :=
  let d := if timed then ownDemand s else s.bu.lastDemand
  let t := txBulletin 0 (.pulse (pulseBody d s)) s
  let u := t.setBu { t.bu with freshCount := t.bu.freshCount - 1, lastDemand := d }
  if timed then epochEdge d u else u

/-! ## The backhaul transmitter's choice (R107 to R110) -/

/-- The station address a carried frame for node n is sent to (R1). -/
def stationOf (s : State) (n : Nat) : Addr :=
  match peerOf s n with
  | some p => p.addr
  | none => Config.broadcast

/-- An entry taken from a backhaul class queue is sent (R109, R111). -/
def sendEntry (x : QEntry) (s : State) : State :=
  match x.load with
  | .carried dest re frame => sendFrame (carriedBytes s.sl.params (stationOf s dest) dest x.cls re frame) s
  | .chunk target body => txBulletin target body s
  | .nodeSide _ _ => s

/-- The head of a class queue is taken (R109). -/
def takeClass (c : Class) (s : State) : State :=
  match s.es.queue (queueName c) with
  | x :: rest => sendEntry x (s.setEs (takeHead c x rest s.es))
  | [] => s

/-- A READY backhaul transmitter makes its choice (R107, R110). -/
def wake (s : State) : State :=
  if backhaulReady s then
    match s.bu.control with
    | .pulse timed :: r => takePulse timed (s.setBu { s.bu with control := r })
    | .bulletin target b :: r => txBulletin target b (s.setBu { s.bu with control := r })
    | [] =>
      match chooseClass s.es with
      | some c => takeClass c s
      | none => s
  else s

/-! ## The node port transmitter (R42, R112) -/

/-- The node port transmitter takes the NODE-SIDE head when it is not sending (R112). -/
def nodePump (s : State) : State :=
  if nodePortReady s then
    match s.es.node with
    | x :: rest =>
      let es := { s.es with node := rest, free := s.es.free + x.cells }
      match x.load with
      | .nodeSide toClient frame =>
        let bytes := nodeItemBytes toClient x.cls frame
        s.setEs { es with nodeTx := some { bytes := bytes, ends := s.now + wireNs s.pins.straps.ndFast bytes.length } }
      | .carried _ _ _ => s.setEs es
      | .chunk _ _ => s.setEs es
    | [] => s
  else s

end Sys2Proof.Machine
end

