-- ==== Sys2Proof/Machine/Sched.lean ====
section
/-! DEFINITION. Shared operations of the Schedule Unit: windows, profile states, verdicts and their edges, minute accounting, day
rollover, a new clock value (chapter 7). -/

namespace Sys2Proof.Machine

/-- A profile; one that nothing has written is empty (R135). -/
def profileOf (s : State) (p : Nat) : Profile := (tabGet s.su.profiles p).getD Profile.blank

def putProfile (p : Nat) (x : Profile) (s : State) : State :=
  s.setSu { s.su with profiles := tabSet s.su.profiles p x }

/-- A window holds at a minute-of-week: its day, and the minute of the day from start to before end (R122). -/
def windowHolds (w : Window) (minute : Nat) : Bool :=
  bitOf w.mask (minute / 1440) && decide (w.start ≤ minute % 1440) && decide (minute % 1440 < w.stop)

/-- Some window of a kind holds at a minute-of-week (R122). -/
def inWindow (r : ProfileRecord) (k : WindowKind) (minute : Nat) : Bool :=
  r.windows.any (fun w => w.kind == k && windowHolds w minute)

/-- Some window of a kind holds now; none does while the clock is UNSET (R122). -/
def inWindowNow (c : Clock) (r : ProfileRecord) (k : WindowKind) : Bool :=
  c.grade != .unset && inWindow r k c.minute

/-- Why a profile is CLOSED, by the first condition that holds; none when it is OPEN (R127). -/
def profileCause (c : Clock) (p : Profile) : Option Cause :=
  if p.paused then some .pause
  else if c.grade == .unset && p.record.strict then some .strict
  else if inWindowNow c p.record .closed then some .window
  else none

/-- A profile's state evaluated anew, with the event of a change (R127). -/
def evalProfile (p : Nat) (s : State) : State :=
  let x := profileOf s p
  let c := profileCause s.su.clock x
  let t := if c = x.closed then s else putProfile p { x with closed := c } s
  match x.closed, c with
  | none, some k => raise (.profileClosed p k) t
  | some k, none => raise (.profileOpened p k) t
  | _, _ => t

/-- Every profile's state, in profile number order (R127). -/
def evalProfiles (s : State) : State := (List.range Config.profiles).foldl (fun t p => evalProfile p t) s

/-- The maintenance indication evaluated anew (R133). -/
def evalMaintenance (s : State) : State :=
  s.setSu { s.su with maintenance := inWindowNow s.su.clock (profileOf s 0).record .maintenance }

/-- A budget is spent (R129). -/
def budgetSpent (r : ProfileRecord) (used : Nat) : Bool := decide (0 < r.budget) && decide (r.budget ≤ used)

/-- Why a client is BLOCKED, by the first row of Table 7-3 that holds; none when it is ALLOWED (R129). -/
def blockCause (s : State) (c : Client) : Option Cause :=
  let p := profileOf s c.profile
  if p.paused then some .pause
  else if s.su.clock.grade == .unset && p.record.strict then some .strict
  else if inWindowNow s.su.clock p.record .closed && c.extra == 0 then some .window
  else if budgetSpent p.record c.used && c.extra == 0 then some .budget
  else none

/-- The verdict of entry i evaluated anew, with the work of an edge; a first verdict of BLOCKED counts as an edge (R129,
R132). -/
def evalVerdict (i : Nat) (s : State) : State :=
  match clientAt s i with
  | some c =>
    if isServing c.role then
      match blockCause s c with
      | some k =>
        if c.verdict = some .blocked then s
        else
          raise (.clientBlocked c.addr c.profile k)
            (removeFlowsOf i (modClient i (fun x => { x with verdict := some .blocked }) s))
      | none =>
        let t := modClient i (fun x => { x with verdict := some .allowed }) s
        if c.verdict = some .blocked then raise (.clientAllowed c.addr c.profile) t else t
    else s
  | none => s

/-- The verdict of every SERVED or HANDING entry, in index order (R128, R132). -/
def evalVerdicts (s : State) : State := forClients evalVerdict s

/-- The verdict of every SERVED or HANDING entry of one profile (R125, R126). -/
def evalVerdictsOf (p : Nat) (s : State) : State :=
  forClients (fun i t =>
    match clientAt t i with
    | some c => if c.profile = p then evalVerdict i t else t
    | none => t) s

/-- The day rollover: every entry's counters become 0 and belong to the new day (R119). -/
def rollover (s : State) : State :=
  setClients (tabMap s.rc.clients (fun c => { c with used := 0, extra := 0, drawn := 0, day := dayOf s.su.clock })) s

/-- A changed day number makes a rollover (R119). -/
def rolloverFrom (oldDay : Nat) (s : State) : State := if dayOf s.su.clock = oldDay then s else rollover s

def setClock (c : Clock) (s : State) : State := s.setSu { s.su with clock := c }

/-- The clock takes a new value: rollover, profile states, maintenance, verdicts (R121). -/
def newClockValue (g : Grade) (minute milli : Nat) (s : State) : State :=
  evalVerdicts (evalMaintenance (evalProfiles
    (rolloverFrom (dayOf s.su.clock) (setClock { grade := g, minute := minute, milli := milli, sub := 0 } s))))

/-- The minute that has just ended counted for an active served entry: an extra minute drawn inside a CLOSED window or on
a spent budget, a used minute otherwise (R131). -/
def countMinute (s : State) (c : Client) : Client :=
  if isServing c.role && c.active then
    let r := (profileOf s c.profile).record
    if inWindow r .closed s.su.clock.minute || budgetSpent r c.used then
      if c.extra = 0 then c else { c with extra := c.extra - 1, drawn := min (c.drawn + 1) 240 }
    else { c with used := min (c.used + 1) 1440 }
  else c

/-- Accounting, then every active-this-minute flag cleared (R128, step 1). -/
def accountMinute (s : State) : State :=
  setClients (tabMap s.rc.clients (fun c => { countMinute s c with active := false })) s

/-- A record takes effect: windows, budget and strict flag replaced, paused flag kept (R124, R125). -/
def applyRecord (p : Nat) (r : ProfileRecord) (s : State) : State :=
  putProfile p { profileOf s p with record := r, staged := none } s

/-- A profile's staged record, if it has one, is applied (R124). -/
def applyStagedOf (p : Nat) (s : State) : State :=
  match (profileOf s p).staged with
  | some r => applyRecord p r s
  | none => s

/-- Every staged record is applied, in profile number order (R124). -/
def applyStaged (s : State) : State := (List.range Config.profiles).foldl (fun t p => applyStagedOf p t) s

/-- The minute-of-week after a tick (R118). -/
def nextMinute (m : Nat) : Nat := if m = 10079 then 0 else m + 1

/-- The work of a minute tick, in the order of R128. -/
def minuteWork (s : State) : State :=
  let a := accountMinute s
  let b := rolloverFrom (dayOf s.su.clock)
    (setClock { a.su.clock with minute := nextMinute a.su.clock.minute, milli := 0, sub := 0 } a)
  evalVerdicts (evalMaintenance (evalProfiles (applyStaged b)))

/-- The peer's millisecond of the week (R20). -/
def weekMilli (minute milli : Nat) : Nat := minute * 60000 + milli

/-- The shorter distance between two times around the week (R20). -/
def weekDistance (a b : Nat) : Nat :=
  let d := (a - b) + (b - a)
  min d (604800000 - d)

end Sys2Proof.Machine
end

