-- ==== Sys2Proof/Machine/Start.lean ====
section
/-! DEFINITION. Shared operations of the Start Loader and of start-up: the start record, the resume scan, full resets, what a cut
leaves in flash, RUNNING and ISOLATED, the reload (chapter 11 and section 8.8). -/

namespace Sys2Proof.Machine

/-! ## The start record (R186) -/

/-- What reading the record gives: its items, or why it is bad and the offset at which the reading stopped. -/
inductive Record where
  | items (l : List (Nat × Nat))
  | bad (r : BadReason) (offset : Nat)
  deriving DecidableEq, Repr

/-- The offset of the sync byte from offset o on, with n bytes left to look at; on failure the offset that stopped the
reading (R186). -/
def findSync (m : List Host.Cell) : Nat → Nat → Except Nat Nat
  | 0, o => .error (o - 1)
  | n + 1, o =>
    let b := memRead m o
    if b = 0xA5#8 then .ok o
    else if b = 0x00#8 ∨ b = 0xFF#8 then findSync m n (o + 1)
    else .error o

/-- n items of three bytes: field code and value (Table 11-1). -/
def itemsOf : Nat → List Byte → List (Nat × Nat)
  | 0, _ => []
  | n + 1, d => (field 0 1 d, field 1 2 d) :: itemsOf n (d.drop 3)

/-- The sum of bytes, modulo 65536 (R186). -/
def byteSum (d : List Byte) : Nat := (d.map BitVec.toNat).sum % 65536

/-- The record read from flash offset 0, with the three reasons in their order (R186). -/
def readRecord (m : List Host.Cell) : Record :=
  match findSync m 257 0 with
  | .error o => .bad .noSync o
  | .ok f =>
    let v := beNat (memReadAll m (f + 1) 2)
    if v < 0xFF80 then .bad .count (f + 2)
    else
      let n := 65536 - v
      let body := memReadAll m (f + 3) (3 * n)
      if byteSum body = beNat (memReadAll m (f + 3 + 3 * n) 2) then .items (itemsOf n body)
      else .bad .sum (f + 4 + 3 * n)

/-! ## Applying the items (R187, Table 11-2) -/

/-- A value clamped to lo..hi, then rounded down to the step. -/
def clampStep (lo hi step v : Nat) : Nat := if v < lo then lo else if hi < v then hi else v / step * step

/-- A frame type that is below 0x0600 or that the part parses for other purposes (R187). -/
def badFrameType (v : Nat) : Bool :=
  decide (v < 0x0600) || v == 0x0800 || v == 0x86DD || v == 0x8100 || v == 0x88A8 || v == 0x8808

/-- The value used for a field; none for a code that is not in Table 11-2. -/
def usedValue (code v : Nat) : Option Nat :=
  match code with
  | 1 => some (if 1 ≤ v ∧ v ≤ 8 then v else 0)
  | 2 => some v
  | 3 => some (if badFrameType v then 0x88B5 else v)
  | 4 => some (min v 1)
  | 5 => some (clampStep 10 100 5 v)
  | 6 => some (clampStep 200 2000 100 v)
  | 7 => some (clampStep 1 65535 1 v)
  | 8 => some (clampStep 10 80 1 v)
  | 9 | 10 | 11 => some (clampStep 1 15 1 v)
  | 12 | 13 | 14 | 15 | 16 => some (clampStep 16 4096 1 v)
  | 17 => some (clampStep 1 20 1 v)
  | 18 => some (clampStep 1 7 1 v)
  | 19 => some (clampStep 8 200 1 v)
  | 20 => some (clampStep 1 15 1 v)
  | 21 => some (clampStep 0 60 1 v)
  | 22 => some (clampStep 1 8 1 v)
  | 23 => some (clampStep 0 15 1 v)
  | _ => none

/-- A field takes a value (Table 11-2). -/
def setParam (code v : Nat) (p : Params) : Params :=
  match code with
  | 1 => { p with node := v }
  | 2 => { p with meshTag := v }
  | 3 => { p with frameType := v }
  | 4 => { p with uplink := v == 1 }
  | 5 => { p with pulsePeriod := v }
  | 6 => { p with sightPeriod := v }
  | 7 => { p with cap := v }
  | 8 => { p with gc := v }
  | 9 => { p with wS := v }
  | 10 => { p with wB := v }
  | 11 => { p with wU := v }
  | 12 => { p with limGame := v }
  | 13 => { p with limStandard := v }
  | 14 => { p with limBulk := v }
  | 15 => { p with limUpdate := v }
  | 16 => { p with limNode := v }
  | 17 => { p with margin := v }
  | 18 => { p with k := v }
  | 19 => { p with h := v }
  | 20 => { p with handWait := v }
  | 21 => { p with holddown := v }
  | 22 => { p with gmax := v }
  | 23 => { p with pendingProfile := v }
  | _ => p

/-- One item applied (R187). -/
def applyItem (p : Params) (item : Nat × Nat) : Params :=
  match usedValue item.1 item.2 with
  | some u => setParam item.1 u p
  | none => p

/-- The parameters of a record that passed: later items win, a field named by no item takes its default (R187). -/
def paramsOf (items : List (Nat × Nat)) : Params := items.foldl applyItem Params.default

/-- An item whose value is taken as it stands; a node number of 0 is not one, though 0 is used for it (R187). -/
def takenAsGiven (code v u : Nat) : Bool := u == v && !(code == 1 && v == 0)

/-- The START CLAMPED event of an item clamped, rounded or replaced, and of a node number of 0 (R187, assumption log 12). -/
def clampEvent (item : Nat × Nat) : Option Event :=
  match usedValue item.1 item.2 with
  | some u => if takenAsGiven item.1 item.2 u then none else some (.startClamped item.1 item.2 u)
  | none => none

/-- The events of an item list, raised in its order. -/
def raiseClamps (items : List (Nat × Nat)) (s : State) : State :=
  (items.filterMap clampEvent).foldl (fun t e => raise e t) s

/-- LOADING: the start record is read, checked and applied (R185, R186, R187). -/
def loading (s : State) : State :=
  match readRecord s.flash.mem with
  | .bad r o =>
    raise (.startBad r o) (s.setSl { s.sl with phase := .scanning, recordGood := false, params := Params.default })
  | .items l =>
    raiseClamps l (s.setSl { s.sl with phase := .scanning, recordGood := true, params := paramsOf l })

/-! ## The resume scan (R153) -/

/-- A slot counts as marked active: an active mark and no retired mark. -/
def markedActive (h : Header) : Option Nat := if h.retired then none else h.activeCount

/-- The active slot, and whether it is marked active at all (R153). -/
def chooseSlot (a b : Header) : Slot × Bool :=
  match markedActive a, markedActive b with
  | some x, some y => (if x < y then .b else .a, true)
  | none, some _ => (.b, true)
  | some _, none => (.a, true)
  | none, none => (.a, false)

/-- The incoming state by the first row of Table 8-6 that fits, before FILLING is told from CHECKING. -/
def scanState (h : Header) : IncState :=
  if h = Header.blank then .empty
  else if h.erasing || h.retired || h.activeCount.isSome || h.garbled then .erasing
  else
    match h.desc with
    | none => .erasing
    | some _ => if h.reject then .rejected else if h.filling then (if h.ready then .ready else .filling) else .erasing

/-- The chunks whose physical position has its progress mark (R153). -/
def scanPresence (h : Header) : Table ChunkState :=
  match h.desc with
  | none => []
  | some d =>
    (List.range (chunkCount d.length)).filterMap (fun k =>
      if (tabGet h.progress (physical h.remap k)).isSome then some (k, .present) else none)

/-- The incoming slot set up from its header (R153). -/
def scanIncoming (sl : Slot) (h : Header) (e : Ie) : Ie :=
  match scanState h with
  | .empty => e
  | .rejected => { e with inc := .rejected, incDesc := h.desc }
  | .ready => { e with inc := .ready, incDesc := h.desc, incRemap := h.remap, presence := scanPresence h }
  | .filling =>
    let p := scanPresence h
    if p.length = chunkCount ((h.desc.map Desc.length).getD 0) then
      { e with inc := .checking, incDesc := h.desc, incRemap := h.remap, presence := p,
               check := some { next := 0, register := crcInit } }
    else { e with inc := .filling, incDesc := h.desc, incRemap := h.remap, presence := p }
  | _ => { e with inc := .erasing, erase := some 0, headers := if h.erasing then [] else [.mark sl .erasing] }

/-- The resume scan: the IE rebuilt from both headers (R153, R156). -/
def resumeScan (f : Flash) : Ie :=
  let c := chooseSlot f.headerA f.headerB
  let act := f.header c.1
  let inc := otherSlot c.1
  scanIncoming inc (f.header inc)
    { Ie.reset with activeSlot := c.1, activeDesc := if c.2 then act.desc else none,
                    activeRemap := if c.2 then act.remap else [] }

/-! ## What a cut leaves in flash (R184, R189) -/

/-- A header block that an operation cut short left as neither before nor after. -/
def garble (h : Header) : Header := { h with garbled := true }

/-- A block of flash bytes replaced: erased, then holding the given bytes from its start. -/
def replaceBlock (m : List Host.Cell) (block : Nat) (bytes : List Byte) : List Host.Cell :=
  memWriteAll (memEraseBlock m block) (block * 65536) (bytes.take 65536)

/-- The flash as the operation in flight leaves it when it is cut short; how is a free value (assumption log 14). -/
def cutOp (k : Nat) (op : FlashOp) (f : Flash) : Flash :=
  match op, Config.cutOutcome k with
  | _, .before => f
  | .header (.mark sl m), .after => f.setHeader sl (applyMark m (f.header sl))
  | .header (.mark sl _), .mixed => f.setHeader sl (garble (f.header sl))
  | .header (.startRecord bytes), .after => { f with mem := replaceBlock f.mem 0 bytes }
  | .header (.startRecord _), .mixed => { f with mem := replaceBlock f.mem 0 (Config.cutBytes k) }
  | .chunk sl pos p _, .after =>
    let h := f.header sl
    ({ f with mem := memWriteAll f.mem (chunkOffset sl pos) p.data }).setHeader sl
      { h with progress := tabSet h.progress pos () }
  | .chunk sl pos _ _, .mixed =>
    { f with mem := memWriteAll f.mem (chunkOffset sl pos) ((Config.cutBytes k).take 1024) }
  | .erase sl b, .after =>
    if b < 272 then { f with mem := memEraseBlock f.mem (dataBase sl + b) } else f.setHeader sl Header.blank
  | .erase sl b, .mixed =>
    if b < 272 then { f with mem := replaceBlock f.mem (dataBase sl + b) (Config.cutBytes k) }
    else f.setHeader sl (garble (f.header sl))
  | _, _ => f

/-- A reset or a power loss cuts the flash operation in flight short (R184). -/
def cutFlash (s : State) : State :=
  match s.ie.op with
  | some op => (s.setFlash (cutOp s.free op s.flash)).setFree (s.free + 1)
  | none => s

/-! ## Full resets (R21, R43, R65, R82, R98, R116, R135, R156, R169, R182, R184) -/

/-- Every block at its full-reset state; flash, pins, time and waiting commands stay (R184). The sequence counter and the
claim number counter hold free values (assumption log 1 and 2). -/
def fullReset (c : ResetCause) (s : State) : State :=
  { bu := Bu.reset (BitVec.ofNat 16 ((Config.freeSeq s.free).val + 1)), rc := Rc.reset (Config.freeClaim s.free),
    fc := Fc.reset, sc := Sc.reset, es := Es.reset, su := Su.reset, flash := s.flash, ie := Ie.reset, ac := Ac.reset,
    ml := { Ml.reset c with miso := s.ml.miso }, sl := Sl.reset c, pins := s.pins, now := s.now, free := s.free + 1,
    pending := s.pending }

/-- A full reset that finds the part at work: its flash operation is cut short first. -/
def resetNow (c : ResetCause) (s : State) : State := fullReset c (cutFlash s)

/-! ## RUNNING and ISOLATED (R185, R188) -/

/-- The record in force lets the part run: it passed and gave a node number in 1..8 (R185). -/
def mayRun (s : State) : Bool :=
  s.sl.recordGood && decide (1 ≤ s.sl.params.node) && decide (s.sl.params.node ≤ 8)

/-- Entry to RUNNING: pulse timer due now, sighting timer one period on, epoch number 0, the game-quiet instant, and the
AC's look at its conditions (R11, R14, R80, R98, R169, R185). -/
def enterRunning (s : State) : State :=
  let a := s.setSl { s.sl with part := .running }
  let b := a.setBu { a.bu with pulseTimer := some a.now,
                               sightTimer := some (a.now + a.sl.params.sightPeriod * Config.msNs) }
  let c := b.setSc { b.sc with epoch := 0 }
  let d := c.setFc { c.fc with quietSince := if c.fc.gameCount = 0 then some c.now else none }
  acSettle d

/-- Entry to ISOLATED from RUNNING (R9, R82, R98, R116, R169, R188). -/
def enterIsolated (s : State) : State :=
  let a := s.setSl { s.sl with part := .isolated }
  let b := a.setBu { a.bu with pulseTimer := none, sightTimer := none, control := [] }
  let c := allPeersAbsent b
  let d := setIe c (fun e => { e with serves := [] })
  let e := (d.setFc (edgeCounts d.fc)).setSc { Sc.reset with epoch := d.sc.epoch }
  acIsolated (e.setEs (esIsolated e.es))

/-- The end of start-up: the resume scan, the AC's state, RUNNING or ISOLATED, and the flash work the scan starts (R153,
R169, R185). -/
def finishStart (s : State) : State :=
  let a := if s.sl.phase == .loading then loading s else s
  let b := a.setIe (resumeScan a.flash)
  let c := b.setAc { b.ac with state := if imageDue b then .waiting else .idle }
  startFlash (if mayRun c then enterRunning c else c.setSl { c.sl with part := .isolated })

/-! ## The reload (R190) -/

/-- Every SERVED or HANDING entry records the own node number (Table 2-1; assumption log 30). -/
def ownServing (n : Nat) (c : Client) : Client := if isServing c.role then setServing n c else c

/-- The period that waits for its timer's next expiry when q is to follow p; none when they are equal (R190). -/
def waitingPeriod (p q : Nat) : Option Nat := if q = p then none else some q

/-- The SL's parameters replaced at once (R190). -/
def replaceParams (p : Params) (l : Sl) : Sl :=
  { l with params := p, recordGood := true, nextPulse := none, nextSight := none }

/-- The SL's parameters replaced in a part that stays RUNNING: the two periods in force stay, and changed ones wait for the
next expiry of their timer (R190). -/
def updateParams (p : Params) (l : Sl) : Sl :=
  { l with
    params := { p with pulsePeriod := l.params.pulsePeriod, sightPeriod := l.params.sightPeriod }
    recordGood := true
    nextPulse := waitingPeriod l.params.pulsePeriod p.pulsePeriod
    nextSight := waitingPeriod l.params.sightPeriod p.sightPeriod }

/-- What new parameters do beside being in force: queues within their limits, the Flow Table emptied by a changed G_max,
served entries under the own number (R82, R115, R190). -/
def applyParams (p : Params) (l : Sl) (s : State) : State :=
  let a := s.setSl l
  let b := a.setEs (trimQueues p a.es)
  let c := if p.gmax = s.sl.params.gmax then b else emptyFlows b
  if p.node = s.sl.params.node then c else setClients (tabMap c.rc.clients (ownServing p.node)) c

/-- New parameters of a part that is about to enter RUNNING: all of them are in force (R190). -/
def restartParams (p : Params) (s : State) : State := applyParams p (replaceParams p s.sl) s

/-- A changed node number, mesh tag or frame type (R190). -/
def newIdentity (p q : Params) : Bool := p.node != q.node || p.meshTag != q.meshTag || p.frameType != q.frameType

/-- The reload's effect on the part, given the parameters of a good record with a node number, or none (R190). -/
def reloadPart (p : Option Params) (s : State) : State :=
  match p, s.sl.part with
  | none, .running => enterIsolated s
  | none, _ => s
  | some q, .running =>
    if newIdentity s.sl.params q then enterRunning (restartParams q (enterIsolated s))
    else applyParams q (updateParams q s.sl) s
  | some q, _ => enterRunning (restartParams q s)

/-- The reload of the start record: its events, its effect, and its outcome code, 1 GOOD, 2 CLAMPED or 3 BAD (R189). -/
def reload (s : State) : State × Nat :=
  match readRecord s.flash.mem with
  | .bad r o => (reloadPart none (raise (.startBad r o) s), 3)
  | .items l =>
    let p := paramsOf l
    (reloadPart (if p.node = 0 then none else some p) (raiseClamps l s),
      if (l.filterMap clampEvent).isEmpty then 1 else 2)

end Sys2Proof.Machine
end

