-- ==== Sys2Proof/Machine/Link.lean ====
section
/-! DEFINITION. The management link: the form every transaction takes, POLL, COLLECT, transactions that name no request, EVENT MASK
(chapter 10). -/

namespace Sys2Proof.Machine

/-! ## Transactions (R170 to R172) -/

/-- What the part shifted out in a transaction of n bytes (R170). -/
def shiftOut (n : Nat) (d : List Byte) (s : State) : State := s.setMl { s.ml with miso := shiftedOut n d }

/-- A SUBMIT is taken: the previous result is discarded, code and tag recorded, PENDING, refused-busy mark clear (R172). The
result polled mark goes with the result it belongs to (DESIGN CHOICE, assumption log 62). -/
def takeSubmit (code : Nat) (tag : Byte) (s : State) : State :=
  s.setMl { s.ml with code := code, tag := tag, state := .pending, outcome := none, polled := false, result := [],
                      busy := false }

/-- A taken request goes through the first two checks of R172 and is handed to its block. -/
def dispatch (lenOk : List Byte → Bool) (run : List Byte → State → State) (t : Submit) (s : State) : State :=
  if s.sl.part == .starting then complete .notReady [] s
  else if 1040 < submitLen t ∨ ¬ lenOk (submitArgs t) then complete .badRequest [] s
  else run (submitArgs t) s

/-- A SUBMIT transaction: void, refused as busy, or taken and dispatched (R170, R171, R172). -/
def submit (code : Nat) (lenOk : List Byte → Bool) (run : List Byte → State → State) (t : Submit) (s : State) : State :=
  let a := shiftOut (2 + t.length) (echoBytes s) s
  if submitWhole t then
    if a.ml.state = .pending then a.setMl { a.ml with busy := true }
    else dispatch lenOk run t (takeSubmit code (submitTag t) a)
  else a

/-- An argument list of n bytes. -/
def lenIs (n : Nat) (d : List Byte) : Bool := d.length == n

/-! ## POLL and COLLECT (R174, R180) -/

/-- The result bytes a POLL returns (R174). -/
def pollBytes (offset : Nat) (s : State) : List Byte :=
  if s.ml.state == .done then slice offset 256 s.ml.result else []

/-- POLL of a result offset, released after this many bytes (R171, R174). -/
def execPoll (offset : BitVec 16) (clocks : Nat) (s : State) : Host.Outcome State Fault Refusal :=
  taken (fun t =>
    let d := pollBytes offset.toNat t
    let a := shiftOut clocks (echoBytes t ++ d) t
    if 8 + d.length ≤ clocks ∧ t.ml.state = .done then a.setMl { a.ml with polled := true } else a) s

/-- The event record a COLLECT returns: the head's, or zeros (R180). -/
def collectBytes (s : State) : List Byte :=
  match s.ml.events with
  | e :: _ => eventBytes e
  | [] => List.replicate 20 0#8

/-- COLLECT, released after this many bytes (R171, R180). -/
def execCollect (clocks : Nat) (s : State) : Host.Outcome State Fault Refusal :=
  taken (fun t =>
    let a := shiftOut clocks (echoBytes t ++ collectBytes t) t
    if 28 ≤ clocks then a.setMl { a.ml with events := a.ml.events.drop 1 } else a) s

/-! ## Transactions that a full reset falls in (R171) -/

/-- The bytes the part has to shift out in a transaction of a kind (R170, R174, R180). -/
def linkBytes (k : LinkKind) (s : State) : List Byte :=
  match k with
  | .submit => echoBytes s
  | .poll offset => echoBytes s ++ pollBytes offset.toNat s
  | .collect => echoBytes s ++ collectBytes s

/-- What is shifted out in a transaction that a full reset of state s falls in: the part's bytes until the reset, zeros from
it on; a part that answers no transaction has no bytes of its own before it either (R171, R184). -/
def cutBytes (x : CutLink) (s : State) : List Byte :=
  (if alive s then shiftedOut x.before (linkBytes x.kind s) else List.replicate x.before 0#8) ++
    List.replicate x.after 0#8

/-- The transaction that a full reset of state s falls in is void: t, the state after the reset, keeps nothing of it but the
bytes shifted out (R171). -/
def voidLink (cut : Option CutLink) (s t : State) : State :=
  match cut with
  | some x => t.setMl { t.ml with miso := cutBytes x s }
  | none => t

/-! ## Transactions that name no request (R171, R172) -/

/-- The request code of a SUBMIT whose code is not in Table 10-3, when the transaction reaches it. -/
def unknownCode (bytes : List Byte) : Option Nat :=
  match bytes with
  | k :: c :: _ => if k = 1#8 ∧ (c.toNat = 0 ∨ 26 < c.toNat) then some c.toNat else none
  | _ => none

/-- SUBMIT_UNKNOWN_REQUEST: a SUBMIT whose request code is not in Table 10-3 completes with BAD_REQUEST; a transaction of an
unknown kind, or cut short, is void (R171, R172). -/
def execSubmitUnknownRequest (bytes : List Byte) (s : State) : Host.Outcome State Fault Refusal :=
  taken (fun t =>
    match unknownCode bytes with
    | some c => submit c (fun _ => false) (fun _ u => u) (bytes.drop 2) t
    | none => shiftOut bytes.length (echoBytes t) t) s

/-! ## EVENT MASK (R182) -/

/-- The mask bits that name a kind, 1..33; the others are ignored (R182; assumption log 28). -/
def maskOf (d : List Byte) : BitVec 64 := BitVec.ofNat 64 (beNat d) &&& maskAll

/-- EVENT MASK carried out (R182). -/
def runEventMask (d : List Byte) (s : State) : State :=
  complete .ok (toBE 8 s.ml.mask.toNat) (s.setMl { s.ml with mask := maskOf d })

/-- EVENT MASK (R182). -/
def execEventMask (t : Submit) (s : State) : Host.Outcome State Fault Refusal :=
  taken (submit 23 (lenIs 8) runEventMask t) s

end Sys2Proof.Machine
end

