-- ==== Sys2Proof/Machine/Clients.lean ====
section
/-! DEFINITION. The requests on clients, profiles, rules and the clock: SET TIME, CLIENT ATTACH, CLIENT DETACH, CLIENT ASSIGN, PROFILE
WRITE, PROFILE PAUSE, PROFILE RESUME, RULE WRITE, RULE CLEAR (chapters 2, 4 and 7). -/

namespace Sys2Proof.Machine

/-! ## SET TIME (R120) -/

/-- SET TIME carried out (R120). -/
def runSetTime (d : List Byte) (s : State) : State :=
  let m := field 0 2 d
  let ms := field 2 2 d
  if 10079 < m ∨ 59999 < ms then complete .outOfRange [] s
  else
    let old := s.su.clock
    let t := acConditions (newClockValue .set m ms s)
    complete .ok (toBE 1 (gradeCode old.grade) ++ toBE 2 old.minute ++ toBE 2 old.milli ++
      flagByte (dayOf old != m / 1440)) t

/-- SET TIME (R120). -/
def execSetTime (t : Submit) (s : State) : Host.Outcome State Fault Refusal := taken (submit 1 (lenIs 4) runSetTime t) s

/-! ## CLIENT ATTACH (R26, R27) -/

/-- The roles whose counters an attach keeps (R26). -/
def keepsCounters (r : Role) : Bool := r == .served || r == .handing || r == .departed

/-- The profile an attach leaves (R26). -/
def attachProfile (pendingProfile : Nat) (o : Option Nat) (c : Client) : Client :=
  match o with
  | some p => { c with profile := p, given := true }
  | none => if c.given then c else { c with profile := pendingProfile }

/-- An entry after CLIENT ATTACH, its tenure apart (R26). -/
def attached (p : Params) (now day : Nat) (o : Option Nat) (c : Client) : Client :=
  let a := attachProfile p.pendingProfile o (setHolddown p now (setServing p.node (changeRole p now .served c)))
  if keepsCounters c.role then a else { a with used := 0, extra := 0, drawn := 0, day := day }

/-- The client is attached at index i: entry, ARRIVED, verdict, result (R26). -/
def attachAt (i : Nat) (o : Option Nat) (c : Client) (s : State) : State :=
  let a := putClient i (attached s.sl.params s.now (dayOf s.su.clock) o c) s
  let b := evalVerdict i (sendBulletin 0 (.arrived c.addr c.tenure) a)
  complete .ok (toBE 1 i ++ toBE 2 c.tenure.toNat) b

/-- CLIENT ATTACH carried out (R26, R27). -/
def runClientAttach (d : List Byte) (s : State) : State :=
  let a := addrAt 0 d
  let o := optProfile (field 6 1 d)
  if isGroup a then complete .badField [] s
  else if o.any (fun p => decide (15 < p)) then complete .outOfRange [] s
  else
    match findClient s a with
    | some (i, c) => wake (offerFill (attachAt i o { c with tenure := nextNonzero c.tenure } s))
    | none =>
      match makeRoom [.departed, .orphan, .remote] s with
      | some (i, t) => wake (offerFill (attachAt i o (newClient t a .served t.sl.params.node 1) t))
      | none => complete .tableFull [] s

/-- CLIENT ATTACH (R26). -/
def execClientAttach (t : Submit) (s : State) : Host.Outcome State Fault Refusal :=
  taken (submit 2 (lenIs 7) runClientAttach t) s

/-! ## CLIENT DETACH (R31) -/

/-- CLIENT DETACH carried out (R31). -/
def runClientDetach (d : List Byte) (s : State) : State :=
  match findClient s (addrAt 0 d) with
  | none => complete .notFound [] s
  | some (i, c) =>
    match c.role with
    | .served | .handing | .expecting =>
      wake (drainSettle (complete .ok []
        (removeFlowsOf i (toRole i .departed (setServing 0) s))))
    | .remote | .claiming | .orphan | .departed => complete .wrongState [] s

/-- CLIENT DETACH (R31). -/
def execClientDetach (t : Submit) (s : State) : Host.Outcome State Fault Refusal :=
  taken (submit 3 (lenIs 6) runClientDetach t) s

/-! ## CLIENT ASSIGN (R130) -/

/-- An entry after CLIENT ASSIGN (R130). -/
def assigned (o x : Option Nat) (c : Client) : Client :=
  let a := match o with
    | some p => { c with profile := p, given := true }
    | none => c
  match x with
  | some e => { a with extra := min (a.extra + e) 240 }
  | none => a

/-- The result of CLIENT ASSIGN (R130). -/
def assignResult (i : Nat) (s : State) : List Byte :=
  match clientAt s i with
  | some c => toBE 1 c.profile ++ toBE 2 c.extra ++ toBE 1 (verdictCode c.verdict)
  | none => []

/-- CLIENT ASSIGN carried out (R130). -/
def runClientAssign (d : List Byte) (s : State) : State :=
  let o := optProfile (field 6 1 d)
  let x := optExtra (field 7 2 d)
  if o.isNone ∧ x.isNone then complete .badField [] s
  else if o.any (fun p => decide (15 < p)) || x.any (fun e => decide (240 < e)) then complete .outOfRange [] s
  else
    match findClient s (addrAt 0 d) with
    | none => complete .notFound [] s
    | some (i, c) =>
      let t := evalVerdict i (putClient i (assigned o x c) s)
      complete .ok (assignResult i t) t

/-- CLIENT ASSIGN (R130). -/
def execClientAssign (t : Submit) (s : State) : Host.Outcome State Fault Refusal :=
  taken (submit 4 (lenIs 9) runClientAssign t) s

/-! ## PROFILE WRITE (R123, R125) -/

/-- A window of PROFILE WRITE with its kind code, before it is checked (Table 10-3). -/
structure RawWindow where
  mask : Byte
  start : Nat
  stop : Nat
  kind : Nat
  deriving DecidableEq, Repr

/-- n windows of six bytes. -/
def rawWindows : Nat → List Byte → List RawWindow
  | 0, _ => []
  | n + 1, d => { mask := d.headD 0#8, start := field 1 2 d, stop := field 3 2 d, kind := field 5 1 d } ::
      rawWindows n (d.drop 6)

/-- A window outside the ranges of R123. -/
def windowOutOfRange (w : RawWindow) : Bool := decide (1439 < w.start) || w.stop == 0 || decide (1440 < w.stop)

/-- A window with a bad field (R123). -/
def windowBad (p : Nat) (w : RawWindow) : Bool :=
  decide (w.stop ≤ w.start) || bitOf w.mask 7 || !(w.kind == 1 || w.kind == 2) || (w.kind == 2 && p != 0)

/-- A checked window. -/
def windowOf (w : RawWindow) : Window :=
  { mask := w.mask, start := w.start, stop := w.stop, kind := if w.kind = 1 then .closed else .maintenance }

/-- The argument length PROFILE WRITE requires: 5 + 6n (Table 10-3). -/
def profileLenOk (d : List Byte) : Bool := decide (5 ≤ d.length) && d.length == 5 + 6 * field 1 1 d

/-- A profile's state, for profile 0 the maintenance indication, and its clients' verdicts evaluated anew (R125, R126). -/
def evalAround (p : Nat) (s : State) : State :=
  let a := evalProfile p s
  evalVerdictsOf p (if p = 0 then evalMaintenance a else a)

/-- PROFILE WRITE carried out; the result says 0 for a record that took effect and 1 for a staged one (R123, R125). -/
def runProfileWrite (d : List Byte) (s : State) : State :=
  let p := field 0 1 d
  let n := field 1 1 d
  let ws := rawWindows n (d.drop 2)
  let budget := field (2 + 6 * n) 2 d
  let strict := field (4 + 6 * n) 1 d
  if 15 < p ∨ 8 < n ∨ ws.any windowOutOfRange ∨ 1440 < budget then complete .outOfRange [] s
  else if ws.any (windowBad p) then complete .badField [] s
  else
    let r : ProfileRecord := { windows := ws.map windowOf, budget := budget, strict := strict != 0 }
    if s.su.clock.grade = .unset then complete .ok [0#8] (acConditions (evalAround p (applyRecord p r s)))
    else complete .ok [1#8] (putProfile p { profileOf s p with staged := some r } s)

/-- PROFILE WRITE (R123). -/
def execProfileWrite (t : Submit) (s : State) : Host.Outcome State Fault Refusal :=
  taken (submit 5 profileLenOk runProfileWrite t) s

/-! ## PROFILE PAUSE and PROFILE RESUME (R126) -/

/-- The code of a profile's state (Table 10-7). -/
def profileCode (p : Profile) : Nat := if p.closed.isSome then 1 else 0

/-- The paused flag written, with the evaluations that follow (R126). -/
def runPaused (paused : Bool) (d : List Byte) (s : State) : State :=
  let p := field 0 1 d
  if 15 < p then complete .outOfRange [] s
  else
    let a := evalProfile p (putProfile p { profileOf s p with paused := paused } s)
    let b := evalVerdictsOf p a
    complete .ok (toBE 1 (profileCode (profileOf b p))) b

/-- PROFILE PAUSE (R126). -/
def execProfilePause (t : Submit) (s : State) : Host.Outcome State Fault Refusal :=
  taken (submit 6 (lenIs 1) (runPaused true) t) s

/-- PROFILE RESUME (R126). -/
def execProfileResume (t : Submit) (s : State) : Host.Outcome State Fault Refusal :=
  taken (submit 7 (lenIs 1) (runPaused false) t) s

/-! ## RULE WRITE and RULE CLEAR (R71) -/

/-- A match that RULE WRITE gives when its presence flag is set. -/
def given {α : Type} (flags : Byte) (k : Nat) (v : α) : Option α := if bitOf flags k then some v else none

/-- A protocol code (Table 4-2). -/
def protoOfCode (n : Nat) : Option Proto :=
  match n with
  | 1 => some .tcp
  | 2 => some .udp
  | 3 => some .other
  | _ => none

/-- An action code of RULE WRITE (Table 4-2). -/
def actionOfCode (n : Nat) : Option Class :=
  match n with
  | 1 => some .game
  | 2 => some .standard
  | 3 => some .bulk
  | _ => none

/-- A range whose low end is above its high end. -/
def crossed (r : Nat × Nat) : Bool := decide (r.2 < r.1)

/-- The outcome R71 refuses a rule with, or the rule (R71, Table 10-3). -/
def ruleOf (d : List Byte) : Except ReqOutcome Rule :=
  let f := (d.drop 1).headD 0#8
  let version := given f 0 (field 2 1 d)
  let proto := given f 1 (field 3 1 d)
  let rp := given f 2 (field 4 2 d, field 6 2 d)
  let lp := given f 3 (field 8 2 d, field 10 2 d)
  let prio := given f 4 (field 12 1 d, field 13 1 d)
  let dscp := given f 5 (field 14 1 d)
  let profile := given f 6 (field 15 1 d)
  if 31 < field 0 1 d ∨ profile.any (fun p => decide (15 < p)) ∨ dscp.any (fun v => decide (63 < v)) then
    .error .outOfRange
  else if rp.any crossed ∨ lp.any crossed ∨
      prio.any (fun r => crossed r || decide (7 < r.1) || decide (7 < r.2)) ∨
      version.any (fun v => !(v == 4 || v == 6)) ∨ proto.any (fun v => (protoOfCode v).isNone) then .error .badField
  else
    match actionOfCode (field 16 1 d) with
    | none => .error .badField
    | some action =>
      .ok { valid := true, version := version, proto := proto.bind protoOfCode, remotePort := rp, localPort := lp,
            priority := prio, dscp := dscp, profile := profile, action := action }

/-- RULE WRITE carried out (R71). -/
def runRuleWrite (d : List Byte) (s : State) : State :=
  match ruleOf d with
  | .error o => complete o [] s
  | .ok r => complete .ok [] (s.setFc { s.fc with rules := tabSet s.fc.rules (field 0 1 d) r })

/-- RULE WRITE (R71). -/
def execRuleWrite (t : Submit) (s : State) : Host.Outcome State Fault Refusal :=
  taken (submit 8 (lenIs 17) runRuleWrite t) s

/-- The Rule Table with the valid flag of one rule clear (R71). -/
def clearRule (i : Nat) (t : Table Rule) : Table Rule :=
  match tabGet t i with
  | some r => tabSet t i { r with valid := false }
  | none => t

/-- RULE CLEAR carried out (R71). -/
def runRuleClear (d : List Byte) (s : State) : State :=
  if 31 < field 0 1 d then complete .outOfRange [] s
  else complete .ok [] (s.setFc { s.fc with rules := clearRule (field 0 1 d) s.fc.rules })

/-- RULE CLEAR (R71). -/
def execRuleClear (t : Submit) (s : State) : Host.Outcome State Fault Refusal :=
  taken (submit 9 (lenIs 1) runRuleClear t) s

end Sys2Proof.Machine
end

