-- ==== Sys2Proof/Machine/FlashWork.lean ====
section
/-! DEFINITION. The commands that end a flash operation (sections 8.2, 8.5 to 8.9, 9.6 and 11.4). A command that ends an operation
other than the one in flight changes nothing. -/

namespace Sys2Proof.Machine

/-- The operation in flight has ended. -/
def opDone (s : State) : State := setIe s (fun e => { e with op := none })

/-- What follows the end of an operation: fetches the new state calls for, the next operation, the transmitter (R141,
R145). -/
def afterOp (s : State) : State := wake (startFlash (issueFetches s))

/-- What the flash holds after a program of n bytes: the bytes of the read-back, erased where it gives none (R150, R189;
assumption log 15). -/
def readBackOf (n : Nat) (readBack : List Byte) : List Byte :=
  readBack.take n ++ List.replicate (n - readBack.length) 0xFF#8

/-! ## The erase of a BLOCK RESET IMAGE (R156) -/

/-- The incoming slot is on its way to EMPTY: an erase begins with nothing queued, one under way drops what is queued, and in an
EMPTY slot the request completes; the AC recomputes its state (R156, R158). -/
def bringToEmpty (s : State) : State :=
  acSettle
    (match s.ie.inc with
      | .empty => complete .ok [] s
      | .erasing => setIe s (fun e => { e with after := .nothing, conflictInc := false })
      | .filling | .checking | .ready | .rejected => beginErase .nothing s)

/-- The erase that waited for the program sequence which has just ended begins; what the sequence's end itself has begun counts
as part of it (R156, assumption log 60). -/
def endWait (waited : Bool) (s : State) : State :=
  if waited then bringToEmpty (setIe s (fun e => { e with resetWaits := false })) else s

/-! ## Chunk programs (R150, R151) -/

/-- The lowest spare that no remap entry names (R151). -/
def freeSpare (remap : List (Nat × Nat)) : Option Nat :=
  (List.range 16).find? (fun k => !(remap.any (fun e => e.2 == k)))

/-- The present chunks of a page become missing (R151). -/
def missPage (page : Nat) (p : Table ChunkState) : Table ChunkState :=
  p.filter (fun e => !(e.1 / 64 == page && e.2 == .present))

/-- A fault is recorded and FLASH FAULT raised (R150). -/
def recordFault (f : FaultRec) (s : State) : State := raise (.flashFault f) (setIe s (fun e => { e with fault := some f }))

/-- The second fault in a page: a remap, or SLOT_FULL and an erase when no spare is free (R151). -/
def secondFault (f : FaultRec) (page : Nat) (s : State) : State :=
  match freeSpare s.ie.incRemap with
  | some spare =>
    requestHeader (.mark f.slot (.remap page spare)) (setIe s (fun e =>
      { e with incRemap := e.incRemap ++ [(page, spare)], presence := missPage page e.presence,
               tally := e.tally.filter (· != page) }))
  | none =>
    let t := recordFault { f with kind := .slotFull } s
    match t.ie.incDesc with
    | some d => beginErase (.image d) t
    | none => t

/-- The tally of a page after a fault whose chunk was in the queue (R150, R151). -/
def pageFault (f : FaultRec) (page : Nat) (s : State) : State :=
  if s.ie.tally.contains page then secondFault f page s
  else setIe s (fun e => { e with tally := page :: e.tally })

/-- A chunk leaves the queue with its sequence's end, and takes a state: present, or missing (R150). -/
def endProg (p : Prog) (o : Option ChunkState) (s : State) : State :=
  setIe s (fun e => { e with
    progs := e.progs.drop 1
    presence := match o with
      | some x => tabSet e.presence p.index x
      | none => tabErase e.presence p.index })

/-- Every chunk of the incoming image is present (R152). -/
def allPresent (s : State) : Bool :=
  match s.ie.incDesc with
  | some d => s.ie.inc == .filling && decide (heldCount s = chunkCount d.length)
  | none => false

/-- The last missing chunk present: the slot enters CHECKING and the check begins; the fetch list is emptied (R146,
R152). -/
def startCheck (s : State) : State :=
  if allPresent s then
    setIe s (fun e => { e with inc := .checking, fetches := [], check := some { next := 0, register := crcInit } })
  else s

/-- A chunk read back right: its progress mark is written, and it is present if it is still in the queue (R150). -/
def chunkGood (sl : Slot) (pos : Nat) (p : Prog) (live : Bool) (s : State) : State :=
  let h := s.flash.header sl
  let a := s.setFlash (s.flash.setHeader sl { h with progress := tabSet h.progress pos () })
  if live then
    let b := endProg p (some .present) a
    startCheck (if p.host then completePending 11 .ok [0#8] b else b)
  else a

/-- A chunk read back wrong: a PROGRAM_VERIFY fault (R150, R151; assumption log 31). -/
def chunkBad (sl : Slot) (pos : Nat) (p : Prog) (live : Bool) (s : State) : State :=
  let f : FaultRec := { kind := .programVerify, slot := sl, block := pos / 64, chunk := p.index }
  if live then
    let a := recordFault f (endProg p none s)
    pageFault f (p.index / 64) (if p.host then completePending 11 .busy [2#8] a else a)
  else recordFault f s

/-- CHUNK_PROGRAM_DONE (R150, R156). -/
def execChunkProgramDone (readBack : List Byte) (s : State) : Host.Outcome State Fault Refusal :=
  taken (fun t =>
    match t.ie.op with
    | some (.chunk sl pos p live) =>
      let got := readBackOf p.data.length readBack
      let a := opDone (t.setFlash { t.flash with mem := memWriteAll t.flash.mem (chunkOffset sl pos) got })
      afterOp (endWait t.ie.resetWaits (if got = p.data then chunkGood sl pos p live a else chunkBad sl pos p live a))
    | _ => t) s

/-! ## Header programs (R137, R141, R166) -/

/-- The mark is one of SWAP SLOTS (R166). -/
def isSwapMark : Mark → Bool
  | .active _ | .retired => true
  | _ => false

/-- A mark stands in a slot's header. -/
def markHeader (sl : Slot) (m : Mark) (s : State) : State :=
  s.setFlash (s.flash.setHeader sl (applyMark m (s.flash.header sl)))

/-- HEADER_PROGRAM_DONE (R137, R141). -/
def execHeaderProgramDone (s : State) : Host.Outcome State Fault Refusal :=
  taken (fun t =>
    match t.ie.op with
    | some (.header (.mark sl m)) => if isSwapMark m then t else afterOp (markHeader sl m (opDone t))
    | _ => t) s

/-- The second program of a swap has ended: SWAPPED, the event, and the request's result (R166). -/
def swapDone (s : State) : State :=
  let count := (s.flash.header (incSlot s)).activeCount.getD 0
  let a := acTo .swapped s
  completePending 14 .ok (toBE 4 count) (raise (.swapped (incomingNumber a) count) a)

/-- SWAP_PROGRAM_DONE (R166). -/
def execSwapProgramDone (s : State) : Host.Outcome State Fault Refusal :=
  taken (fun t =>
    match t.ie.op with
    | some (.header (.mark sl (.active n))) => afterOp (markHeader sl (.active n) (opDone t))
    | some (.header (.mark sl .retired)) => afterOp (swapDone (markHeader sl .retired (opDone t)))
    | _ => t) s

/-! ## Erases (R140) -/

/-- BLOCK_ERASE_DONE: a data block is erased, or the header block, which ends the erase (R140). -/
def execBlockEraseDone (s : State) : Host.Outcome State Fault Refusal :=
  taken (fun t =>
    match t.ie.op with
    | some (.erase sl b) =>
      let a := opDone t
      if b < 272 then
        afterOp (setIe (a.setFlash { a.flash with mem := memEraseBlock a.flash.mem (dataBase sl + b) })
          (fun e => { e with erase := some (b + 1) }))
      else afterOp (endErase (a.setFlash (a.flash.setHeader sl Header.blank)))
    | _ => t) s

/-! ## The whole-image check (R152) -/

/-- The check passed: READY, the ready mark, IMAGE READY (R152). -/
def checkPassed (d : Desc) (s : State) : State :=
  raise (.imageReady d.number)
    (requestHeader (.mark (incSlot s) .ready) (setIe s (fun e => { e with inc := .ready, check := none })))

/-- The check failed: the image is gathered again, or rejected at the third failure (R152). -/
def checkFailed (d : Desc) (s : State) : State :=
  let d1 := { d with failed := d.failed + 1 }
  if d1.failed ≤ 2 then beginErase (.image d1) (raise (.imageCheckFailed d.number d1.failed) s)
  else beginErase (.rejection { d with failed := 3 }) (raise (.imageRejected d.number) s)

/-- One check read of chunk k of the incoming image has ended (R152). -/
def checkRead (d : Desc) (c : Check) (s : State) : State :=
  let reg := crcFeed c.register (readChunk s.flash (incSlot s) s.ie.incRemap d.length c.next)
  if c.next + 1 < chunkCount d.length then
    setIe s (fun e => { e with check := some { next := c.next + 1, register := reg } })
  else if (~~~ reg).toNat = d.check then checkPassed d s
  else checkFailed d s

/-- CHECK_READ_DONE; a check that was stopped has no result (R152, R158). -/
def execCheckReadDone (s : State) : Host.Outcome State Fault Refusal :=
  taken (fun t =>
    match t.ie.op with
    | some (.checkRead k) =>
      let a := opDone t
      match a.ie.check, a.ie.incDesc with
      | some c, some d => if c.next = k then afterOp (acSettle (checkRead d c a)) else afterOp a
      | _, _ => afterOp a
    | _ => t) s

/-! ## Serving (R148) -/

/-- The run position of a served chunk (R148). -/
def runPosition (e : Serve) : Nat :=
  if e.count = 1 then 0 else if e.sent = 0 then 1 else if e.sent + 1 = e.count then 3 else 2

/-- The serve queue after its head's chunk was admitted (R148). -/
def servedOne (e : Serve) (rest : List Serve) : List Serve :=
  if e.sent + 1 < e.count then { e with sent := e.sent + 1 } :: rest else rest

/-- The chunk the head entry is at is offered to the ES as a CHUNK bulletin (R111, R148). -/
def serveChunk (e : Serve) (rest : List Serve) (s : State) : State :=
  match servable s e.image with
  | some (sl, remap, d) =>
    let k := e.first + e.sent
    let data := readChunk s.flash sl remap d.length k
    let body := Body.chunk e.image k e.number (runPosition e) (crc32 data) data
    let r := offerClass .update (mkEntry (chunkLength data.length) .update (.chunk e.requester body)) s
    setIe r.1 (fun i => { i with serves := if r.2 then servedOne e rest else rest })
  | none => setIe s (fun i => { i with serves := rest })

/-- SERVE_READ_DONE; an entry that left the queue meanwhile is not served (R148). -/
def execServeReadDone (s : State) : Host.Outcome State Fault Refusal :=
  taken (fun t =>
    match t.ie.op with
    | some (.serveRead q) =>
      let a := opDone t
      match a.ie.serves with
      | e :: rest => if e = q then afterOp (serveChunk e rest a) else afterOp a
      | [] => afterOp a
    | _ => t) s

/-! ## IMAGE READ (R154) -/

/-- The bytes of the chunk an IMAGE READ is at (R154). -/
def imagePiece (r : ImageRead) (s : State) : List Byte :=
  let at_ := r.offset + r.got.length
  let n := min (1024 - at_ % 1024) (r.length - r.got.length)
  memReadAll s.flash.mem (chunkOffset s.ie.activeSlot (physical s.ie.activeRemap (at_ / 1024)) + at_ % 1024) n

/-- One read of an IMAGE READ has ended: the next is waiting, or the request completes (R154). -/
def imageReadOne (r : ImageRead) (s : State) : State :=
  let got := r.got ++ imagePiece r s
  if got.length < r.length then setIe s (fun e => { e with imageRead := some { r with got := got } })
  else completePending 12 .ok (toBE 4 (crc32 got) ++ got) (setIe s (fun e => { e with imageRead := none }))

/-- IMAGE_READ_DONE (R154). -/
def execImageReadDone (s : State) : Host.Outcome State Fault Refusal :=
  taken (fun t =>
    match t.ie.op with
    | some .imageRead =>
      let a := opDone t
      match a.ie.imageRead with
      | some r => afterOp (imageReadOne r a)
      | none => afterOp a
    | _ => t) s

/-! ## START WRITE (R189) -/

/-- Block 0 holds what the read-back gives, the record is reloaded, and the request completes (R189, R190). -/
def startWritten (bytes readBack : List Byte) (s : State) : State :=
  let got := readBackOf bytes.length readBack
  let a := s.setFlash { s.flash with mem := replaceBlock s.flash.mem 0 got }
  let r := reload a
  completePending 24 .ok
    (toBE 1 (if got = bytes then 0 else 1) ++ toBE 1 r.2 ++ toBE 1 (partCode r.1.sl.part)) r.1

/-- START_WRITE_DONE (R189). A sequence in flight when supply-fail is asserted runs to its end like any other: the model's
choice, R155 naming a chunk sequence and a block erase only (assumption log 59). -/
def execStartWriteDone (readBack : List Byte) (s : State) : Host.Outcome State Fault Refusal :=
  taken (fun t =>
    match t.ie.op with
    | some (.header (.startRecord bytes)) => afterOp (startWritten bytes readBack (opDone t))
    | _ => t) s

end Sys2Proof.Machine
end

