-- ==== Sys2Proof/Machine/Images.lean ====
section
/-! DEFINITION. The requests on images, activation and the start record: IMAGE BEGIN, IMAGE CHUNK, IMAGE READ, ACTIVATE NOW, SWAP
SLOTS, CANCEL ACTIVATION, START WRITE (chapters 8, 9 and 11). -/

namespace Sys2Proof.Machine

/-! ## IMAGE BEGIN (R143, R144) -/

/-- The incoming descriptor in FILLING, CHECKING and READY, or the queued image in ERASING (R143). -/
def openImage (s : State) : Option Desc :=
  match s.ie.inc with
  | .filling | .checking | .ready => s.ie.incDesc
  | .erasing =>
    match s.ie.after with
    | .image d => some d
    | _ => none
  | .empty | .rejected => none

/-- The same number, length and check value. -/
def sameImage (number length check : Nat) (d : Desc) : Bool :=
  d.number == number && d.length == length && d.check == check

/-- IMAGE BEGIN is taken: IMAGE FOUND with subject 0, and the slot acts as at a discovery (R142, R143). -/
def beginImage (number length check : Nat) (s : State) : State :=
  startFlash (issueFetches (acSettle
    (takeImage { number := number, length := length, check := check, failed := 0 }
      (raise (.imageFound 0 number length) s))))

/-- IMAGE BEGIN carried out (R143, R144). The "incoming state it left" in its result is the state after the request
(assumption log 54). -/
def runImageBegin (d : List Byte) (s : State) : State :=
  let number := field 0 4 d
  let length := field 4 4 d
  let check := field 8 4 d
  if number = 0 then complete .badField [] s
  else if length = 0 ∨ Config.imageBytesMax < length then complete .outOfRange [] s
  else if (openImage s).any (sameImage number length check) then complete .ok (toBE 1 (incCode s.ie.inc)) s
  else if conflicts (heldIncoming s) number length check ∨ conflicts s.ie.activeDesc number length check then
    complete .badField [] (noteConflicts 0 number length check s)
  else if ¬ acQuiet s then complete .wrongState [] s
  else
    let t := beginImage number length check s
    wake (complete .ok (toBE 1 (incCode t.ie.inc)) t)

/-- IMAGE BEGIN (R143). -/
def execImageBegin (t : Submit) (s : State) : Host.Outcome State Fault Refusal :=
  taken (submit 10 (lenIs 12) runImageBegin t) s

/-! ## IMAGE CHUNK (R149) -/

/-- The argument length IMAGE CHUNK requires: 11..1034 (Table 10-3). -/
def chunkLenOk (d : List Byte) : Bool := decide (11 ≤ d.length) && decide (d.length ≤ 1034)

/-- IMAGE CHUNK carried out: refused by a check of Table 8-5 with its outcome, or PENDING (R149). -/
def runImageChunk (d : List Byte) (s : State) : State :=
  let index := field 4 2 d
  let data := d.drop 10
  match acceptance s (field 0 4 d) index (field 6 4 d) data with
  | .accepted => startFlash (setIe s (acceptChunk { index := index, data := data, host := true }))
  | .wrongState => complete .wrongState [] s
  | .outOfRange => complete .outOfRange [] s
  | .badField => complete .badField [] s
  | .held => complete .ok [1#8] s
  | .busy => complete .busy [3#8] s

/-- IMAGE CHUNK (R149). -/
def execImageChunk (t : Submit) (s : State) : Host.Outcome State Fault Refusal :=
  taken (submit 11 chunkLenOk runImageChunk t) s

/-! ## IMAGE READ (R154) -/

/-- IMAGE READ carried out (R154). -/
def runImageRead (d : List Byte) (s : State) : State :=
  let offset := field 0 4 d
  let length := field 4 2 d
  match s.ie.activeDesc with
  | none => complete .notFound [] s
  | some a =>
    if a.number = 0 then complete .notFound [] s
    else if length = 0 ∨ 1024 < length ∨ a.length < offset + length then complete .outOfRange [] s
    else startFlash (setIe s (fun e => { e with imageRead := some { offset := offset, length := length, got := [] } }))

/-- IMAGE READ (R154). -/
def execImageRead (t : Submit) (s : State) : Host.Outcome State Fault Refusal :=
  taken (submit 12 (lenIs 6) runImageRead t) s

/-! ## ACTIVATE NOW, SWAP SLOTS, CANCEL ACTIVATION (R160, R165, R166) -/

/-- The AC state and whether each condition of R159 holds (R160). -/
def acReport (s : State) : List Byte :=
  toBE 1 (acCode s.ac.state) ++ flagByte (condHoldoff s) ++ flagByte (condMaintenance s) ++ flagByte (condQuiet s) ++
    flagByte (condClock s)

/-- ACTIVATE NOW carried out (R160). -/
def runActivateNow (_d : List Byte) (s : State) : State :=
  if acBusy s then complete .wrongState [] s
  else
    let t := acConditions (s.setAc { s.ac with activateNow := true })
    complete .ok (acReport t) t

/-- ACTIVATE NOW (R160). -/
def execActivateNow (t : Submit) (s : State) : Host.Outcome State Fault Refusal :=
  taken (submit 13 (lenIs 0) runActivateNow t) s

/-- The new activation count of a swap: the active slot's plus 1, or 1 when it holds no active mark (R166). -/
def swapCount (s : State) : Nat :=
  match (s.flash.header s.ie.activeSlot).activeCount with
  | some n => n + 1
  | none => 1

/-- SWAP SLOTS is taken: SWAPPING, the lapse timer stops, and the two header programs are requested (R166). -/
def beginSwap (s : State) : State :=
  let a := acTo .swapping s
  let b := a.setAc { a.ac with lapseTimer := none }
  startFlash (requestHeader (.mark b.ie.activeSlot .retired)
    (requestHeader (.mark (incSlot b) (.active (swapCount b))) b))

/-- SWAP SLOTS carried out (R166). -/
def runSwapSlots (_d : List Byte) (s : State) : State :=
  if s.ac.state ≠ .leaving then complete .wrongState [] s
  else if 4294967295 < swapCount s then complete .outOfRange [] s
  else beginSwap s

/-- SWAP SLOTS (R166). -/
def execSwapSlots (t : Submit) (s : State) : Host.Outcome State Fault Refusal :=
  taken (submit 14 (lenIs 0) runSwapSlots t) s

/-- CANCEL ACTIVATION is taken: the AC's state, timers, mark and holdoff (R165). -/
def cancelled (s : State) : State :=
  let a :=
    match s.ac.state with
    | .wanting | .draining | .leaving => acStopTimers (acTo .waiting s)
    | _ => s
  setHoldoff (a.setAc { a.ac with activateNow := false })

/-- CANCEL ACTIVATION carried out; the result gives the state it left (R165). -/
def runCancelActivation (_d : List Byte) (s : State) : State :=
  if s.ac.state = .swapping ∨ s.ac.state = .swapped then complete .wrongState [] s
  else complete .ok (toBE 1 (acCode s.ac.state)) (acConditions (cancelled s))

/-- CANCEL ACTIVATION (R165). -/
def execCancelActivation (t : Submit) (s : State) : Host.Outcome State Fault Refusal :=
  taken (submit 15 (lenIs 0) runCancelActivation t) s

/-! ## START WRITE (R189) -/

/-- The argument length START WRITE requires: a record of 1..1040 bytes (Table 10-3). -/
def recordLenOk (d : List Byte) : Bool := decide (1 ≤ d.length) && decide (d.length ≤ 1040)

/-- START WRITE carried out: header-class flash work, the request PENDING (R141, R189). -/
def runStartWrite (d : List Byte) (s : State) : State := startFlash (requestHeader (.startRecord d) s)

/-- START WRITE (R189). -/
def execStartWrite (t : Submit) (s : State) : Host.Outcome State Fault Refusal :=
  taken (submit 24 recordLenOk runStartWrite t) s

end Sys2Proof.Machine
end

