-- ==== Sys2Proof/Machine/Receive.lean ====
section
/-! DEFINITION. Shared operations on received mesh frames: the checks of R1 to R8 and the delivery of a bulletin (chapter 1). -/

namespace Sys2Proof.Machine

/-- NODE CLASH for a node number, unless its clash timer is running; raising it starts the timer (R3). -/
def nodeClash (n : Nat) (a : Addr) (s : State) : State :=
  match tabGet s.bu.clash n with
  | some _ => s
  | none => raise (.nodeClash n a) (s.setBu { s.bu with clash := tabSet s.bu.clash n (s.now + Config.clashNs) })

/-- What the checks of R2, from the second on, and of R3 decide of a frame. -/
inductive Gate where
  /-- Discarded without a trace. -/
  | discard
  /-- Discarded, with NODE CLASH for the node. -/
  | clash (n : Nat)
  /-- From an ABSENT source. -/
  | absent (n : Nat)
  /-- From a source with an entry, at its recorded address. -/
  | known (n : Nat) (p : Peer)
  deriving DecidableEq, Repr

/-- The mesh tag, node number, own-number and Peer Table checks in their order (R2, R3). -/
def gate (srcAddr : Addr) (meshTag : BitVec 16) (source target : BitVec 8) (s : State) : Gate :=
  if meshTag.toNat ≠ s.sl.params.meshTag then .discard
  else if source.toNat = 0 ∨ 8 < source.toNat ∨ 8 < target.toNat ∨ target = source then .discard
  else if source.toNat = s.sl.params.node then
    (if srcAddr = Config.ownAddress then .discard else .clash source.toNat)
  else
    match peerOf s source.toNat with
    | none => .absent source.toNat
    | some p => if p.addr = srcAddr then .known source.toNat p else .clash source.toNat

/-- The backhaul port hands a frame on: the part is RUNNING and the frame type is the start record's (R1). -/
def portTakes (frameType : BitVec 16) (s : State) : Bool := running s && frameType.toNat == s.sl.params.frameType

/-- The body bytes of a bulletin, padding left out; none when the body length exceeds what follows the header (R2). -/
def bodyBytes (f : MeshFrame) : Option (List Byte) :=
  if f.bodyLen.toNat ≤ f.bytes.length then some (f.bytes.take f.bodyLen.toNat) else none

/-- The body of a bulletin of a known kind; none when it is malformed (R2, R22). -/
def readBody (kind : Nat) (f : MeshFrame) : Option Body := (bodyBytes f).bind (decodeBody kind)

/-- Peer n's last accepted sequence (R5). -/
def setLastSeq (n : Nat) (p : Peer) (q : BitVec 16) (s : State) : State :=
  setPeers (tabSet s.bu.peers n { p with lastSeq := q }) s

/-- The bulletin is for this node: target 0 or the own number, or a kind that is always broadcast (R7). -/
def isDelivered (kind : Nat) (target : BitVec 8) (s : State) : Bool :=
  target.toNat == 0 || target.toNat == s.sl.params.node || kind == 2 || kind == 7

/-- A bulletin of a known kind other than PULSE: checked, its sequence taken, delivered with its source node (R2 to R7). -/
def receive (kind : Nat) (f : MeshFrame) (deliver : Nat → Body → State → State) (s : State) : State :=
  if portTakes f.frameType s then
    match readBody kind f with
    | none => s
    | some b =>
      match gate f.srcAddr f.meshTag f.source f.target s with
      | .discard => s
      | .clash n => nodeClash n f.srcAddr s
      | .absent _ => s
      | .known n p =>
        if newer f.seq p.lastSeq then
          let t := setLastSeq n p f.seq s
          if isDelivered kind f.target s then deliver n b t else t
        else s
  else s

/-! ## An accepted PULSE (R15) -/

/-- An accepted FRESH pulse from a known peer whose last pulse did not carry FRESH is a restart (R6). -/
def isRestart (b : PulseBody) (p : Peer) : Bool := b.fresh && !p.lastFresh

/-- The entry a pulse leaves, before its period and time tests (R15). -/
def pulseEntry (now : Nat) (f : MeshFrame) (b : PulseBody) (o : Option Peer) : Peer :=
  match o with
  | none =>
    { state := .joining, addr := f.srcAddr, lastSeq := f.seq, lastFresh := b.fresh, quiet := 0, run := 0, heard := true,
      lastPulse := now, adv := b, mismatch := false, skew := false }
  | some p =>
    { p with state := if p.state == .silent then .present else p.state, lastSeq := f.seq, lastFresh := b.fresh,
             quiet := 0, heard := true, lastPulse := now, adv := b }

/-- The period test of an accepted pulse (R18). -/
def periodTest (n : Nat) (b : PulseBody) (s : State) : State :=
  match peerOf s n with
  | none => s
  | some p =>
    let differs := b.period != s.sl.params.pulsePeriod
    let t := setPeers (tabSet s.bu.peers n { p with mismatch := differs }) s
    if differs && !p.mismatch then raise (.periodMismatch n b.period) t else t

/-- The time test of a grade-2 pulse met by a clock that is not UNSET (R20). -/
def skewTest (n : Nat) (b : PulseBody) (s : State) : State :=
  match peerOf s n with
  | none => s
  | some p =>
    let far := decide (120000 <
      weekDistance (weekMilli s.su.clock.minute s.su.clock.milli) (weekMilli b.minute b.milli))
    let t := setPeers (tabSet s.bu.peers n { p with skew := far }) s
    if far && !p.skew then raise (.timeSkew n b.minute b.milli) t else t

/-- The time tests of an accepted pulse: a grade-2 pulse lends its time to an UNSET clock, or is compared (R19, R20). -/
def timeTest (n : Nat) (b : PulseBody) (s : State) : State :=
  if b.grade == .set then
    if s.su.clock.grade == .unset then raise (.timeBorrowed n) (newClockValue .borrowed b.minute b.milli s)
    else skewTest n b s
  else s

/-- An accepted PULSE is taken into the Peer Table: restart test, entry, period and time tests (R6, R15). -/
def acceptPulse (n : Nat) (f : MeshFrame) (b : PulseBody) (o : Option Peer) (s : State) : State :=
  let a := if o.any (isRestart b) then losePeer n s else s
  let c := setPeers (tabSet a.bu.peers n (pulseEntry a.now f b o)) a
  let d := if o.any (fun p => p.state == .silent) then raise (.peerJoined n) c else c
  timeTest n b (periodTest n b d)

/-- A PULSE is checked (R2 to R5): an accepted one is handed on with its node and body. -/
def receivePulse (f : MeshFrame) (deliver : Nat → PulseBody → State → State) (s : State) : State :=
  if portTakes f.frameType s then
    match readBody 1 f with
    | some (.pulse b) =>
      match gate f.srcAddr f.meshTag f.source f.target s with
      | .discard => s
      | .clash n => nodeClash n f.srcAddr s
      | .absent n => deliver n b (acceptPulse n f b none s)
      | .known n p => if newer f.seq p.lastSeq || b.fresh then deliver n b (acceptPulse n f b (some p) s) else s
    | _ => s
  else s

/-! ## A carried frame (R2, R8) -/

/-- The class a carrier header names. -/
def carrierClass (c : BitVec 8) : Option Class :=
  match c.toNat with
  | 0 => some .game
  | 1 => some .standard
  | 2 => some .bulk
  | _ => none

/-- A carried frame is checked; one for this node is handed on with its class and client frame (R2, R3, R8; assumption
log 17). -/
def receiveCarried (f : CarriedFrame) (deliver : Class → List Byte → State → State) (s : State) : State :=
  if portTakes f.frameType s then
    match carrierClass f.cls with
    | none => s
    | some c =>
      if f.frameLen.toNat ≤ f.bytes.length ∧ 14 ≤ f.frameLen.toNat ∧ f.frameLen.toNat ≤ 1536 then
        match gate f.srcAddr f.meshTag f.source f.dest s with
        | .discard => s
        | .clash n => nodeClash n f.srcAddr s
        | .absent _ => s
        | .known _ _ =>
          if f.dest.toNat = s.sl.params.node then deliver c (f.bytes.take f.frameLen.toNat) s else s
      else s
  else s

end Sys2Proof.Machine
end

