-- ==== Sys2Proof/Machine/Mesh.lean ====
section
/-! DEFINITION. The commands of the backhaul port: the mesh frames and the pause frame received (chapters 1, 2, 3, 6 and 8). -/

namespace Sys2Proof.Machine

/-! ## PULSE -/

/-- What follows an accepted PULSE: the IE looks for an image, the AC at the drain flags and at what changed, fetches are
issued, flash work and the transmitter start (R15, R142, R145, R161). -/
def pulseFollow (n : Nat) (b : PulseBody) (s : State) : State :=
  wake (startFlash (issueFetches (acSettle (acPulse n b (lookForImage n b s)))))

/-- PULSE_RECEIVE (R15). -/
def execPulseReceive (f : MeshFrame) (s : State) : Host.Outcome State Fault Refusal :=
  taken (receivePulse f pulseFollow) s

/-! ## SIGHTING -/

/-- A served-here listing of an unknown client: a REMOTE entry is learned, if room can be made (R30). -/
def learn (n : Nat) (e : Listing) (s : State) : State :=
  match makeRoom [.departed, .orphan] s with
  | some (i, t) => putClient i (newClient t e.addr .remote n e.tenure) t
  | none => s

/-- Double serve with node n and tenure t: the loser becomes REMOTE, sends CONTEXT and raises DOUBLE SERVE (R61). -/
def doubleServe (i : Nat) (c : Client) (n : Nat) (t : BitVec 16) (s : State) : State :=
  let lost := newer t c.tenure || (!newer c.tenure t && decide (n < s.sl.params.node))
  if lost then
    let a := toRole i .remote (fun x => setHolddown s.sl.params s.now (setServing n { x with tenure := t })) s
    raise (.doubleServe c.addr n t c.tenure) (sendContext c n t a)
  else s

/-- The role effect of a served-here listing from node n (Table 2-3). -/
def roleEffect (n : Nat) (e : Listing) (s : State) : State :=
  match findClient s e.addr with
  | none => learn n e s
  | some (i, c) =>
    match c.role with
    | .remote =>
      if c.serving = n then (if newer e.tenure c.tenure then putClient i { c with tenure := e.tenure } s else s)
      else if newer e.tenure c.tenure || (e.tenure == c.tenure && decide (n < c.serving)) then
        putClient i (setServing n { c with tenure := e.tenure }) s
      else s
    | .claiming | .expecting => s
    | .served | .handing => doubleServe i c n e.tenure s
    | .orphan | .departed => toRole i .remote (fun x => setServing n { x with tenure := e.tenure }) s

/-- The reading of a listing recorded, and the claim evaluation run (R29, R34, R46). -/
def listingReading (n : Nat) (e : Listing) (s : State) : State :=
  match findClient s e.addr with
  | some (i, _) =>
    evaluateClaim i n e.reading
      (modClient i (fun c => { recordReading n e.reading s.now c with lastActivity := s.now }) s)
  | none => s

/-- One listing of a SIGHTING (R28). -/
def takeListing (n : Nat) (s : State) (e : Listing) : State :=
  if isGroup e.addr || (e.servedHere && e.tenure == 0#16) then s
  else drainSettle (listingReading n e (if e.servedHere then roleEffect n e s else s))

/-- A SIGHTING delivered (R28). -/
def takeSighting (n : Nat) (b : Body) (s : State) : State :=
  match b with
  | .sighting es => wake (es.foldl (takeListing n) s)
  | _ => s

/-- SIGHTING_RECEIVE (R28). -/
def execSightingReceive (f : MeshFrame) (s : State) : Host.Outcome State Fault Refusal :=
  taken (receive 2 f takeSighting) s

/-! ## CLAIM -/

/-- This node's offer list holds an offer of the client to the claimant (R49). -/
def hasOffer (s : State) (i n : Nat) : Bool := s.rc.offers.any (fun o => o.client == i && o.node == n)

/-- The offer that a CLAIM answers leaves the list (R63). -/
def dropOffer (i n : Nat) (s : State) : State :=
  s.setRc { s.rc with offers := s.rc.offers.filter (fun o => !(o.client == i && o.node == n)) }

/-- The refusal reason for a SERVED entry, none when the claim is granted (Table 3-1). -/
def refusal (s : State) (c : Client) (n : Nat) (reading : Int) (answers : Bool) : Option Nat :=
  if holddownRuns s.now c ∧ ¬ acDraining s then some 3
  else if c.average.any (fun a => decide (reading - a.value < 4 * (s.sl.params.margin : Int))) ∧ ¬ acDraining s ∧ ¬ answers
  then some 4
  else if isDrainingPeer s n then some 5
  else none

/-- A claim is granted: GRANT, HANDING with the claimant and the number, STEER (R50). -/
def grantClaim (i : Nat) (c : Client) (n : Nat) (number : BitVec 16) (s : State) : State :=
  raise (.steer c.addr n number)
    (toRole i .handing (fun x => { x with claimNo := some number, claimant := some n })
      (sendBulletin n (.grant c.addr number) s))

/-- The answer to a CLAIM by the first row of Table 3-1 that applies (R49). -/
def answerClaim (n : Nat) (a : Addr) (number : BitVec 16) (reading : Int) (s : State) : State :=
  match findClient s a with
  | none => sendBulletin n (.refuse a number 1) s
  | some (i, c) =>
    match c.role with
    | .remote | .claiming | .expecting | .orphan | .departed => sendBulletin n (.refuse a number 1) (dropOffer i n s)
    | .handing => sendBulletin n (.refuse a number 2) (dropOffer i n s)
    | .served =>
      let t := dropOffer i n s
      match refusal s c n reading (hasOffer s i n) with
      | some r => sendBulletin n (.refuse a number r) t
      | none => grantClaim i c n number t

/-- A CLAIM delivered (R49). -/
def takeClaim (n : Nat) (b : Body) (s : State) : State :=
  match b with
  | .claim a number reading => wake (offerFill (answerClaim n a number reading s))
  | _ => s

/-- CLAIM_RECEIVE (R49). -/
def execClaimReceive (f : MeshFrame) (s : State) : Host.Outcome State Fault Refusal :=
  taken (receive 3 f takeClaim) s

/-! ## GRANT -/

/-- A GRANT or REFUSE matches the open claim of entry c (R45). -/
def matchesClaim (c : Client) (n : Nat) (number : BitVec 16) : Bool := c.claimNo == some number && c.serving == n

/-- A GRANT delivered (R54). -/
def takeGrant (n : Nat) (b : Body) (s : State) : State :=
  match b with
  | .grant a number =>
    let back := wake (sendBulletin n (.withdraw a number) s)
    match findClient s a with
    | some (i, c) =>
      if c.role = .claiming ∧ matchesClaim c n number then toRole i .expecting id s
      else if c.role = .expecting ∧ matchesClaim c n number then s
      else back
    | none => back
  | _ => s

/-- GRANT_RECEIVE (R54). -/
def execGrantReceive (f : MeshFrame) (s : State) : Host.Outcome State Fault Refusal :=
  taken (receive 4 f takeGrant) s

/-! ## REFUSE -/

/-- A REFUSE delivered (R55). -/
def takeRefuse (n : Nat) (b : Body) (s : State) : State :=
  match b with
  | .refuse a number reason =>
    match findClient s a with
    | some (i, c) =>
      if c.role = .claiming ∧ matchesClaim c n number then
        toRole i .remote (fun x => setHolddown s.sl.params s.now { x with refusal := some reason }) s
      else s
    | none => s
  | _ => s

/-- REFUSE_RECEIVE (R55). -/
def execRefuseReceive (f : MeshFrame) (s : State) : Host.Outcome State Fault Refusal :=
  taken (receive 5 f takeRefuse) s

/-! ## WITHDRAW -/

/-- A WITHDRAW delivered (R51). -/
def takeWithdraw (n : Nat) (b : Body) (s : State) : State :=
  match b with
  | .withdraw a number =>
    match findClient s a with
    | some (i, c) =>
      if c.role = .handing ∧ c.claimNo = some number ∧ c.claimant = some n then
        wake (offerFill (raise (.steerCancelled a n) (toRole i .served id s)))
      else s
    | none => s
  | _ => s

/-- WITHDRAW_RECEIVE (R51). -/
def execWithdrawReceive (f : MeshFrame) (s : State) : Host.Outcome State Fault Refusal :=
  taken (receive 6 f takeWithdraw) s

/-! ## ARRIVED -/

/-- An ARRIVED from node n with tenure t for entry i (Table 3-2). -/
def arrivedEntry (i : Nat) (c : Client) (n : Nat) (t : BitVec 16) (s : State) : State :=
  match c.role with
  | .served | .handing =>
    let a := toRole i .remote (fun x => setHolddown s.sl.params s.now (setServing n { x with tenure := t })) s
    raise (.clientArrived c.addr n t) (sendContext c n t a)
  | .remote => putClient i { setServing n { c with tenure := t } with lastActivity := s.now } s
  | .claiming | .expecting | .orphan | .departed => toRole i .remote (fun x => setServing n { x with tenure := t }) s

/-- An ARRIVED delivered (R58). -/
def takeArrived (n : Nat) (b : Body) (s : State) : State :=
  match b with
  | .arrived a t =>
    match findClient s a with
    | some (i, c) => wake (drainSettle (arrivedEntry i c n t s))
    | none => s
  | _ => s

/-- ARRIVED_RECEIVE (R58). -/
def execArrivedReceive (f : MeshFrame) (s : State) : Host.Outcome State Fault Refusal :=
  taken (receive 7 f takeArrived) s

/-! ## CONTEXT -/

/-- A context's counters taken into an entry (R60). -/
def takeCounters (profile day used extra : Nat) (c : Client) : Client :=
  let p := if c.given then c else { c with profile := profile }
  if day = c.day then { p with used := min (used + c.used) 1440, extra := extra - c.drawn } else p

/-- A CONTEXT delivered (R60). -/
def takeContext (_n : Nat) (b : Body) (s : State) : State :=
  match b with
  | .context a t profile day used extra =>
    match findClient s a with
    | some (i, c) =>
      if isServing c.role ∧ t = c.tenure ∧ profile ≤ 15 ∧ day ≤ 6 ∧ used ≤ 1440 ∧ extra ≤ 240 then
        evalVerdict i (putClient i (takeCounters profile day used extra c) s)
      else s
    | none => s
  | _ => s

/-- CONTEXT_RECEIVE (R60). -/
def execContextReceive (f : MeshFrame) (s : State) : Host.Outcome State Fault Refusal :=
  taken (receive 8 f takeContext) s

/-! ## OFFER -/

/-- An OFFER delivered (R64). -/
def takeOffer (n : Nat) (b : Body) (s : State) : State :=
  match b with
  | .offer a =>
    match findClient s a with
    | some (i, c) =>
      if c.role = .remote ∧ c.serving = n ∧ c.average.isSome ∧ mayClaim s then wake (sendClaim i s) else s
    | none => s
  | _ => s

/-- OFFER_RECEIVE (R64). -/
def execOfferReceive (f : MeshFrame) (s : State) : Host.Outcome State Fault Refusal :=
  taken (receive 9 f takeOffer) s

/-! ## FETCH -/

/-- A serve-queue entry like this one, whatever its fetch number (R147). -/
def sameServe (n image first count : Nat) (e : Serve) : Bool :=
  e.requester == n && e.image == image && e.first == first && e.count == count

/-- A FETCH delivered (R147). -/
def takeFetch (n : Nat) (b : Body) (s : State) : State :=
  match b with
  | .fetch image first count number =>
    match servable s image with
    | some (_, _, d) =>
      if 1 ≤ count ∧ count ≤ 8 ∧ first + count ≤ chunkCount d.length ∧ ¬ s.ie.serves.any (sameServe n image first count) ∧
          s.ie.serves.length < Config.serveQueueMax then
        startFlash (setIe s (fun e => { e with
          serves := e.serves ++ [{ requester := n, image := image, first := first, count := count, number := number,
                                   sent := 0 }] }))
      else s
    | none => s
  | _ => s

/-- FETCH_RECEIVE (R147). -/
def execFetchReceive (f : MeshFrame) (s : State) : Host.Outcome State Fault Refusal :=
  taken (receive 10 f takeFetch) s

/-! ## CHUNK -/

/-- The fetch a CHUNK counts for after the chunk's index may have been received: all received, end of run, or still open
(R146). -/
def countChunk (f : Fetch) (got : Bool) (index position : Nat) (e : Ie) : Ie :=
  let g := if got then noteReceived index f else f
  let e1 := { e with fetches := e.fetches.map (fun x => if x = f then g else x) }
  if g.received.length = g.count then
    { e1 with fetches := e1.fetches.filter (fun x => x != g), strikes := tabErase e1.strikes g.peer }
  else if position = 0 ∨ position = 3 then failFetch g e1
  else e1

/-- A CHUNK delivered: offered for acceptance and counted against its fetch (R146, R149). -/
def takeChunk (n : Nat) (b : Body) (s : State) : State :=
  match b with
  | .chunk image index number position crc data =>
    let r := acceptance s image index crc data
    let a := if r = .accepted then setIe s (acceptChunk { index := index, data := data, host := false }) else s
    let c := match s.ie.fetches.find? (countsFor n number index) with
      | some f => setIe a (countChunk f (r = .accepted || r = .held) index position)
      | none => a
    wake (startFlash (issueFetches c))
  | _ => s

/-- CHUNK_RECEIVE (R146). -/
def execChunkReceive (f : MeshFrame) (s : State) : Host.Outcome State Fault Refusal :=
  taken (receive 11 f takeChunk) s

/-! ## Carried frames -/

/-- A carried frame delivered as uplink traffic, when this node has the uplink (R40). -/
def uplinkDelivery (c : Class) (frame : List Byte) (s : State) : State :=
  if s.sl.params.uplink then nodePump (offerFrame (.nodeSide false) c false frame s).1 else s

/-- The re-forwarded flag of a carrier header (Table 1-6). -/
def isReForwarded (f : CarriedFrame) : Bool := bitOf f.flags 0

/-- A carried frame for this node (R40, R41, R79). The entry of the destination address is the one it is resolved with, and
the one whose last activity is set, the frame of a BLOCKED client and one delivered as uplink traffic included (assumption
log 20). -/
def takeCarried (f : CarriedFrame) (c : Class) (frame : List Byte) (s : State) : State :=
  match findClient s (addrAt 0 frame) with
  | none => uplinkDelivery c frame s
  | some (i, k) =>
    match k.role with
    | .served | .handing =>
      if k.verdict = some .blocked then touch i s
      else
        let r := offerFrame (.nodeSide true) c false frame (touch i s)
        nodePump (if r.2 then markActive k.addr r.1 else r.1)
    | .remote | .claiming | .expecting =>
      if isReForwarded f then touch i s else wake (offerFrame (.peer k.serving) c true frame (touch i s)).1
    | .orphan | .departed => uplinkDelivery c frame (touch i s)

/-- CARRIED_FRAME_RECEIVE (R40). -/
def execCarriedFrameReceive (f : CarriedFrame) (s : State) : Host.Outcome State Fault Refusal :=
  taken (receiveCarried f (takeCarried f)) s

/-! ## Pause frames -/

/-- A pause frame: the address and the opcode of R106. -/
def isPause (f : PauseFrame) : Bool := f.dst == Config.pauseAddress && f.opcode == 1#16

/-- PAUSE_FRAME_RECEIVE: a pause of the given time replaces any in force; a time of 0 ends it (R106). -/
def execPauseFrameReceive (f : PauseFrame) (s : State) : Host.Outcome State Fault Refusal :=
  taken (fun t =>
    if isPause f then
      if f.time = 0#16 then
        (if t.es.pause.isSome then wake (t.setEs { t.es with pause := none }) else t)
      else t.setEs { t.es with pause := some (t.now + f.time.toNat * pauseUnitNs t) }
    else t) s

/-! ## Unknown kinds -/

/-- UNKNOWN_KIND_BULLETIN_RECEIVE: the sequence is taken, the body is dropped unread (R7). -/
def execUnknownKindBulletinReceive (_kind : BitVec 8) (f : MeshFrame) (s : State) :
    Host.Outcome State Fault Refusal :=
  taken (fun t =>
    if portTakes f.frameType t && (bodyBytes f).isSome then
      match gate f.srcAddr f.meshTag f.source f.target t with
      | .discard => t
      | .clash n => nodeClash n f.srcAddr t
      | .absent _ => t
      | .known n p => if newer f.seq p.lastSeq then setLastSeq n p f.seq t else t
    else t) s

end Sys2Proof.Machine
end

