-- ==== Sys2Proof/Machine/Ports.lean ====
section
/-! DEFINITION. The commands of the node port and of the two transmitters, and the supply-fail input (chapters 2, 4, 6, 8 and 9). -/

namespace Sys2Proof.Machine

/-! ## DATA items -/

/-- Where a DATA item goes by its direction (R38, R39). -/
def itemDest (it : NodeItem) (s : State) : Dest :=
  if itemToClient it then clientDest s (itemSubject it) else uplinkDest s

/-- The sample of a DATA item, when it carries one and its origin is RADIO (R35). -/
def itemSample (it : NodeItem) (s : State) : State :=
  if itemHasSample it && it.origin == 0#8 then takeSample (itemSubject it) (signed8 it.sample) s else s

/-- The subject is SERVED or HANDING here with verdict BLOCKED (R78). -/
def isBlocked (a : Addr) (s : State) : Bool :=
  match findClient s a with
  | some (_, c) => isServing c.role && c.verdict == some .blocked
  | none => false

/-- The subject's last activity is set when it is in the table (R34, R39). -/
def touchSubject (a : Addr) (s : State) : State :=
  match findClient s a with
  | some (i, _) => touch i s
  | none => s

/-- A classified frame is resolved and offered, and what belongs to admission follows (R38, R39, R72, R78, R81, R102). -/
def forward (it : NodeItem) (cls : Class) (flow : Option Nat) (s : State) : State :=
  let a := touchSubject (itemSubject it) s
  let d := itemDest it a
  if d = .nowhere ∧ ¬ itemToClient it then noUplink a
  else
    let r := offerFrame d cls false it.bytes a
    if r.2 then nodePump (wake (markActive (itemSubject it) (countFlow flow it.bytes.length r.1))) else r.1

/-- A DATA item that passed its checks: sample, verdict, classification, forwarding; a GAME flow created changes the
game-quiet condition (R35, R78, R80, R159). -/
def takeItem (it : NodeItem) (s : State) : State :=
  let a := itemSample it s
  if isBlocked (itemSubject it) a then a
  else
    let r := classify (itemSubject it) (itemSubjectDest it) it.bytes a
    let t := if r.1.fc.gameCount = a.fc.gameCount then r.1 else acConditions r.1
    forward it r.2.1 r.2.2 t

/-- NODE_PORT_DATA (R35). -/
def execNodePortData (it : NodeItem) (s : State) : Host.Outcome State Fault Refusal :=
  taken (fun t => if running t && dataItemOk it then takeItem it t else t) s

/-! ## SAMPLES items -/

/-- NODE_PORT_SAMPLES: the pairs are taken in list order (R35, R36). -/
def execNodePortSamples (it : NodeItem) (s : State) : Host.Outcome State Fault Refusal :=
  taken (fun t =>
    if running t && samplesItemOk it then
      (samplePairs it.pairs.toNat it.bytes).foldl (fun u p => takeSample p.1 p.2 u) t
    else t) s

/-! ## Transmitters -/

/-- BACKHAUL_TX_DONE: the last byte has left, and the transmitter makes its next choice unless it is HELD (R106, R107). -/
def execBackhaulTxDone (s : State) : Host.Outcome State Fault Refusal :=
  taken (fun t =>
    match t.es.backhaulTx with
    | some f =>
      let u := runTo f.ends t
      wake (u.setEs { u.es with backhaulTx := none })
    | none => t) s

/-- NODE_PORT_TX_DONE: the item has left, and the next NODE-SIDE entry is taken (R112). -/
def execNodePortTxDone (s : State) : Host.Outcome State Fault Refusal :=
  taken (fun t =>
    match t.es.nodeTx with
    | some f =>
      let u := runTo f.ends t
      nodePump (u.setEs { u.es with nodeTx := none })
    | none => t) s

/-- PAUSE_EXPIRY: the pause ends and the transmitter makes a choice (R106, R110). -/
def execPauseExpiry (s : State) : Host.Outcome State Fault Refusal :=
  taken (fun t => onExpiry t.es.pause (fun u => wake (u.setEs { u.es with pause := none })) t) s

/-! ## Supply fail -/

/-- The chunk in flight whose presence is still to come keeps its place at the head of the program queue (R155). -/
def inFlightProg (e : Ie) : Nat :=
  match e.op with
  | some (.chunk _ _ _ true) => 1
  | _ => 0

/-- The chunks waiting in the program queue are dropped and return to missing (R155). -/
def dropProgs (e : Ie) : Ie :=
  { e with progs := e.progs.take (inFlightProg e)
           presence := (e.progs.drop (inFlightProg e)).foldl (fun p g => tabErase p g.index) e.presence }

/-- An edge of the supply-fail input: a part with its supply raises the event in every part state, held in reset or not
(R168; assumption log 32). -/
def supplyEdge (level : Bool) (e : Event) (s : State) : State :=
  let t := s.setPins { s.pins with supplyFail := level }
  if t.pins.powered then raise e t else t

/-- The work of the assertion in a living part beside SUPPLY FAIL: the announcement PULSE and the program queue (R155,
R168). -/
def supplyFailed (s : State) : State :=
  let b := if running s then announcePulse s else s
  let hostWaits := (b.ie.progs.drop (inFlightProg b.ie)).any Prog.host
  let c := setIe b dropProgs
  wake (if hostWaits then completePending 11 .busy [3#8] c else c)

/-- SUPPLY_FAIL_ASSERT (R155, R168). -/
def execSupplyFailAssert (s : State) : Host.Outcome State Fault Refusal :=
  .next (if s.pins.supplyFail then s
    else
      let t := supplyEdge true .supplyFail s
      if alive t then supplyFailed t else t)

/-- SUPPLY_FAIL_DEASSERT: SUPPLY RESTORED, and waiting flash work and fetching resume (R155, R168). -/
def execSupplyFailDeassert (s : State) : Host.Outcome State Fault Refusal :=
  .next (if s.pins.supplyFail then
      let t := supplyEdge false .supplyRestored s
      if alive t then wake (issueFetches (startFlash t)) else t
    else s)

end Sys2Proof.Machine
end

