-- ==== Sys2Proof/Machine/Reads.lean ====
section
/-! DEFINITION. The read requests and the layout of their results (R96, R114, R134, R157, R177, R183; assumption log 26 and 27). -/

namespace Sys2Proof.Machine

/-! ## Items of a result (R173, R183) -/

/-- A time value: nanoseconds as milliseconds in 4 bytes, held at the top (R183). A fraction of a millisecond is dropped: the
model's choice (assumption log 58). -/
def timeBytes (ns : Nat) : List Byte := toBE 4 (min (ns / Config.msNs) 4294967295)

/-- The time remaining of a timer, 0 when it is not running (R183). -/
def remaining (timer : Option Nat) (s : State) : List Byte :=
  match timer with
  | some d => timeBytes (leftUntil s d)
  | none => timeBytes 0

/-- The time elapsed since an instant (R183). -/
def elapsed (since : Nat) (s : State) : List Byte := timeBytes (s.now - since)

/-- A field that may be absent: a presence byte, and the field when it is present (R177; assumption log 27). -/
def optBytes (o : Option (List Byte)) : List Byte :=
  match o with
  | some d => 1#8 :: d
  | none => [0#8]

def quadBytes (n : Nat) (q : Quad) : List Byte := toBE n q.game ++ toBE n q.standard ++ toBE n q.bulk ++ toBE n q.update
def tripleBytes (q : Triple) : List Byte := toBE 4 q.standard ++ toBE 4 q.bulk ++ toBE 4 q.update

/-! ## READ STATUS (R114, R157, R177) -/

/-- A queue's limit, cells and entries (R114). -/
def queueBytes (q : QName) (s : State) : List Byte :=
  toBE 2 (limitOf s.sl.params q) ++ toBE 2 (cellsOf (s.es.queue q)) ++ toBE 2 (s.es.queue q).length

/-- A descriptor's number, length, check value and failed checks; zeros and no presence byte when there is none, as
in EMPTY and ERASING: the model's choice (assumption log 27). -/
def descBytes (o : Option Desc) : List Byte :=
  match o with
  | some d => toBE 4 d.number ++ toBE 4 d.length ++ toBE 4 d.check ++ toBE 1 d.failed
  | none => List.replicate 13 0#8

/-- The state code of node n's Peer Table entry (Table 10-7). -/
def peerCode (s : State) (n : Nat) : Nat := ((peerOf s n).map (fun p => peerStateCode p.state)).getD 0

/-- The AC items of READ STATUS (R157). -/
def acBytes (s : State) : List Byte :=
  toBE 1 (acCode s.ac.state) ++ toBE 1 s.ac.count ++ remaining s.ac.drainTimer s ++ remaining s.ac.lapseTimer s ++
    timeBytes (leftUntil s s.ac.holdoffEnds) ++ flagByte s.ac.activateNow ++ flagByte (condHoldoff s) ++
    flagByte (condMaintenance s) ++ flagByte (condQuiet s) ++ flagByte (condClock s)

/-- The result of READ STATUS (R177). HELD is reported while a pause is in force, the transmitter still BUSY with a frame or
not (assumption log 53). The pulse period takes 2 bytes, as in the start record: the model's choice (assumption log 26). -/
def statusBytes (s : State) : List Byte :=
  toBE 1 (partCode s.sl.part) ++ toBE 1 (causeOfReset s.sl.cause) ++
    toBE 1 s.sl.params.node ++ flagByte s.sl.params.uplink ++ toBE 2 s.sl.params.pulsePeriod ++
    toBE 2 s.sl.params.sightPeriod ++
    toBE 1 (gradeCode s.su.clock.grade) ++ toBE 2 s.su.clock.minute ++ toBE 2 s.su.clock.milli ++
    nodes.flatMap (fun n => toBE 1 (peerCode s n)) ++
    toBE 2 (servedCount s) ++ toBE 2 s.rc.clients.length ++
    toBE 2 s.fc.flows.length ++ toBE 2 s.fc.gameCount ++
    toBE 2 s.es.free ++ queueBytes .game s ++ queueBytes .standard s ++ queueBytes .bulk s ++ queueBytes .update s ++
    queueBytes .node s ++ flagByte s.es.pause.isSome ++ toBE 1 (classCode s.es.pointer) ++
    toBE 4 (activeNumber s) ++ toBE 1 (incCode s.ie.inc) ++ descBytes s.ie.incDesc ++ toBE 2 (heldCount s) ++
    toBE 2 s.ie.fetches.length ++ toBE 2 s.ie.serves.length ++ toBE 2 s.ie.progs.length ++
    acBytes s ++ flagByte s.pins.supplyFail ++
    toBE 4 s.sc.epoch ++ toBE 1 s.ml.events.length ++ toBE 8 s.ml.mask.toNat

/-- READ STATUS (R177). -/
def execReadStatus (t : Submit) (s : State) : Host.Outcome State Fault Refusal :=
  taken (submit 16 (lenIs 0) (fun _ u => complete .ok (statusBytes u) u) t) s

/-! ## READ PEER (R177) -/

/-- A Peer Table entry in the order of Table 1-2; an ABSENT entry is all zeros (R177). The advertised contents are the 36
bytes of the PULSE body as Table 1-7 lays them out, and that the quiet count and the heard run take 1 byte each is the model's
choice too (assumption log 26). -/
def peerBytes (o : Option Peer) (s : State) : List Byte :=
  match o with
  | some p =>
    toBE 1 (peerStateCode p.state) ++ addrBytes p.addr ++ toBE 2 p.lastSeq.toNat ++ flagByte p.lastFresh ++
      toBE 1 p.quiet ++ toBE 1 p.run ++ flagByte p.heard ++ elapsed p.lastPulse s ++ encodePulse p.adv ++
      flagByte p.mismatch ++ flagByte p.skew
  | none => List.replicate 55 0#8

/-- READ PEER carried out (R177). -/
def runReadPeer (d : List Byte) (s : State) : State :=
  let n := field 0 1 d
  if n = 0 ∨ 8 < n then complete .outOfRange [] s else complete .ok (peerBytes (peerOf s n) s) s

/-- READ PEER (R177). -/
def execReadPeer (t : Submit) (s : State) : Host.Outcome State Fault Refusal :=
  taken (submit 17 (lenIs 1) runReadPeer t) s

/-! ## READ CLIENT (R177) -/

/-- A signed quarter-dB value. -/
def signalBytes (v : Int) : List Byte := toBE 2 (unsigned16 v)

/-- A Client Table entry in the order of Table 2-1, the last refusal reason, and the time since last activity (R177). The role
timer is 0 in SERVED and REMOTE, by R183, and has no presence byte (assumption log 27). The better count takes 1 byte, the
extra drawn 2 and the GAME flow count 1: the model's choice (assumption log 26). -/
def clientBytes (c : Client) (s : State) : List Byte :=
  addrBytes c.addr ++ toBE 1 (roleCode c.role) ++ toBE 1 c.serving ++ toBE 2 c.tenure.toNat ++
    optBytes (c.average.map (fun a => signalBytes a.value)) ++ optBytes (c.average.map (fun a => elapsed a.since s)) ++
    optBytes (c.best.map (fun b => signalBytes b.value ++ toBE 1 b.node)) ++
    optBytes (c.servingReading.map (fun r => signalBytes r.value)) ++
    toBE 1 c.better ++ optBytes (c.claimNo.map (fun n => toBE 2 n.toNat)) ++ optBytes (c.claimant.map (toBE 1)) ++
    remaining c.timer s ++ timeBytes (leftUntil s c.holddownEnds) ++ toBE 1 c.profile ++ flagByte c.given ++
    toBE 1 c.day ++ toBE 2 c.used ++ toBE 2 c.extra ++ toBE 2 c.drawn ++ flagByte c.active ++
    toBE 1 (verdictCode c.verdict) ++ toBE 1 c.games ++ toBE 1 (c.refusal.getD 0) ++ elapsed c.lastActivity s

/-- The entry READ CLIENT names (R177). -/
def namedClient (d : List Byte) (s : State) : Option Client :=
  if field 0 1 d = 0 then (findClient s (addrAt 1 d)).map Prod.snd else clientAt s (field 6 1 d)

/-- READ CLIENT carried out (R177). -/
def runReadClient (d : List Byte) (s : State) : State :=
  if 1 < field 0 1 d then complete .badField [] s
  else
    match namedClient d s with
    | some c => complete .ok (clientBytes c s) s
    | none => complete .notFound [] s

/-- READ CLIENT (R177). -/
def execReadClient (t : Submit) (s : State) : Host.Outcome State Fault Refusal :=
  taken (submit 18 (lenIs 7) runReadClient t) s

/-! ## READ FLOW (R177) -/

/-- A flow in the order of Table 4-3, the time since last seen in place of the instant; the bytes of the epoch take 4 bytes
and the remote address 16 for IPv4 too (assumption log 26). -/
def flowBytes (f : Flow) (s : State) : List Byte :=
  addrBytes f.key.subject ++ toBE 1 f.key.version ++ toBE 1 (protoCode f.key.proto) ++ toBE 16 f.key.remote ++
    toBE 2 f.key.remotePort ++ toBE 2 f.key.localPort ++ toBE 1 (classCode f.cls) ++ flagByte f.demoted ++
    toBE 1 f.client ++ toBE 4 f.bytes ++ elapsed f.lastSeen s

/-- An action's code in RULE WRITE (Table 4-2). -/
def actionCode (c : Class) : Nat := classCode c + 1

/-- A rule's record as RULE WRITE carries it (R177). The bytes of an absent match, which RULE WRITE ignores, are zeros: the
model's choice (assumption log 27). -/
def ruleRecord (r : Rule) : List Byte :=
  let rp := r.remotePort.getD (0, 0)
  let lp := r.localPort.getD (0, 0)
  let pr := r.priority.getD (0, 0)
  toBE 1 (flagBits [r.version.isSome, r.proto.isSome, r.remotePort.isSome, r.localPort.isSome, r.priority.isSome,
      r.dscp.isSome, r.profile.isSome]) ++
    toBE 1 (r.version.getD 0) ++ toBE 1 ((r.proto.map protoCode).getD 0) ++ toBE 2 rp.1 ++ toBE 2 rp.2 ++
    toBE 2 lp.1 ++ toBE 2 lp.2 ++ toBE 1 pr.1 ++ toBE 1 pr.2 ++ toBE 1 (r.dscp.getD 0) ++ toBE 1 (r.profile.getD 0) ++
    toBE 1 (actionCode r.action)

/-- A rule's valid flag, and its record when it is valid (R177). -/
def ruleBytes (o : Option Rule) : List Byte :=
  match o with
  | some r => if r.valid then 1#8 :: ruleRecord r else [0#8]
  | none => [0#8]

/-- READ FLOW carried out (R177). -/
def runReadFlow (d : List Byte) (s : State) : State :=
  let i := field 1 2 d
  if field 0 1 d = 0 then
    if 511 < i then complete .outOfRange [] s
    else
      match tabGet s.fc.flows i with
      | some f => complete .ok (flowBytes f s) s
      | none => complete .notFound [] s
  else if field 0 1 d = 1 then
    if 31 < i then complete .outOfRange [] s else complete .ok (ruleBytes (tabGet s.fc.rules i)) s
  else complete .badField [] s

/-- READ FLOW (R177). -/
def execReadFlow (t : Submit) (s : State) : Host.Outcome State Fault Refusal :=
  taken (submit 19 (lenIs 3) runReadFlow t) s

/-! ## READ SHARE (R96) -/

/-- The result record of the last completed computation, as R88 lists it. That a 1-byte count stands before the participants
and before the excluded peers, that both lists and the GAME grants go in node order, that the pools go stage by stage, and
the sizes, are the model's choice (assumption log 26). -/
def resultBytes (r : ShareResult) : List Byte :=
  toBE 4 r.epoch ++ toBE 2 r.params.cap ++ toBE 2 r.params.gc ++ toBE 2 r.params.wS ++ toBE 2 r.params.wB ++
    toBE 2 r.params.wU ++
    toBE 1 r.parts.length ++
    r.parts.flatMap (fun p => toBE 1 p.node ++ quadBytes 2 p.demand ++ flagByte p.held ++ toBE 2 p.served) ++
    toBE 1 r.excluded.length ++ r.excluded.flatMap (fun e => toBE 1 e.1 ++ toBE 1 (shareReasonCode e.2)) ++
    toBE 4 r.g ++ toBE 4 r.gcap ++ r.gameGrants.flatMap (fun g => toBE 2 g.2) ++ toBE 4 r.gg ++
    toBE 4 r.r ++ tripleBytes r.totals ++ toBE 2 r.w ++ tripleBytes r.pools ++ tripleBytes r.capped ++
    tripleBytes r.spilled ++ toBE 4 r.leftover ++ toBE 4 r.remainder ++ quadBytes 2 r.grants

/-- A token count: 4 bytes, two's complement, a size the spec does not give (assumption log 26). -/
def tokenBytes (v : Int) : List Byte := toBE 4 (unsigned32 v)

/-- The result of READ SHARE (R96). -/
def shareBytes (s : State) : List Byte :=
  toBE 4 s.sc.epoch ++ flagByte s.sc.inFlight ++ resultBytes s.sc.result ++ quadBytes 2 s.sc.loaded ++
    toBE 4 s.sc.loadedEpoch ++ tokenBytes s.es.tokens.game ++ tokenBytes s.es.tokens.standard ++
    tokenBytes s.es.tokens.bulk ++ tokenBytes s.es.tokens.update

/-- READ SHARE (R96). -/
def execReadShare (t : Submit) (s : State) : Host.Outcome State Fault Refusal :=
  taken (submit 20 (lenIs 0) (fun _ u => complete .ok (shareBytes u) u) t) s

/-! ## READ PROFILE (R134) -/

/-- The code of a window's kind (section 10.2). -/
def windowCode (k : WindowKind) : Nat :=
  match k with
  | .closed => 1
  | .maintenance => 2

/-- A profile record: windows, budget, strict flag; the 1-byte window count before the windows is the model's choice
(assumption log 26). -/
def recordBytes (r : ProfileRecord) : List Byte :=
  toBE 1 r.windows.length ++
    r.windows.flatMap (fun w => [w.mask] ++ toBE 2 w.start ++ toBE 2 w.stop ++ toBE 1 (windowCode w.kind)) ++
    toBE 2 r.budget ++ flagByte r.strict

/-- The code of why a profile is CLOSED, 0 for none (Table 10-7). -/
def closedCode (p : Profile) : Nat := (p.closed.map causeCode).getD 0

/-- The result of READ PROFILE (R134). -/
def profileBytes (n : Nat) (s : State) : List Byte :=
  let p := profileOf s n
  recordBytes p.record ++ flagByte p.paused ++ optBytes (p.staged.map recordBytes) ++
    flagByte p.closed.isSome ++ toBE 1 (closedCode p) ++
    toBE 2 (s.rc.clients.countP (fun e => isServing e.2.role && e.2.profile == n)) ++
    toBE 2 (s.rc.clients.countP (fun e => isServing e.2.role && e.2.profile == n && e.2.verdict == some .blocked)) ++
    toBE 1 (gradeCode s.su.clock.grade) ++ toBE 2 s.su.clock.minute ++ toBE 2 s.su.clock.milli ++
    (if n = 0 then flagByte s.su.maintenance else [])

/-- READ PROFILE carried out (R134). -/
def runReadProfile (d : List Byte) (s : State) : State :=
  if 15 < field 0 1 d then complete .outOfRange [] s else complete .ok (profileBytes (field 0 1 d) s) s

/-- READ PROFILE (R134). -/
def execReadProfile (t : Submit) (s : State) : Host.Outcome State Fault Refusal :=
  taken (submit 21 (lenIs 1) runReadProfile t) s

/-! ## READ FAULT (R177) -/

/-- The flag and the last-fault record, zeros when the flag is clear (R177). -/
def faultBytes (o : Option FaultRec) : List Byte :=
  match o with
  | some f =>
    flagByte true ++ toBE 1 (faultCode f.kind) ++ toBE 1 (slotCode f.slot) ++ toBE 2 f.block ++ toBE 2 f.chunk
  | none => List.replicate 7 0#8

/-- READ FAULT (R177). -/
def execReadFault (t : Submit) (s : State) : Host.Outcome State Fault Refusal :=
  taken (submit 22 (lenIs 0) (fun _ u => complete .ok (faultBytes u.ie.fault) u) t) s

end Sys2Proof.Machine
end

