-- ==== Sys2Proof/Machine/Resets.lean ====
section
/-! DEFINITION. Power, the reset input, the end of start-up, RESET PART and the BLOCK RESETs (chapters 10 and 11, and the reset sections
of the other chapters). -/

namespace Sys2Proof.Machine

/-! ## Full resets and start-up (R184, R185) -/

/-- Start-up begins when nothing holds the part in reset: LOADING (R184, R185). -/
def beginStart (s : State) : State := if alive s then loading s else s

/-- The level of the supply and the straps (Table 11-3). -/
def setPower (on : Bool) (s : State) : State := s.setPins { s.pins with powered := on }

def setStraps (x : Straps) (s : State) : State := s.setPins { s.pins with straps := x }

/-- POWER_UP: a full reset with cause POWER, which voids a transaction it falls in; start-up begins unless the reset input is
held (R171, R184). -/
def execPowerUp (straps : Straps) (s : State) (cut : Option CutLink := none) : Host.Outcome State Fault Refusal :=
  .next (beginStart (voidLink cut s (resetNow .power (setStraps straps (setPower true s)))))

/-- POWER_LOSS: the flash operation in flight is cut short, nothing is sent, and the part does nothing until POWER_UP
(R166, R184; assumption log 35). -/
def execPowerLoss (s : State) : Host.Outcome State Fault Refusal :=
  .next (if s.pins.powered then
      let a := setIe (cutFlash s) (fun e => { e with op := none })
      setPower false (a.setEs { a.es with backhaulTx := none, nodeTx := none })
    else s)

/-- The level of the reset input. -/
def setHeld (held : Bool) (s : State) : State := s.setPins { s.pins with resetHeld := held }

/-- RESET_INPUT_ASSERT: a full reset with cause PIN, which voids a transaction it falls in and in which the part is held
(R171, R184). -/
def execResetInputAssert (s : State) (cut : Option CutLink := none) : Host.Outcome State Fault Refusal :=
  .next (if s.pins.resetHeld then s
    else if s.pins.powered then setHeld true (voidLink cut s (resetNow .pin s))
    else setHeld true s)

/-- RESET_INPUT_RELEASE: the straps are sampled and start-up begins (R184, Table 11-3). -/
def execResetInputRelease (straps : Straps) (s : State) : Host.Outcome State Fault Refusal :=
  .next (if s.pins.resetHeld then beginStart (setStraps straps (setHeld false s)) else s)

/-- START_UP_COMPLETE: the end of SCANNING (R153, R169, R185). -/
def execStartUpComplete (s : State) : Host.Outcome State Fault Refusal :=
  taken (fun t => if t.sl.part == .starting then finishStart t else t) s

/-- RESET PART carried out: a full reset with cause REQUEST, and start-up (R175). The straps stay as they were sampled at the
last power-up or release of the reset input (assumption log 4). -/
def runResetPart (_d : List Byte) (s : State) : State := beginStart (resetNow .request s)

/-- RESET PART (R175). -/
def execResetPart (t : Submit) (s : State) : Host.Outcome State Fault Refusal :=
  taken (submit 26 (lenIs 0) runResetPart t) s

/-! ## What each target of BLOCK RESET does (R176) -/

/-- PEERS: every peer becomes ABSENT, without PEER GONE (R21). -/
def resetPeers (s : State) : State := complete .ok [] (wake (issueFetches (offerFill (allPeersAbsent s))))

/-- CLIENTS: every entry is freed, the Flow Table emptied, offers and lapsed record emptied (R43, R65, R80, R82). -/
def resetClients (s : State) : State :=
  let a := emptyFlows s
  complete .ok [] (acConditions (acDrained (a.setRc { a.rc with clients := [], offers := [], lapsed := [] })))

/-- FLOWS: the Flow Table is emptied (R43, R82). -/
def resetFlows (s : State) : State := complete .ok [] (acConditions (emptyFlows s))

/-- SHARE: the SC's work is cleared and the token counts are 0 (R99, R117). -/
def resetShare (s : State) : State :=
  let a := s.setSc (scBlockReset s.sc)
  complete .ok [] (a.setEs { a.es with tokens := IntQuad.zero })

/-- A profile emptied, with the state it had, for the evaluation that follows (R135). -/
def emptied (p : Profile) : Profile := { Profile.blank with closed := p.closed }

/-- SCHEDULES: every profile is emptied, then profiles, maintenance and verdicts are evaluated (R135). -/
def resetSchedules (s : State) : State :=
  let a := s.setSu { s.su with profiles := tabMap s.su.profiles emptied }
  complete .ok [] (acConditions (evalVerdicts (evalMaintenance (evalProfiles a))))

/-- A program sequence is in flight that the erase of a BLOCK RESET IMAGE waits for: from EMPTY and ERASING no erase is to begin
(R156). -/
def eraseWaits (e : Ie) : Bool :=
  match e.inc, e.op with
  | .empty, _ | .erasing, _ => false
  | _, some (.chunk _ _ _ _) => true
  | _, _ => false

/-- IMAGE: fetch list and serve queue are emptied at once, and the incoming slot is brought to EMPTY, with a program sequence in
flight after it has ended (R156). Until then the slot is what it was, and its rules go on (assumption log 60). -/
def resetImage (s : State) : State :=
  if s.ac.state = .swapping ∨ s.ac.state = .swapped then complete .wrongState [] s
  else
    let a := setIe s (fun e => { emptyFetches e with serves := [] })
    if eraseWaits a.ie then setIe a (fun e => { e with resetWaits := true }) else startFlash (bringToEmpty a)

/-- EVENTS: the event queue is emptied (R182). -/
def resetEvents (s : State) : State := complete .ok [] (s.setMl { s.ml with events := [] })

/-- BLOCK RESET by its target code; any code but 1..7 is a bad field (R176). -/
def runBlockReset (d : List Byte) (s : State) : State :=
  match field 0 1 d with
  | 1 => resetPeers s
  | 2 => resetClients s
  | 3 => resetFlows s
  | 4 => resetShare s
  | 5 => resetSchedules s
  | 6 => resetImage s
  | 7 => resetEvents s
  | _ => complete .badField [] s

/-- BLOCK RESET with target PEERS (R21, R176). -/
def execBlockResetPeers (t : Submit) (s : State) : Host.Outcome State Fault Refusal :=
  taken (submit 25 (lenIs 1) runBlockReset t) s

/-- BLOCK RESET with target CLIENTS (R43, R176). -/
def execBlockResetClients (t : Submit) (s : State) : Host.Outcome State Fault Refusal :=
  taken (submit 25 (lenIs 1) runBlockReset t) s

/-- BLOCK RESET with target FLOWS (R82, R176). -/
def execBlockResetFlows (t : Submit) (s : State) : Host.Outcome State Fault Refusal :=
  taken (submit 25 (lenIs 1) runBlockReset t) s

/-- BLOCK RESET with target SHARE (R99, R176). -/
def execBlockResetShare (t : Submit) (s : State) : Host.Outcome State Fault Refusal :=
  taken (submit 25 (lenIs 1) runBlockReset t) s

/-- BLOCK RESET with target SCHEDULES (R135, R176). -/
def execBlockResetSchedules (t : Submit) (s : State) : Host.Outcome State Fault Refusal :=
  taken (submit 25 (lenIs 1) runBlockReset t) s

/-- BLOCK RESET with target IMAGE (R156, R176). -/
def execBlockResetImage (t : Submit) (s : State) : Host.Outcome State Fault Refusal :=
  taken (submit 25 (lenIs 1) runBlockReset t) s

/-- BLOCK RESET with target EVENTS (R176, R182). -/
def execBlockResetEvents (t : Submit) (s : State) : Host.Outcome State Fault Refusal :=
  taken (submit 25 (lenIs 1) runBlockReset t) s

end Sys2Proof.Machine
end

