-- ==== Sys2Proof/Machine/Timers.lean ====
section
/-! DEFINITION. The commands that are timers' expiries, the minute tick and the completion of a share computation. -/

namespace Sys2Proof.Machine

/-! ## Pulse and sighting timers -/

/-- A waiting announcement PULSE becomes the timed PULSE (R11). -/
def makeTimed (c : Control) : Control :=
  match c with
  | .pulse _ => .pulse true
  | x => x

/-- The timed PULSE joins the control transmit queue, unless a PULSE is waiting there (R11). -/
def timedPulse (s : State) : State :=
  if s.bu.control.any isPulse then s.setBu { s.bu with control := s.bu.control.map makeTimed }
  else queueControl (.pulse true) s

/-- Peer n held against a changed own pulse period: an entry that advertises another one carries PERIOD MISMATCH from now on,
and the event is raised when it did not before (R18, R97; assumption log 52). -/
def markPeriod (n : Nat) (s : State) : State :=
  match peerOf s n with
  | some p =>
    if p.adv.period == s.sl.params.pulsePeriod || p.mismatch then s
    else raise (.periodMismatch n p.adv.period) (setPeers (tabSet s.bu.peers n { p with mismatch := true }) s)
  | none => s

/-- The pulse period that a reload left waiting comes into force, and every peer is held against it (R97, R190). -/
def adoptPulsePeriod (s : State) : State :=
  match s.sl.nextPulse with
  | some p =>
    nodes.foldl (fun t n => markPeriod n t)
      (s.setSl { s.sl with params := { s.sl.params with pulsePeriod := p }, nextPulse := none })
  | none => s

/-- The pulse timer, expired at d, is set for its next expiry (R11). -/
def restartPulse (d : Nat) (s : State) : State :=
  s.setBu { s.bu with pulseTimer := some (d + s.sl.params.pulsePeriod * Config.msNs) }

/-- PULSE_TIMER_EXPIRY (R11, R190). -/
def execPulseTimerExpiry (s : State) : Host.Outcome State Fault Refusal :=
  taken (fun t =>
    match t.bu.pulseTimer with
    | some d => wake (timedPulse (restartPulse d (adoptPulsePeriod (runTo d t))))
    | none => t) s

/-- The listing of an entry whose local average is present (R14). -/
def listingOf (served : Bool) (c : Client) : Option Listing :=
  c.average.map (fun a =>
    { addr := c.addr, reading := a.value, servedHere := served, tenure := if served then c.tenure else 0 })

/-- The sighting list: SERVED and HANDING entries first, then the others, each in index order (R14). -/
def sightingList (s : State) : List Listing :=
  (s.rc.clients.filter (fun p => isServing p.2.role)).filterMap (fun p => listingOf true p.2) ++
    (s.rc.clients.filter (fun p => !isServing p.2.role)).filterMap (fun p => listingOf false p.2)

/-- A list in pieces of 48, the last holding the remainder; at most n pieces (R14). -/
def piecesOf : Nat → List Listing → List (List Listing)
  | 0, _ => []
  | n + 1, l => if l.isEmpty then [] else l.take 48 :: piecesOf n (l.drop 48)

/-- The SIGHTINGs of one expiry join the control transmit queue (R14). -/
def sendSightings (s : State) : State :=
  (piecesOf 6 (sightingList s)).foldl (fun t l => sendBulletin 0 (.sighting l) t) s

/-- The sighting period that a reload left waiting comes into force (R190). -/
def adoptSightPeriod (s : State) : State :=
  match s.sl.nextSight with
  | some p => s.setSl { s.sl with params := { s.sl.params with sightPeriod := p }, nextSight := none }
  | none => s

/-- The sighting timer, expired at d, is set for its next expiry (R14). -/
def restartSight (d : Nat) (s : State) : State :=
  s.setBu { s.bu with sightTimer := some (d + s.sl.params.sightPeriod * Config.msNs) }

/-- SIGHTING_TIMER_EXPIRY (R14, R190). -/
def execSightingTimerExpiry (s : State) : Host.Outcome State Fault Refusal :=
  taken (fun t =>
    match t.bu.sightTimer with
    | some d => wake (sendSightings (restartSight d (adoptSightPeriod (runTo d t))))
    | none => t) s

/-- CLASH_TIMER_EXPIRY (R3). -/
def execClashTimerExpiry (n : Nat) (s : State) : Host.Outcome State Fault Refusal :=
  taken (fun t => onExpiry (tabGet t.bu.clash n) (fun u => u.setBu { u.bu with clash := tabErase u.bu.clash n }) t) s

/-! ## Client Table timers -/

/-- When a reading recorded at an instant lapses: three own sighting periods later (R29). -/
def lapseOf (s : State) (since : Nat) : Nat := since + 3 * s.sl.params.sightPeriod * Config.msNs

/-- READING_LAPSE (R29, R47). -/
def execReadingLapse (i : Nat) (which : ReadingKind) (s : State) : Host.Outcome State Fault Refusal :=
  taken (fun t =>
    match clientAt t i with
    | some c =>
      match which with
      | .best =>
        match c.best with
        | some r => modClient i (fun x => { x with best := none }) (runTo (lapseOf t r.since) t)
        | none => t
      | .serving =>
        match c.servingReading with
        | some r => modClient i (fun x => { x with servingReading := none, better := 0 }) (runTo (lapseOf t r.since) t)
        | none => t
    | none => t) s

/-- SAMPLE_AGE_LAPSE (R37). -/
def execSampleAgeLapse (i : Nat) (s : State) : Host.Outcome State Fault Refusal :=
  taken (fun t =>
    match (clientAt t i).bind Client.average with
    | some a => modClient i (fun x => { x with average := none }) (runTo (a.since + Config.sampleLapseNs) t)
    | none => t) s

/-- The role timer of entry i expires in a role: time comes to its end, and f does its work. -/
def roleExpiry (i : Nat) (roles : Role → Bool) (f : Client → State → State) (s : State) : State :=
  match clientAt s i with
  | some c => if roles c.role then onExpiry c.timer (f c) s else s
  | none => s

/-- CLAIM_WAIT_EXPIRY (R56). -/
def execClaimWaitExpiry (i : Nat) (s : State) : Host.Outcome State Fault Refusal :=
  taken (roleExpiry i (· == .claiming) (fun _ t => toRole i .remote id t)) s

/-- HAND_WAIT_EXPIRY_HANDING (R52). -/
def execHandWaitExpiryHanding (i : Nat) (s : State) : Host.Outcome State Fault Refusal :=
  taken (roleExpiry i (· == .handing) (fun c t =>
    wake (offerFill (raise (.steerFailed c.addr (c.claimant.getD 0) false) (toRole i .served id t))))) s

/-- HAND_WAIT_EXPIRY_EXPECTING (R57). -/
def execHandWaitExpiryExpecting (i : Nat) (s : State) : Host.Outcome State Fault Refusal :=
  taken (roleExpiry i (· == .expecting) (fun _ t => toRole i .remote (setHolddown t.sl.params t.now) t)) s

/-- REMOVAL_TIMER_EXPIRY (R33). -/
def execRemovalTimerExpiry (i : Nat) (s : State) : Host.Outcome State Fault Refusal :=
  taken (roleExpiry i (fun r => r == .orphan || r == .departed) (fun _ t => removeClient i t)) s

/-- HOLDDOWN_EXPIRY: the holddown remaining reaches 0 (R44). -/
def execHolddownExpiry (i : Nat) (s : State) : Host.Outcome State Fault Refusal :=
  taken (fun t =>
    match clientAt t i with
    | some c => runTo c.holddownEnds t
    | none => t) s

/-- NO_UPLINK_TIMER_EXPIRY (R39). -/
def execNoUplinkTimerExpiry (s : State) : Host.Outcome State Fault Refusal :=
  taken (fun t => onExpiry t.rc.noUplink (fun u => u.setRc { u.rc with noUplink := none }) t) s

/-- An offer lapses: it leaves the list and the lapsed record takes the instant (R63). -/
def lapseOffer (i : Nat) (s : State) : State :=
  s.setRc { s.rc with offers := s.rc.offers.filter (fun o => o.client != i), lapsed := tabSet s.rc.lapsed i s.now }

/-- OFFER_TIMER_EXPIRY (R62, R63). -/
def execOfferTimerExpiry (i : Nat) (s : State) : Host.Outcome State Fault Refusal :=
  taken (fun t =>
    match t.rc.offers.find? (fun o => o.client == i) with
    | some o => wake (offerFill (lapseOffer i (runTo o.ends t)))
    | none => t) s

/-! ## Flows -/

/-- A class's idle time (R75). -/
def idleNs (c : Class) : Nat := if c == .game then Config.gameIdleNs else Config.otherIdleNs

/-- Flow j is removed; a GAME flow leaves both counts (R75, R80). -/
def removeFlow (j : Nat) (f : Flow) (s : State) : State :=
  let t := s.setFc { s.fc with flows := tabErase s.fc.flows j }
  if f.cls == .game then
    modClient f.client (fun c => { c with games := c.games - 1 })
      (t.setFc (dropGames (t.fc.gameCount - 1) t.now t.fc))
  else t

/-- FLOW_IDLE_EXPIRY, while the part is RUNNING (R75). -/
def execFlowIdleExpiry (j : Nat) (s : State) : Host.Outcome State Fault Refusal :=
  taken (fun t =>
    match tabGet t.fc.flows j with
    | some f =>
      if running t then acConditions (removeFlow j f (runTo (f.lastSeen + idleNs f.cls) t)) else t
    | none => t) s

/-- GAME_QUIET_ELAPSED: 120 s have passed since the game-quiet instant (R159). -/
def execGameQuietElapsed (s : State) : Host.Outcome State Fault Refusal :=
  taken (fun t =>
    match t.fc.quietSince with
    | some q => acConditions (runTo (q + Config.gameQuietNs) t)
    | none => t) s

/-! ## Image Engine timers -/

/-- FETCH_TIMEOUT (R146). -/
def execFetchTimeout (number : BitVec 16) (s : State) : Host.Outcome State Fault Refusal :=
  taken (fun t =>
    match t.ie.fetches.find? (fun f => f.number == number) with
    | some f =>
      let u := runTo f.ends t
      wake (issueFetches (setIe u (fun e => strike f.peer u.now (failFetch f e))))
    | none => t) s

/-- SKIP_TIMER_EXPIRY (R145, R146). -/
def execSkipTimerExpiry (n : Nat) (s : State) : Host.Outcome State Fault Refusal :=
  taken (fun t => onExpiry (tabGet t.ie.skips n) (fun u =>
    wake (issueFetches (setIe u (fun e => { e with skips := tabErase e.skips n })))) t) s

/-! ## Activation Controller timers -/

/-- DRAIN_TIMER_EXPIRY (R163). -/
def execDrainTimerExpiry (s : State) : Host.Outcome State Fault Refusal :=
  taken (fun t => onExpiry t.ac.drainTimer (fun u => if acDraining u then enterLeaving true u else u) t) s

/-- The lapse of an activation (R164). The drain-wanted count stays as it was (assumption log 55). -/
def lapseActivation (s : State) : State :=
  let t := setHoldoff (acTo .waiting s)
  raise (.activationLapsed (incomingNumber t)) (t.setAc { t.ac with lapseTimer := none, activateNow := false })

/-- LAPSE_TIMER_EXPIRY (R164). -/
def execLapseTimerExpiry (s : State) : Host.Outcome State Fault Refusal :=
  taken (fun t => onExpiry t.ac.lapseTimer (fun u => if u.ac.state == .leaving then lapseActivation u else u) t) s

/-- HOLDOFF_EXPIRY: the holdoff remaining reaches 0 and the conditions are looked at (R159). -/
def execHoldoffExpiry (s : State) : Host.Outcome State Fault Refusal :=
  taken (fun t => acConditions (runTo t.ac.holdoffEnds t)) s

/-! ## Clock and share -/

/-- Nanoseconds of the clock's minute that are still to pass. -/
def minuteLeft (c : Clock) : Nat := Config.minNs - (c.milli * 1000000 + c.sub)

/-- MINUTE_TICK: a running clock comes to the end of its minute, and the tick's work is done (R118, R128, R159). -/
def execMinuteTick (s : State) : Host.Outcome State Fault Refusal :=
  taken (fun t =>
    if t.su.clock.grade == .unset then t
    else acConditions (minuteWork (runTo (t.now + minuteLeft t.su.clock) t))) s

/-- SHARE_COMPUTATION_DONE (R88, R94). -/
def execShareComputationDone (s : State) : Host.Outcome State Fault Refusal :=
  taken (fun t => t.setSc (scDone t.sc)) s

end Sys2Proof.Machine
end

