-- ==== Sys2Proof/Machine/Dispatch.lean ====
section
/-! DEFINITION. One arm per command: exec calls the command's meaning. -/

namespace Sys2Proof.Machine

def exec (i : Instr) (s : State) : Host.Outcome State Fault Refusal :=
  match i with
  | .powerUp straps cut => Sys2Proof.Machine.execPowerUp straps s cut
  | .resetInputAssert cut => Sys2Proof.Machine.execResetInputAssert s cut
  | .resetInputRelease straps => Sys2Proof.Machine.execResetInputRelease straps s
  | .startUpComplete => Sys2Proof.Machine.execStartUpComplete s
  | .pulseReceive f => Sys2Proof.Machine.execPulseReceive f s
  | .sightingReceive f => Sys2Proof.Machine.execSightingReceive f s
  | .claimReceive f => Sys2Proof.Machine.execClaimReceive f s
  | .grantReceive f => Sys2Proof.Machine.execGrantReceive f s
  | .refuseReceive f => Sys2Proof.Machine.execRefuseReceive f s
  | .withdrawReceive f => Sys2Proof.Machine.execWithdrawReceive f s
  | .arrivedReceive f => Sys2Proof.Machine.execArrivedReceive f s
  | .contextReceive f => Sys2Proof.Machine.execContextReceive f s
  | .offerReceive f => Sys2Proof.Machine.execOfferReceive f s
  | .fetchReceive f => Sys2Proof.Machine.execFetchReceive f s
  | .chunkReceive f => Sys2Proof.Machine.execChunkReceive f s
  | .carriedFrameReceive f => Sys2Proof.Machine.execCarriedFrameReceive f s
  | .pauseFrameReceive f => Sys2Proof.Machine.execPauseFrameReceive f s
  | .pauseExpiry => Sys2Proof.Machine.execPauseExpiry s
  | .nodePortData it => Sys2Proof.Machine.execNodePortData it s
  | .nodePortSamples it => Sys2Proof.Machine.execNodePortSamples it s
  | .backhaulTxDone => Sys2Proof.Machine.execBackhaulTxDone s
  | .nodePortTxDone => Sys2Proof.Machine.execNodePortTxDone s
  | .pulseTimerExpiry => Sys2Proof.Machine.execPulseTimerExpiry s
  | .sightingTimerExpiry => Sys2Proof.Machine.execSightingTimerExpiry s
  | .clashTimerExpiry n => Sys2Proof.Machine.execClashTimerExpiry n s
  | .readingLapse j which => Sys2Proof.Machine.execReadingLapse j which s
  | .sampleAgeLapse j => Sys2Proof.Machine.execSampleAgeLapse j s
  | .claimWaitExpiry j => Sys2Proof.Machine.execClaimWaitExpiry j s
  | .handWaitExpiryHanding j => Sys2Proof.Machine.execHandWaitExpiryHanding j s
  | .handWaitExpiryExpecting j => Sys2Proof.Machine.execHandWaitExpiryExpecting j s
  | .removalTimerExpiry j => Sys2Proof.Machine.execRemovalTimerExpiry j s
  | .holddownExpiry j => Sys2Proof.Machine.execHolddownExpiry j s
  | .noUplinkTimerExpiry => Sys2Proof.Machine.execNoUplinkTimerExpiry s
  | .offerTimerExpiry j => Sys2Proof.Machine.execOfferTimerExpiry j s
  | .flowIdleExpiry j => Sys2Proof.Machine.execFlowIdleExpiry j s
  | .gameQuietElapsed => Sys2Proof.Machine.execGameQuietElapsed s
  | .fetchTimeout number => Sys2Proof.Machine.execFetchTimeout number s
  | .skipTimerExpiry n => Sys2Proof.Machine.execSkipTimerExpiry n s
  | .drainTimerExpiry => Sys2Proof.Machine.execDrainTimerExpiry s
  | .lapseTimerExpiry => Sys2Proof.Machine.execLapseTimerExpiry s
  | .holdoffExpiry => Sys2Proof.Machine.execHoldoffExpiry s
  | .minuteTick => Sys2Proof.Machine.execMinuteTick s
  | .shareComputationDone => Sys2Proof.Machine.execShareComputationDone s
  | .supplyFailAssert => Sys2Proof.Machine.execSupplyFailAssert s
  | .supplyFailDeassert => Sys2Proof.Machine.execSupplyFailDeassert s
  | .chunkProgramDone readBack => Sys2Proof.Machine.execChunkProgramDone readBack s
  | .headerProgramDone => Sys2Proof.Machine.execHeaderProgramDone s
  | .blockEraseDone => Sys2Proof.Machine.execBlockEraseDone s
  | .checkReadDone => Sys2Proof.Machine.execCheckReadDone s
  | .serveReadDone => Sys2Proof.Machine.execServeReadDone s
  | .imageReadDone => Sys2Proof.Machine.execImageReadDone s
  | .swapProgramDone => Sys2Proof.Machine.execSwapProgramDone s
  | .startWriteDone readBack => Sys2Proof.Machine.execStartWriteDone readBack s
  | .poll offset clocks => Sys2Proof.Machine.execPoll offset clocks s
  | .collect clocks => Sys2Proof.Machine.execCollect clocks s
  | .submitUnknownRequest bytes => Sys2Proof.Machine.execSubmitUnknownRequest bytes s
  | .setTime t => Sys2Proof.Machine.execSetTime t s
  | .clientAttach t => Sys2Proof.Machine.execClientAttach t s
  | .clientDetach t => Sys2Proof.Machine.execClientDetach t s
  | .clientAssign t => Sys2Proof.Machine.execClientAssign t s
  | .profileWrite t => Sys2Proof.Machine.execProfileWrite t s
  | .profilePause t => Sys2Proof.Machine.execProfilePause t s
  | .profileResume t => Sys2Proof.Machine.execProfileResume t s
  | .ruleWrite t => Sys2Proof.Machine.execRuleWrite t s
  | .ruleClear t => Sys2Proof.Machine.execRuleClear t s
  | .imageBegin t => Sys2Proof.Machine.execImageBegin t s
  | .imageChunk t => Sys2Proof.Machine.execImageChunk t s
  | .imageRead t => Sys2Proof.Machine.execImageRead t s
  | .activateNow t => Sys2Proof.Machine.execActivateNow t s
  | .swapSlots t => Sys2Proof.Machine.execSwapSlots t s
  | .cancelActivation t => Sys2Proof.Machine.execCancelActivation t s
  | .readStatus t => Sys2Proof.Machine.execReadStatus t s
  | .readPeer t => Sys2Proof.Machine.execReadPeer t s
  | .readClient t => Sys2Proof.Machine.execReadClient t s
  | .readFlow t => Sys2Proof.Machine.execReadFlow t s
  | .readShare t => Sys2Proof.Machine.execReadShare t s
  | .readProfile t => Sys2Proof.Machine.execReadProfile t s
  | .readFault t => Sys2Proof.Machine.execReadFault t s
  | .eventMask t => Sys2Proof.Machine.execEventMask t s
  | .startWrite t => Sys2Proof.Machine.execStartWrite t s
  | .blockResetPeers t => Sys2Proof.Machine.execBlockResetPeers t s
  | .blockResetClients t => Sys2Proof.Machine.execBlockResetClients t s
  | .blockResetFlows t => Sys2Proof.Machine.execBlockResetFlows t s
  | .blockResetShare t => Sys2Proof.Machine.execBlockResetShare t s
  | .blockResetSchedules t => Sys2Proof.Machine.execBlockResetSchedules t s
  | .blockResetImage t => Sys2Proof.Machine.execBlockResetImage t s
  | .blockResetEvents t => Sys2Proof.Machine.execBlockResetEvents t s
  | .resetPart t => Sys2Proof.Machine.execResetPart t s
  | .unknownKindBulletinReceive kind f => Sys2Proof.Machine.execUnknownKindBulletinReceive kind f s
  | .powerLoss => Sys2Proof.Machine.execPowerLoss s

end Sys2Proof.Machine
end

