-- ==== Sys2Proof/WellFormed.lean ====
section
/-! DEFINITION. Which commands are well formed: indexes and node numbers that exist, and operands that belong to the row the
command names. A meaning is total all the same; WellFormed only says which terms stand for something the world can send. -/

namespace Sys2Proof

/-- A Client Table index (R23). -/
def isClientIndex (i : Nat) : Bool := decide (i < 256)

/-- A Flow Table index (section 4.3). -/
def isFlowIndex (i : Nat) : Bool := decide (i < 512)

/-- A node number 1..8 (Table 0-4). -/
def isNode (n : Nat) : Bool := decide (1 ≤ n) && decide (n ≤ 8)

/-- The request code of a SUBMIT, when the transaction reaches it. -/
def submitCode (bytes : List Byte) : Option Nat :=
  match bytes with
  | k :: c :: _ => if k = 1#8 then some c.toNat else none
  | _ => none

/-- A transaction that is no POLL and no COLLECT and names no request of Table 10-3. -/
def isUnknownTransaction (bytes : List Byte) : Bool :=
  bytes.head? != some 2#8 && bytes.head? != some 3#8 &&
    match submitCode bytes with
    | some c => decide (c = 0) || decide (26 < c)
    | none => true

/-- A BLOCK RESET argument list that is the row's target, no target of another row (a code that names no target is
answered alike by every row, R176), or not one byte. -/
def isTarget (code : Nat) (t : Submit) : Bool :=
  match t.drop 3 with
  | c :: _ => decide (c.toNat = code) || decide (c.toNat = 0) || decide (7 < c.toNat)
  | [] => true

/-- Which commands are well formed. -/
def WellFormed : Instr → Bool
  | .clashTimerExpiry n | .skipTimerExpiry n => isNode n
  | .readingLapse i _ | .sampleAgeLapse i | .claimWaitExpiry i | .handWaitExpiryHanding i
  | .handWaitExpiryExpecting i | .removalTimerExpiry i | .holddownExpiry i | .offerTimerExpiry i => isClientIndex i
  | .flowIdleExpiry i => isFlowIndex i
  | .nodePortData it => it.kind != 2#8
  | .nodePortSamples it => it.kind == 2#8
  | .submitUnknownRequest bytes => isUnknownTransaction bytes
  | .blockResetPeers t => isTarget 1 t
  | .blockResetClients t => isTarget 2 t
  | .blockResetFlows t => isTarget 3 t
  | .blockResetShare t => isTarget 4 t
  | .blockResetSchedules t => isTarget 5 t
  | .blockResetImage t => isTarget 6 t
  | .blockResetEvents t => isTarget 7 t
  | .unknownKindBulletinReceive kind _ => decide (kind = 0#8) || (decide (11 < kind.toNat) && kind != 128#8)
  | .powerUp _ _ | .resetInputAssert _ | .resetInputRelease _ | .startUpComplete
  | .pulseReceive _ | .sightingReceive _ | .claimReceive _ | .grantReceive _ | .refuseReceive _ | .withdrawReceive _
  | .arrivedReceive _ | .contextReceive _ | .offerReceive _ | .fetchReceive _ | .chunkReceive _
  | .carriedFrameReceive _ | .pauseFrameReceive _ | .pauseExpiry | .backhaulTxDone | .nodePortTxDone
  | .pulseTimerExpiry | .sightingTimerExpiry | .noUplinkTimerExpiry | .gameQuietElapsed | .fetchTimeout _
  | .drainTimerExpiry | .lapseTimerExpiry | .holdoffExpiry | .minuteTick | .shareComputationDone
  | .supplyFailAssert | .supplyFailDeassert | .chunkProgramDone _ | .headerProgramDone | .blockEraseDone
  | .checkReadDone | .serveReadDone | .imageReadDone | .swapProgramDone | .startWriteDone _
  | .poll _ _ | .collect _ | .setTime _ | .clientAttach _ | .clientDetach _ | .clientAssign _ | .profileWrite _
  | .profilePause _ | .profileResume _ | .ruleWrite _ | .ruleClear _ | .imageBegin _ | .imageChunk _ | .imageRead _
  | .activateNow _ | .swapSlots _ | .cancelActivation _ | .readStatus _ | .readPeer _ | .readClient _ | .readFlow _
  | .readShare _ | .readProfile _ | .readFault _ | .eventMask _ | .startWrite _ | .resetPart _ | .powerLoss => true

end Sys2Proof
end

