-- ==== Sys2Proof/Safety.lean ====
section
/-! DEFINITION. What the claims speak of: the invariants as decidable conditions on a state, which bulletin bodies fit their layouts,
what a command must meet to reach its block, what a full reset leaves, what a listing and a pulse do at an entry, which fetches are
issued and failed back, and which flash work starts. -/

namespace Sys2Proof.Machine

/-- The cells that queued frames hold (R100). -/
def heldCells (e : Es) : Nat := cellsOf e.game + cellsOf e.standard + cellsOf e.bulk + cellsOf e.update + cellsOf e.node

/-- Free cells plus the cells held by queued frames equal 4096 (R100). -/
def poolOk (e : Es) : Bool := decide (e.free + heldCells e = Config.poolCells)

/-- The clock's fields are in their ranges, and 0 while the grade is UNSET (R118). -/
def clockOk (c : Clock) : Bool :=
  decide (c.minute ≤ 10079) && decide (c.milli ≤ 59999) &&
    (c.grade != .unset || (c.minute == 0 && c.milli == 0))

/-- The flash's bytes are in their canonical form. -/
def flashOk (f : Flash) : Bool := memWf f.mem

/-- The event queue and the control transmit queue are within their sizes (R9, R178). -/
def queuesOk (s : State) : Bool :=
  decide (s.ml.events.length ≤ Config.eventQueue) && decide (s.bu.control.length ≤ Config.controlQueue)

/-- A client entry's minute counters are in their ranges (R131). -/
def countersOk (c : Client) : Bool := decide (c.used ≤ 1440) && decide (c.extra ≤ 240)

/-- Every client entry's minute counters are in their ranges (R131). -/
def clientsOk (s : State) : Bool := s.rc.clients.all (fun p => countersOk p.2)

/-- The fields of a PULSE body fit their layout and R22 (Table 1-7). -/
def pulseOk (b : PulseBody) : Bool :=
  decide (10 ≤ b.period) && decide (b.period ≤ 100) && decide (b.period % 5 = 0) && decide (b.minute ≤ 10079) &&
    decide (b.milli ≤ 59999) && decide (b.served < 65536) && decide (b.demand.game < 65536) &&
    decide (b.demand.standard < 65536) && decide (b.demand.bulk < 65536) && decide (b.demand.update < 65536) &&
    decide (b.activeImage < 4294967296) && decide (b.incImage < 4294967296) && decide (b.incLength < 4294967296) &&
    decide (b.incCheck < 4294967296) && decide (b.held < 65536)

/-- A 16-bit two's-complement field holds this value. -/
def fits16 (v : Int) : Bool := decide (-32768 ≤ v) && decide (v < 32768)

/-- A body fits its layout (Tables 1-7 to 1-10). -/
def bodyOk : Body → Bool
  | .pulse b => pulseOk b
  | .sighting es => decide (1 ≤ es.length) && decide (es.length ≤ 48) && es.all (fun e => fits16 e.reading)
  | .claim _ _ r => fits16 r
  | .grant _ _ => true
  | .refuse _ _ r => decide (r < 256)
  | .withdraw _ _ => true
  | .arrived _ _ => true
  | .context _ _ p d u x => decide (p < 256) && decide (d < 256) && decide (u < 65536) && decide (x < 65536)
  | .offer _ => true
  | .fetch i f c _ => decide (i < 4294967296) && decide (f < 65536) && decide (c < 256)
  | .chunk i x _ p crc d =>
    decide (i < 4294967296) && decide (x < 65536) && decide (p < 256) && decide (crc < 4294967296) &&
      decide (d.length < 65536)

/-! ## Token counts and frame lengths (R100, R105) -/

/-- A class's token count lies between -1535 and 256 times its loaded grant (R105). -/
def tokenOk (t : Int) (grant : Nat) : Bool := decide (-1535 ≤ t) && decide (t ≤ 256 * (grant : Int))

/-- Every entry of a backhaul queue has an admitted length of at most 1536 bytes (Table 6-2). -/
def lengthsOk (l : List QEntry) : Bool := l.all (fun x => decide (x.len ≤ 1536))

/-- The four token counts are within their bounds, and no backhaul queue holds an over-long entry (R105). -/
def tokensOk (s : State) : Bool :=
  tokenOk s.es.tokens.game s.sc.loaded.game && tokenOk s.es.tokens.standard s.sc.loaded.standard &&
    tokenOk s.es.tokens.bulk s.sc.loaded.bulk && tokenOk s.es.tokens.update s.sc.loaded.update &&
    lengthsOk s.es.game && lengthsOk s.es.standard && lengthsOk s.es.bulk && lengthsOk s.es.update

/-! ## What the claims suppose of a command -/

/-- The living part is RUNNING. -/
def live (s : State) : Bool := alive s && running s

/-- The backhaul transmitter is BUSY or HELD, so that nothing is taken for sending (R106). -/
def txWaits (s : State) : Bool := s.es.backhaulTx.isSome || s.es.pause.isSome

/-- A mesh frame is from another node of this mesh, by its frame type, mesh tag, node numbers and own number (R1, R2). -/
def fromMesh (frameType meshTag : BitVec 16) (source target : BitVec 8) (s : State) : Bool :=
  frameType.toNat == s.sl.params.frameType && meshTag.toNat == s.sl.params.meshTag &&
    decide (1 ≤ source.toNat) && decide (source.toNat ≤ 8) && decide (target.toNat ≤ 8) && target != source &&
    source.toNat != s.sl.params.node

/-- A bulletin of a kind other than PULSE reaches its block: it passes the checks of R1 to R3, is newer than the last one
accepted from its source (R5), is for this node (R7), and its body is b. -/
def delivered (kind : Nat) (f : MeshFrame) (p : Peer) (b : Body) (s : State) : Prop :=
  live s = true ∧ fromMesh f.frameType f.meshTag f.source f.target s = true ∧ readBody kind f = some b ∧
    peerOf s f.source.toNat = some p ∧ p.addr = f.srcAddr ∧ newer f.seq p.lastSeq = true ∧
    (f.target = 0#8 ∨ f.target.toNat = s.sl.params.node ∨ kind = 2 ∨ kind = 7)

/-- The BU's fields with the sequence of a bulletin taken (R5). -/
def seqTaken (f : MeshFrame) (p : Peer) (b : Bu) : Bu :=
  { b with peers := tabSet b.peers f.source.toNat { p with lastSeq := f.seq } }

/-- A SUBMIT is whole, finds no request PENDING, and passes the first two checks of R172. -/
def requestTaken (lenOk : List Byte → Bool) (t : Submit) (s : State) : Prop :=
  alive s = true ∧ s.ml.state ≠ .pending ∧ s.sl.part ≠ .starting ∧ submitWhole t = true ∧ submitLen t ≤ 1040 ∧
    lenOk (submitArgs t) = true

/-- The ML with a SUBMIT taken and its request PENDING (R170, R172); the result polled mark is clear (assumption log 62). -/
def mlPending (code : Nat) (t : Submit) (s : State) : Ml :=
  { s.ml with code := code, tag := submitTag t, state := .pending, outcome := none, polled := false, result := [],
              busy := false, miso := shiftedOut (2 + t.length) (echoBytes s) }

/-- The ML with a SUBMIT taken and its request completed (R170, R172). -/
def mlDone (code : Nat) (t : Submit) (o : ReqOutcome) (result : List Byte) (s : State) : Ml :=
  { mlPending code t s with state := .done, outcome := some o, result := result }

/-- Every block apart from the ML is at its full-reset state, no flash work is waiting or in flight, no period waits for its
timer, and the sequence counter is not 0 (R21, R43, R65, R82, R98, R116, R135, R156, R169). -/
def blocksReset (t : State) : Prop :=
  t.bu.peers = [] ∧ 1 ≤ t.bu.seq.toNat ∧ t.bu.freshCount = 3 ∧ t.bu.control = [] ∧ t.bu.lastDemand = Quad.zero ∧
    t.bu.pulseTimer = none ∧ t.bu.sightTimer = none ∧ t.bu.clash = [] ∧
    t.rc.clients = [] ∧ t.rc.offers = [] ∧ t.rc.lapsed = [] ∧ t.rc.noUplink = none ∧
    t.fc.rules = [] ∧ t.fc.flows = [] ∧ t.fc.gameCount = 0 ∧ t.fc.quietSince = none ∧ t.fc.arrivals = Quad.zero ∧
    t.sc.epoch = 0 ∧ t.sc.snapshot = none ∧ t.sc.inFlight = false ∧ t.sc.result = ShareResult.cleared ∧
    t.sc.staged = Quad.zero ∧ t.sc.loaded = Quad.zero ∧
    t.es.game = [] ∧ t.es.standard = [] ∧ t.es.bulk = [] ∧ t.es.update = [] ∧ t.es.node = [] ∧ t.es.free = 4096 ∧
    t.es.tokens = IntQuad.zero ∧ t.es.pointer = .standard ∧ t.es.pause = none ∧ t.es.backhaulTx = none ∧
    t.es.nodeTx = none ∧
    t.su.clock.grade = .unset ∧ t.su.clock.minute = 0 ∧ t.su.clock.milli = 0 ∧ t.su.profiles = [] ∧
    t.su.maintenance = false ∧
    t.ie.fetches = [] ∧ t.ie.fetchCounter = 0 ∧ t.ie.strikes = [] ∧ t.ie.skips = [] ∧ t.ie.serves = [] ∧
    t.ie.progs = [] ∧ t.ie.headers = [] ∧ t.ie.imageRead = none ∧ t.ie.check = none ∧ t.ie.erase = none ∧
    t.ie.op = none ∧ t.ie.tally = [] ∧ t.ie.fault = none ∧ t.ie.conflictInc = false ∧ t.ie.conflictActive = false ∧
    t.ie.resetWaits = false ∧
    t.sl.nextPulse = none ∧ t.sl.nextSight = none ∧
    t.ac.drainTimer = none ∧ t.ac.lapseTimer = none ∧ t.ac.count = 0 ∧ t.ac.holdoffEnds ≤ t.now ∧
    t.ac.activateNow = false

/-- The ML after a full reset of cause c: the request slot is NONE, and the queue holds STARTED with a time stamp of 0 first and
the events that LOADING adds after it (R178, R182); the result polled mark is clear (assumption log 62). -/
def linkReset (c : ResetCause) (more : List Event) (m : Ml) : Prop :=
  m.code = 0 ∧ m.tag = 0#8 ∧ m.state = .empty ∧ m.outcome = none ∧ m.polled = false ∧ m.result = [] ∧ m.busy = false ∧
    m.mask = maskAll ∧ m.events.map EventRec.event = (Event.started c :: more).take 64 ∧
    (∀ r ∈ m.events, r.minute = 0 ∧ r.milli = 0) ∧ m.events.any EventRec.overrun = decide (64 < (Event.started c :: more).length)

/-- LOADING has read the start record of these flash bytes (R186, R187). -/
def recordLoaded (m : List Host.Cell) (l : Sl) : Prop :=
  l.part = .starting ∧ l.phase = .scanning ∧
    match readRecord m with
    | .bad _ _ => l.recordGood = false ∧ l.params = Params.default
    | .items items => l.recordGood = true ∧ l.params = paramsOf items

/-- The events LOADING raises (R186, R187). -/
def loadEvents (m : List Host.Cell) : List Event :=
  match readRecord m with
  | .bad r o => [.startBad r o]
  | .items items => items.filterMap clampEvent

/-- The commands an unpowered or held part is sent by its supply, its reset input and its supply-fail input. -/
def isPinCommand : Instr → Bool
  | .powerUp _ _ | .powerLoss | .resetInputAssert _ | .resetInputRelease _ | .supplyFailAssert | .supplyFailDeassert => true
  | _ => false

/-- Entry i, with contents c, is the Client Table's entry for a station address (R23). -/
def entryOf (s : State) (a : Addr) (i : Nat) (c : Client) : Prop := findClient s a = some (i, c) ∧ clientAt s i = some c

/-- Indexes of the Client Table, the Peer Table, the Flow Table and the presence map are strictly rising: the form in which
the model holds them (R23). -/
def tablesSorted (s : State) : Bool :=
  tabSorted s.rc.clients && tabSorted s.bu.peers && tabSorted s.fc.flows && tabSorted s.ie.presence

/-! ## A SIGHTING's listing at an entry (R28, R29) -/

/-- What Table 2-3 makes of an entry in a role other than SERVED and HANDING that node n lists. -/
def listedEntry (n : Nat) (e : Listing) (c : Client) : Client :=
  let moved := { c with
    serving := n, tenure := e.tenure
    servingReading := if c.serving = n then c.servingReading else none
    better := if c.serving = n then c.better else 0 }
  if e.servedHere = false then c
  else
    match c.role with
    | .remote =>
      if c.serving = n then (if newer e.tenure c.tenure then { c with tenure := e.tenure } else c)
      else if newer e.tenure c.tenure || (e.tenure == c.tenure && decide (n < c.serving)) then moved
      else c
    | .orphan | .departed =>
      { moved with role := .remote, timer := none, claimNo := none, claimant := none, verdict := none }
    | .served | .handing | .claiming | .expecting => c

/-- An entry with a reading from node n recorded as R29 records it, and the last activity of R34. -/
def readEntry (n : Nat) (reading : Int) (now : Nat) (c : Client) : Client :=
  { c with
    servingReading := if c.serving = n ∧ (c.role = .remote ∨ c.role = .claiming ∨ c.role = .expecting) then
        some { value := reading, since := now } else c.servingReading
    best := match c.best with
      | none => some { node := n, value := reading, since := now }
      | some b => if b.node = n ∨ b.value < reading then some { node := n, value := reading, since := now } else some b
    lastActivity := now }

/-! ## What a PULSE carries and what an accepted one says (R12, R139, R142, R144, R157) -/

/-- The body R12 has built for a PULSE with the given demands, from the values that hold in s. -/
def advertisement (d : Quad) (s : State) : PulseBody :=
  let unset : Bool := s.su.clock.grade = .unset
  let image := match s.ie.inc with
    | .filling | .checking | .ready => s.ie.incDesc
    | .empty | .erasing | .rejected => s.ie.activeDesc
  { period := s.sl.params.pulsePeriod
    grade := s.su.clock.grade
    uplink := s.sl.params.uplink
    fresh := decide (1 ≤ s.bu.freshCount)
    drainWanted := decide (s.ac.state = .wanting)
    draining := decide (s.ac.state = .draining)
    leaving := decide (s.ac.state = .leaving ∨ s.ac.state = .swapping ∨ s.ac.state = .swapped)
    supplyFail := s.pins.supplyFail
    minute := if unset then 0 else s.su.clock.minute
    milli := if unset then 0 else s.su.clock.milli
    served := (s.rc.clients.filter (fun q => decide (q.2.role = .served ∨ q.2.role = .handing))).length
    demand := d
    activeImage := (s.ie.activeDesc.map Desc.number).getD 0
    incImage := (image.map Desc.number).getD 0
    incLength := (image.map Desc.length).getD 0
    incCheck := (image.map Desc.check).getD 0
    incState := s.ie.inc
    held := (s.ie.presence.filter (fun q => q.2 = .present)).length }

/-- The image a pulse from a peer in PRESENT, or not, is a discovery (R142). -/
def discovered (present : Bool) (b : PulseBody) (s : State) : Bool :=
  present && decide (0 < b.incImage) && decide (activeNumber s < b.incImage) && decide (ownIncomingNumber s < b.incImage) &&
    decide (1 ≤ b.incLength) && decide (b.incLength ≤ 16777216) && decide (s.ac.state = .idle ∨ s.ac.state = .waiting)

/-- A pulse describes the image of this descriptor otherwise than it is held (R144). -/
def misdescribes (held : Option Desc) (b : PulseBody) : Bool :=
  held.any (fun d => d.number == b.incImage && (d.length != b.incLength || d.check != b.incCheck))

/-- The descriptor the incoming side holds, an image queued in ERASING included (R144). -/
def incomingHeld (s : State) : Option Desc :=
  match s.ie.inc, s.ie.after with
  | .empty, _ => none
  | .erasing, .image d => some d
  | .erasing, _ => none
  | _, _ => s.ie.incDesc

/-- IMAGE CONFLICT of a pulse from node n against a held descriptor, when it conflicts and the flag is clear; x gives the time
stamp (R144). -/
def conflictNoted (n : Nat) (b : PulseBody) (held : Option Desc) (flag : Bool) (x : State) (m : Ml) : Ml :=
  let chunks := fun length => min ((length + 1023) / 1024) 65535
  match held with
  | some d =>
    if misdescribes held b = true ∧ flag = false then
      offerEvent (stamp (.imageConflict n b.incImage (chunks d.length) (chunks b.incLength)) x) m else m
  | none => m

/-- The events the image description of an accepted pulse raises: IMAGE FOUND for a discovery, else a conflict with the
incoming and then with the active descriptor (R142, R144; that order is assumption log 23). -/
def imageNoted (n : Nat) (present : Bool) (b : PulseBody) (s x : State) (m : Ml) : Ml :=
  if discovered present b s then offerEvent (stamp (.imageFound n b.incImage b.incLength) x) m
  else conflictNoted n b s.ie.activeDesc s.ie.conflictActive x
    (conflictNoted n b (incomingHeld s) s.ie.conflictInc x m)

/-- What the image description of an accepted pulse makes of the incoming slot and of the conflict flags (R142, R144). -/
def imageTaken (present : Bool) (b : PulseBody) (s : State) (e : Ie) : Prop :=
  let d : Desc := { number := b.incImage, length := b.incLength, check := b.incCheck, failed := 0 }
  (discovered present b s = true →
    e.conflictInc = false ∧ e.conflictActive = s.ie.conflictActive ∧
    (s.ie.inc = .empty → e.inc = .filling ∧ e.incDesc = some d ∧ e.after = .nothing) ∧
    (s.ie.inc = .erasing → e.inc = .erasing ∧ e.after = .image d) ∧
    (s.ie.inc ≠ .empty → s.ie.inc ≠ .erasing →
      e.inc = .erasing ∧ e.incDesc = none ∧ e.after = .image d ∧ e.check = none ∧ e.fetches = [] ∧ e.progs = [] ∧
        e.presence = [] ∧ e.erase = some 0)) ∧
  (discovered present b s = false →
    e.inc = s.ie.inc ∧ e.incDesc = s.ie.incDesc ∧ e.after = s.ie.after ∧
    e.conflictInc = (s.ie.conflictInc || misdescribes (incomingHeld s) b) ∧
    e.conflictActive = (s.ie.conflictActive || misdescribes s.ie.activeDesc b))

/-! ## Fetches (R145, R146) -/

/-- The chunk lies in the fetch's run. -/
def inRun (f : Fetch) (k : Nat) : Prop := f.first ≤ k ∧ k < f.first + f.count

/-- Node n is a peer that R145 lets the image of this descriptor be fetched from. -/
def mayFetchFrom (d : Desc) (u : State) (n : Nat) : Prop :=
  1 ≤ n ∧ n ≤ 8 ∧ ∃ p, peerOf u n = some p ∧ p.state = .present ∧ tabGet u.ie.skips n = none ∧
    (p.adv.activeImage = d.number ∨ (p.adv.incState = .ready ∧ p.adv.incImage = d.number)) ∧
    (p.adv.incImage = d.number → p.adv.incLength = d.length ∧ p.adv.incCheck = d.check)

/-- From u to t the fetches that R145 calls for are issued, and nothing else happens: up to 4 on the list, each of the run that
starts at the lowest missing chunk and goes on while chunks are missing, up to 8, from the eligible peer with the lowest sum of
demands. Missing is read in the presence map alone (assumption log 61). -/
def fetchesIssued (d : Desc) (u t : State) : Prop :=
  ∃ more : List Fetch,
    t = { u with
      ie := { u.ie with
        fetches := u.ie.fetches ++ more, fetchCounter := u.ie.fetchCounter + BitVec.ofNat 16 more.length
        presence := t.ie.presence }
      bu := if running u then { u.bu with
          control := more.foldl (fun c f => joinControl (.bulletin f.peer (.fetch d.number f.first f.count f.number)) c)
            u.bu.control } else u.bu } ∧
    (more = [] ∨ u.ie.fetches.length + more.length ≤ 4) ∧
    (∀ f ∈ more, 1 ≤ f.count ∧ f.count ≤ 8 ∧ f.received = [] ∧ f.ends = u.now + 250000000 ∧
      mayFetchFrom d u f.peer ∧
      (∀ n, mayFetchFrom d u n →
        let sum := fun k : Nat => ((peerOf u k).map (fun p => p.adv.demand.sum)).getD 0;
        sum f.peer < sum n ∨ (sum f.peer = sum n ∧ f.peer ≤ n)) ∧
      (∀ k, k < f.first → tabGet t.ie.presence k ≠ none) ∧ f.first + f.count ≤ chunkCount d.length ∧
      (f.count = 8 ∨ f.first + f.count = chunkCount d.length ∨ tabGet u.ie.presence (f.first + f.count) ≠ none) ∧
      (∀ k, inRun f k → tabGet u.ie.presence k = none ∧ tabGet t.ie.presence k = some .requested)) ∧
    (∀ k, tabGet t.ie.presence k ≠ tabGet u.ie.presence k → ∃ f ∈ more, inRun f k) ∧
    (∀ j f, more[j]? = some f → f.number = u.ie.fetchCounter + BitVec.ofNat 16 j) ∧
    (t.ie.fetches.length < 4 → (∀ k, k < chunkCount d.length → tabGet t.ie.presence k ≠ none) ∨
      ∀ n, ¬ mayFetchFrom d u n)

/-- From s to t the fetches outstanding to lost peers are failed back: they have left the list, and the chunks of their runs not
received are missing unless another path has made them awaiting or present; fetches may have been issued since, in FILLING with
supply-fail not asserted (R6, R17, R145, R146). -/
def fetchesFailedBack (lost : Nat → Bool) (s t : State) : Prop :=
  ∃ more : List Fetch,
    t.ie.fetches = s.ie.fetches.filter (fun f => !lost f.peer) ++ more ∧
    (s.ie.inc ≠ .filling ∨ s.pins.supplyFail = true → more = []) ∧
    (∀ f ∈ more, f.received = [] ∧ f.ends = t.now + 250000000) ∧
    (∀ k, (∃ f ∈ more, inRun f k) → tabGet t.ie.presence k = some .requested) ∧
    (∀ k, (∀ f ∈ more, ¬ inRun f k) →
      (tabGet s.ie.presence k = some .requested →
        (∃ f ∈ s.ie.fetches, lost f.peer = true ∧ inRun f k ∧ k ∉ f.received) → tabGet t.ie.presence k = none) ∧
      (tabGet s.ie.presence k ≠ some .requested ∨
          (∀ f ∈ s.ie.fetches, lost f.peer = true → inRun f k → k ∈ f.received) →
        tabGet t.ie.presence k = tabGet s.ie.presence k))

/-! ## The order of flash work (R141) -/

/-- From u to t the flash operation that R141 puts first has started, where none is in flight and the supply-fail input is not
asserted; nothing else has happened. A serve queue is looked at only where it is empty or its head's image is servable. -/
def flashWorkStarted (u t : State) : Prop :=
  let e := u.ie;
  (e.op.isSome = true → t = u) ∧
  (e.op = none →
    (∀ w r, e.headers = w :: r → t = { u with ie := { e with op := some (.header w), headers := r } }) ∧
    (e.headers = [] →
      (∀ p r, e.progs = p :: r →
        t = { u with ie := { e with op := some (.chunk (incSlot u) (physical e.incRemap p.index) p true) } }) ∧
      (e.progs = [] →
        (e.imageRead.isSome = true → t = { u with ie := { e with op := some .imageRead } }) ∧
        (e.imageRead = none →
          (∀ q r, e.serves = q :: r → (servable u q.image).isSome = true →
            t = { u with ie := { e with op := some (.serveRead q) } }) ∧
          (e.serves = [] →
            (∀ c, e.check = some c → t = { u with ie := { e with op := some (.checkRead c.next) } }) ∧
            (e.check = none →
              (∀ b, e.erase = some b → t = { u with ie := { e with op := some (.erase (incSlot u) b) } }) ∧
              (e.erase = none → t = u)))))))

/-! ## The request rows (Table 10-3) -/

/-- The request code and the transaction of a command that is a SUBMIT of a request of Table 10-3. -/
def submitOf : Instr → Option (Nat × Submit)
  | .setTime t => some (1, t)
  | .clientAttach t => some (2, t)
  | .clientDetach t => some (3, t)
  | .clientAssign t => some (4, t)
  | .profileWrite t => some (5, t)
  | .profilePause t => some (6, t)
  | .profileResume t => some (7, t)
  | .ruleWrite t => some (8, t)
  | .ruleClear t => some (9, t)
  | .imageBegin t => some (10, t)
  | .imageChunk t => some (11, t)
  | .imageRead t => some (12, t)
  | .activateNow t => some (13, t)
  | .swapSlots t => some (14, t)
  | .cancelActivation t => some (15, t)
  | .readStatus t => some (16, t)
  | .readPeer t => some (17, t)
  | .readClient t => some (18, t)
  | .readFlow t => some (19, t)
  | .readShare t => some (20, t)
  | .readProfile t => some (21, t)
  | .readFault t => some (22, t)
  | .eventMask t => some (23, t)
  | .startWrite t => some (24, t)
  | .blockResetPeers t | .blockResetClients t | .blockResetFlows t | .blockResetShare t | .blockResetSchedules t
  | .blockResetImage t | .blockResetEvents t => some (25, t)
  | .resetPart t => some (26, t)
  | _ => none

/-- The argument length Table 10-3 gives a request's code, as a condition on the argument bytes. -/
def lengthFits (code : Nat) (d : List Byte) : Bool :=
  match code with
  | 1 => d.length == 4
  | 2 | 18 => d.length == 7
  | 3 | 12 => d.length == 6
  | 4 => d.length == 9
  | 5 => decide (5 ≤ d.length) && d.length == 5 + 6 * field 1 1 d
  | 6 | 7 | 9 | 17 | 21 | 25 => d.length == 1
  | 8 => d.length == 17
  | 10 => d.length == 12
  | 11 => decide (11 ≤ d.length) && decide (d.length ≤ 1034)
  | 19 => d.length == 3
  | 23 => d.length == 8
  | 24 => decide (1 ≤ d.length) && decide (d.length ≤ 1040)
  | _ => d.length == 0

end Sys2Proof.Machine
end

