-- ==== Sys2Proof/Certificates/Slice0/Obligations.lean ====
section
/-! DEFINITION. The statements for the provers. A statement that rests on a choice of the model's own names its entry of the assumption
log. -/

open Sys2Proof Sys2Proof.Machine

/-- A step carries out the command at the front of the queue on the state with the queue's rest (section 0.3). -/
def Obligations.StepRunsFrontCommand : Prop :=
  ∀ (c : Instr) (rest : List Instr) (s : State), step (s.setPending (c :: rest)) = exec c (s.setPending rest)

/-- On an empty queue a step lets 1 ms pass; a choice of the model (assumption log 6 and 36) (section 0.5.6, section
7.1). -/
def Obligations.StepIdlesOneMillisecond : Prop :=
  ∀ s : State, s.pending = [] →
    (alive s = false ∨ s.su.clock.grade = .unset → step s = .next { s with now := s.now + 1000000 }) ∧
    (alive s = true → s.su.clock.grade ≠ .unset →
      step s = .next { s with
        now := s.now + 1000000
        su := { s.su with clock := { s.su.clock with
          milli := min (s.su.clock.milli * 1000000 + s.su.clock.sub + 1000000) 59999999999 / 1000000
          sub := min (s.su.clock.milli * 1000000 + s.su.clock.sub + 1000000) 59999999999 % 1000000 } } })

/-- The state after reset meets every invariant that the steps keep (R100, R105, R118, R131). -/
def Obligations.ResetMeetsInvariants : Prop :=
  flashOk State.reset.flash = true ∧ poolOk State.reset.es = true ∧ clockOk State.reset.su.clock = true ∧
    queuesOk State.reset = true ∧ clientsOk State.reset = true ∧ tokensOk State.reset = true ∧
    tablesSorted State.reset = true

/-- Every step keeps the bytes of the flash in their canonical form (R136, R137). -/
def Obligations.StepKeepsFlashCanonical : Prop :=
  ∀ s t : State, flashOk s.flash = true → step s = .next t → flashOk t.flash = true

/-- Every step keeps free cells plus the cells held by queued frames at 4096 (R100). -/
def Obligations.StepKeepsBufferPool : Prop :=
  ∀ s t : State, poolOk s.es = true → step s = .next t → poolOk t.es = true

/-- Every step keeps each token count between -1535 and 256 times the grant loaded for its class (R105). -/
def Obligations.StepKeepsTokenBounds : Prop :=
  ∀ s t : State, tokensOk s = true → step s = .next t → tokensOk t = true

/-- Every step keeps the clock in its ranges, and at 0 while it is UNSET (R118). -/
def Obligations.StepKeepsClockRanges : Prop :=
  ∀ s t : State, clockOk s.su.clock = true → step s = .next t → clockOk t.su.clock = true

/-- Every step keeps the event queue within 64 events and the control transmit queue within 16 bulletins (R9, R10,
R178). -/
def Obligations.StepKeepsQueueBounds : Prop :=
  ∀ s t : State, queuesOk s = true → step s = .next t → queuesOk t = true

/-- Every step keeps each client's used minutes within 1440 and extra minutes within 240 (R131), and the tables in the
form in which the model holds them: the indexes of the Client, Peer and Flow Tables and of the presence map strictly
rising (R23). -/
def Obligations.StepKeepsMinuteCounters : Prop :=
  (∀ s t : State, clientsOk s = true → step s = .next t → clientsOk t = true) ∧
  (∀ s t : State, tablesSorted s = true → step s = .next t → tablesSorted t = true)

/-- Reading the bytes of a bulletin body gives the body back, for all eleven kinds (R22, section 1.11). -/
def Obligations.BulletinBodiesRoundTrip : Prop :=
  ∀ b : Body, bodyOk b = true → decodeBody (bodyKind b) (encodeBody b) = some b

/-- A start record laid out by Table 11-1 behind any filler is read as its items (R186). -/
def Obligations.StartRecordRoundTrip : Prop :=
  ∀ (filler : List Byte) (items : List (Nat × Nat)),
    filler.length ≤ 256 → (∀ b ∈ filler, b = 0x00#8 ∨ b = 0xFF#8) → 1 ≤ items.length → items.length ≤ 128 →
    (∀ i ∈ items, i.1 < 256 ∧ i.2 < 65536) →
      let body := items.flatMap (fun i => toBE 1 i.1 ++ toBE 2 i.2)
      readRecord (memWriteAll [] 0
        (filler ++ 0xA5#8 :: toBE 2 (65536 - items.length) ++ body ++ toBE 2 ((body.map BitVec.toNat).sum % 65536))) =
          .items items

/-- Whatever a start record holds, each parameter takes the value R187 gives it, which lies in its range of Table 11-2
(R187, section 11.2). Rests on Table 11-2. START CLAMPED per item, for an item that a later one overrides too, and for
a node number of 0, is the reading of assumption log 12. O13, O14 and O53 state the loads and reloads that put these
parameters in force and raise these events. -/
def Obligations.StartParametersInRange : Prop :=
  ∀ items : List (Nat × Nat), (∀ i ∈ items, i.2 < 65536) →
    let p := paramsOf items
    let last := fun code : Nat => (items.reverse.find? (fun i => i.1 == code)).map Prod.snd
    let range := fun (code lo hi step default : Nat) => match last code with
      | none => default
      | some v => if v < lo then lo else if hi < v then hi else v - v % step
    let whole := fun (code lo hi default : Nat) => match last code with
      | none => default
      | some v => min (max v lo) hi
    let collides := fun v : Nat => v < 0x0600 ∨ v = 0x0800 ∨ v = 0x86DD ∨ v = 0x8100 ∨ v = 0x88A8 ∨ v = 0x8808;
    (p.node = match last 1 with
      | some v => if 1 ≤ v ∧ v ≤ 8 then v else 0
      | none => 0) ∧
    p.meshTag = (last 2).getD 0 ∧
    (p.frameType = match last 3 with
      | some v => if collides v then 0x88B5 else v
      | none => 0x88B5) ∧
    (p.uplink = match last 4 with
      | some v => decide (1 ≤ v)
      | none => false) ∧
    p.pulsePeriod = range 5 10 100 5 25 ∧ p.sightPeriod = range 6 200 2000 100 500 ∧
    p.cap = whole 7 1 65535 2930 ∧ p.gc = whole 8 10 80 40 ∧ p.wS = whole 9 1 15 8 ∧ p.wB = whole 10 1 15 4 ∧
    p.wU = whole 11 1 15 1 ∧ p.limGame = whole 12 16 4096 256 ∧ p.limStandard = whole 13 16 4096 1536 ∧
    p.limBulk = whole 14 16 4096 1024 ∧ p.limUpdate = whole 15 16 4096 256 ∧ p.limNode = whole 16 16 4096 1024 ∧
    p.margin = whole 17 1 20 6 ∧ p.k = whole 18 1 7 3 ∧ p.h = whole 19 8 200 64 ∧ p.handWait = whole 20 1 15 5 ∧
    p.holddown = whole 21 0 60 10 ∧ p.gmax = whole 22 1 8 4 ∧ p.pendingProfile = whole 23 0 15 0 ∧
    p.node ≤ 8 ∧ p.meshTag < 65536 ∧ 0x0600 ≤ p.frameType ∧ p.frameType < 65536 ∧
    p.frameType ∉ [0x0800, 0x86DD, 0x8100, 0x88A8, 0x8808] ∧
    10 ≤ p.pulsePeriod ∧ p.pulsePeriod ≤ 100 ∧ p.pulsePeriod % 5 = 0 ∧
    200 ≤ p.sightPeriod ∧ p.sightPeriod ≤ 2000 ∧ p.sightPeriod % 100 = 0 ∧
    1 ≤ p.cap ∧ p.cap ≤ 65535 ∧ 10 ≤ p.gc ∧ p.gc ≤ 80 ∧
    (∀ w ∈ [p.wS, p.wB, p.wU], 1 ≤ w ∧ w ≤ 15) ∧
    (∀ l ∈ [p.limGame, p.limStandard, p.limBulk, p.limUpdate, p.limNode], 16 ≤ l ∧ l ≤ 4096) ∧
    1 ≤ p.margin ∧ p.margin ≤ 20 ∧ 1 ≤ p.k ∧ p.k ≤ 7 ∧ 8 ≤ p.h ∧ p.h ≤ 200 ∧ 1 ≤ p.handWait ∧ p.handWait ≤ 15 ∧
    p.holddown ≤ 60 ∧ 1 ≤ p.gmax ∧ p.gmax ≤ 8 ∧ p.pendingProfile ≤ 15 ∧
    (∀ v, v < 65536 →
      let event := fun code used : Nat => clampEvent (code, v) = if used = v then none else some (.startClamped code v used)
      let plain := fun code lo hi : Nat => event code (min (max v lo) hi);
      (clampEvent (1, v) = if 1 ≤ v ∧ v ≤ 8 then none else some (.startClamped 1 v 0)) ∧ clampEvent (2, v) = none ∧
      event 3 (if collides v then 0x88B5 else v) ∧ event 4 (min v 1) ∧
      event 5 (if v < 10 then 10 else if 100 < v then 100 else v - v % 5) ∧
      event 6 (if v < 200 then 200 else if 2000 < v then 2000 else v - v % 100) ∧
      plain 7 1 65535 ∧ plain 8 10 80 ∧ (∀ c, 9 ≤ c → c ≤ 11 → plain c 1 15) ∧
      (∀ c, 12 ≤ c → c ≤ 16 → plain c 16 4096) ∧ plain 17 1 20 ∧ plain 18 1 7 ∧ plain 19 8 200 ∧ plain 20 1 15 ∧
      plain 21 0 60 ∧ plain 22 1 8 ∧ plain 23 0 15 ∧ (∀ c, c = 0 ∨ 24 ≤ c → clampEvent (c, v) = none)) ∧
    (∀ m, readRecord m = .items items → loadEvents m = items.filterMap clampEvent)

/-- The reset input held puts every block at its full-reset state; its release samples the straps and reads the start
record (R21, R43, R65, R82, R98, R116, R169, R171, R182, R184, R186, R187). R135 and R156 are the reset rules of the
SU and the IE. The model's own: an edge that is none changes nothing, and one in an unpowered part changes its pins
alone (assumption log 8); the offset START BAD gives (log 11); the last bytes shifted out stay (log 43); the
transaction that the reset falls in comes as an operand (log 56). That the result polled mark is clear is the model's
choice (assumption log 62). -/
def Obligations.ResetInputAssertAndRelease : Prop :=
  (∀ (cut : Option CutLink) (s : State),
    (s.pins.resetHeld = true → exec (.resetInputAssert cut) s = .next s) ∧
    (s.pins.resetHeld = false → s.pins.powered = false →
      exec (.resetInputAssert cut) s = .next { s with pins := { s.pins with resetHeld := true } }) ∧
    (s.pins.resetHeld = false → s.pins.powered = true →
      ∃ t, exec (.resetInputAssert cut) s = .next t ∧ blocksReset t ∧ linkReset .pin [] t.ml ∧
        t.ml.miso = (match cut with
          | some x => shiftedOut x.before (linkBytes x.kind s) ++ List.replicate x.after 0#8
          | none => s.ml.miso) ∧
        t.sl.part = .starting ∧ t.sl.phase = .loading ∧ t.sl.cause = .pin ∧
        t.pins = { s.pins with resetHeld := true } ∧ t.now = s.now ∧ t.pending = s.pending ∧
        (s.ie.op = none → t.flash = s.flash))) ∧
  (∀ (x : Straps) (s : State),
    (s.pins.resetHeld = false → exec (.resetInputRelease x) s = .next s) ∧
    (s.pins.resetHeld = true → s.pins.powered = false →
      exec (.resetInputRelease x) s = .next { s with pins := { s.pins with resetHeld := false, straps := x } }) ∧
    (s.pins.resetHeld = true → s.pins.powered = true → s.sl.part = .starting →
      ∃ t, exec (.resetInputRelease x) s = .next t ∧ recordLoaded s.flash.mem t.sl ∧ t.sl.cause = s.sl.cause ∧
        (s.ml.mask = maskAll → s.ml.events.length ≤ 64 →
          t.ml.events.map EventRec.event = (s.ml.events.map EventRec.event ++ loadEvents s.flash.mem).take 64) ∧
        t.ml = (loadEvents s.flash.mem).foldl (fun q e => offerEvent (stamp e s) q) s.ml ∧
        t.sl = { s.sl with phase := t.sl.phase, recordGood := t.sl.recordGood, params := t.sl.params } ∧
        t = { s with pins := { s.pins with resetHeld := false, straps := x }, sl := t.sl, ml := t.ml }))

/-- Power-up and RESET PART make a full reset of every block and read the start record (R21, R43, R65, R82, R98, R116,
R169, R171, R175, R184, R186, R187). R135, R156 and R182 are the reset rules of the SU, the IE and the ML. The model's
own: POWER_UP of a powered part is supply lost and back (assumption log 8); the offset START BAD gives (log 11);
straps are not sampled anew at RESET PART (log 4); a START CLAMPED per item, also for a node number of 0 (log 12); the
last bytes shifted out stay (log 43); a transaction cut by POWER_UP comes as an operand (log 56). That the result
polled mark is clear is the model's choice (assumption log 62). -/
def Obligations.PowerUpAndResetPartResetAndLoad : Prop :=
  (∀ (x : Straps) (cut : Option CutLink) (s : State),
    ∃ t, exec (.powerUp x cut) s = .next t ∧ blocksReset t ∧ t.sl.cause = .power ∧
    t.ml.miso = (match cut with
      | some y => (if alive s then shiftedOut y.before (linkBytes y.kind s) else List.replicate y.before 0#8) ++
          List.replicate y.after 0#8
      | none => s.ml.miso) ∧
    t.pins = { s.pins with powered := true, straps := x } ∧ t.now = s.now ∧ t.pending = s.pending ∧
    (s.ie.op = none → t.flash = s.flash) ∧
    (s.pins.resetHeld = true → linkReset .power [] t.ml ∧ t.sl.part = .starting ∧ t.sl.phase = .loading) ∧
    (s.pins.resetHeld = false → linkReset .power (loadEvents t.flash.mem) t.ml ∧ recordLoaded t.flash.mem t.sl)) ∧
  (∀ (x : Submit) (s : State), requestTaken (lenIs 0) x s →
    ∃ t, exec (.resetPart x) s = .next t ∧ blocksReset t ∧ linkReset .request (loadEvents t.flash.mem) t.ml ∧
      recordLoaded t.flash.mem t.sl ∧ t.sl.cause = .request ∧ t.pins = s.pins ∧ t.now = s.now ∧
      t.pending = s.pending ∧ t.ml.miso = shiftedOut (2 + x.length) (echoBytes s) ∧
      (s.ie.op = none → t.flash = s.flash))

/-- Start-up ends RUNNING when the record passed and named a node 1..8, ISOLATED otherwise (R11, R14, R80, R98, R153,
R158, R159, R169, R185). -/
def Obligations.StartUpEndsRunningOrIsolated : Prop :=
  ∀ s : State, alive s = true → s.sl.part = .starting → s.sl.phase = .scanning →
    ∃ t, exec .startUpComplete s = .next t ∧
      (s.sl.recordGood = true ∧ 1 ≤ s.sl.params.node ∧ s.sl.params.node ≤ 8 →
        t.sl = { s.sl with part := .running } ∧
        t.bu = { s.bu with
          pulseTimer := some s.now
          sightTimer := some (s.now + s.sl.params.sightPeriod * 1000000) } ∧
        t.sc = { s.sc with epoch := 0 } ∧
        t.fc = { s.fc with quietSince := if s.fc.gameCount = 0 then some s.now else none }) ∧
      (¬ (s.sl.recordGood = true ∧ 1 ≤ s.sl.params.node ∧ s.sl.params.node ≤ 8) →
        t.sl = { s.sl with part := .isolated } ∧ t.bu = s.bu ∧ t.sc = s.sc ∧ t.fc = s.fc) ∧
      t.ie.activeSlot = (resumeScan s.flash).activeSlot ∧ t.ie.activeDesc = (resumeScan s.flash).activeDesc ∧
      t.ie.inc = (resumeScan s.flash).inc ∧ t.ie.incDesc = (resumeScan s.flash).incDesc ∧
      t.ie.presence = (resumeScan s.flash).presence ∧
      (imageDue t = false → t.ac = { s.ac with state := .idle }) ∧
      (imageDue t = true → t.ac = { s.ac with state := .waiting }) ∧
      t.rc = s.rc ∧ t.es = s.es ∧ t.su = s.su ∧ t.ml = s.ml ∧ t.flash = s.flash ∧ t.pins = s.pins ∧ t.now = s.now

/-- The resume scan takes the slot with the higher activation count, and rebuilds the incoming slot from its header
(R153, R166). The model's own: a header left garbled by a cut is taken as any other contents (assumption log 14). -/
def Obligations.ResumeScanChoosesSlots : Prop :=
  ∀ f : Flash,
    (∀ x y, f.headerA.activeCount = some x → f.headerA.retired = false → f.headerB.activeCount = some y →
      f.headerB.retired = false →
      (x < y → (resumeScan f).activeSlot = .b ∧ (resumeScan f).activeDesc = f.headerB.desc) ∧
      (y ≤ x → (resumeScan f).activeSlot = .a ∧ (resumeScan f).activeDesc = f.headerA.desc)) ∧
    (∀ y, f.headerB.activeCount = some y → f.headerB.retired = false →
      (f.headerA.retired = true ∨ f.headerA.activeCount = none) →
      (resumeScan f).activeSlot = .b ∧ (resumeScan f).activeDesc = f.headerB.desc) ∧
    (∀ x, f.headerA.activeCount = some x → f.headerA.retired = false →
      (f.headerB.retired = true ∨ f.headerB.activeCount = none) →
      (resumeScan f).activeSlot = .a ∧ (resumeScan f).activeDesc = f.headerA.desc) ∧
    ((f.headerA.retired = true ∨ f.headerA.activeCount = none) →
      (f.headerB.retired = true ∨ f.headerB.activeCount = none) →
      (resumeScan f).activeSlot = .a ∧ (resumeScan f).activeDesc = none) ∧
    (let h := f.header (otherSlot (resumeScan f).activeSlot)
     (h = Header.blank → (resumeScan f).inc = .empty) ∧
     (h.erasing = true ∨ h.retired = true ∨ h.activeCount.isSome = true ∨
         (h ≠ Header.blank ∧ (h.garbled = true ∨ h.desc = none ∨ (h.reject = false ∧ h.filling = false))) →
       (resumeScan f).inc = .erasing ∧ (resumeScan f).erase = some 0) ∧
     (∀ d, h.erasing = false → h.retired = false → h.activeCount = none → h.garbled = false → h.desc = some d →
       (h.reject = true → (resumeScan f).inc = .rejected ∧ (resumeScan f).incDesc = some d) ∧
       (h.reject = false → h.filling = true → h.ready = true →
         (resumeScan f).inc = .ready ∧ (resumeScan f).incDesc = some d) ∧
       (h.reject = false → h.filling = true → h.ready = false →
         ((∀ k < chunkCount d.length, (tabGet h.progress (physical h.remap k)).isSome = true) →
           (resumeScan f).inc = .checking) ∧
         ((∃ k < chunkCount d.length, tabGet h.progress (physical h.remap k) = none) →
           (resumeScan f).inc = .filling))))

/-- The loss of power cuts work short, and a part without supply or held in reset takes nothing (R184). The model's
own: POWER_LOSS of an unpowered part changes nothing (assumption log 8); the volatile state of an unpowered part stays
in place (log 35); a held part takes no command but those of its pins (log 48). -/
def Obligations.PowerLossAndHeldPartTakeNothing : Prop :=
  (∀ s : State,
    (s.pins.powered = false → exec .powerLoss s = .next s) ∧
    (s.pins.powered = true → ∃ t, exec .powerLoss s = .next t ∧
      t = { s with
        pins := { s.pins with powered := false }
        ie := { s.ie with op := none }
        es := { s.es with backhaulTx := none, nodeTx := none }
        flash := t.flash
        free := t.free } ∧
      (s.ie.op = none → t.flash = s.flash ∧ t.free = s.free))) ∧
  (∀ (c : Instr) (s : State), alive s = false → isPinCommand c = false → exec c s = .next s)

/-- What the event queue, the control transmit queue and the frame queues do with one more entry, full or not (R9,
R10, R100, R102, R103, R104, R178, R179). -/
def Obligations.QueuesWhenFull : Prop :=
  (∀ (r : EventRec) (m : Ml),
    (m.mask.getLsbD (eventCode r.event) = false → offerEvent r m = m) ∧
    (m.mask.getLsbD (eventCode r.event) = true → m.events.length < 64 →
      offerEvent r m = { m with events := m.events ++ [r] }) ∧
    (∀ (q : List EventRec) (e : EventRec), m.mask.getLsbD (eventCode r.event) = true → m.events = q ++ [e] →
      64 ≤ m.events.length → offerEvent r m = { m with events := q ++ [{ e with overrun := true }] })) ∧
  (∀ (c : Control) (q : List Control),
    (q.length < 16 → joinControl c q = q ++ [c]) ∧
    (16 ≤ q.length → isSighting c = false → joinControl c q = q) ∧
    (16 ≤ q.length → (∀ x ∈ q, isSighting x = false) → joinControl c q = q) ∧
    (∀ a b x, q = a ++ x :: b → (∀ y ∈ a, isSighting y = false) → isSighting x = true → 16 ≤ q.length →
      isSighting c = true → joinControl c q = a ++ b ++ [c])) ∧
  (∀ (p : Params) (q : QName) (x : QEntry) (e : Es),
    let limit := limitOf p q
    let cells := fun l : List QEntry => (l.map QEntry.cells).sum
    (cells (e.queue q) + x.cells ≤ limit → x.cells ≤ e.free →
      admitFrame p q x e = ({ e.setQueue q (e.queue q ++ [x]) with free := e.free - x.cells }, true)) ∧
    (limit < cells (e.queue q) + x.cells ∨ e.free < x.cells → q ≠ .game → admitFrame p q x e = (e, false)) ∧
    (∀ a b, q = .game → e.game = a ++ b → cells b + x.cells ≤ limit → x.cells ≤ e.free + cells a →
      (∀ c y d, a = c ++ y :: d → limit < cells (y :: d ++ b) + x.cells ∨ e.free + cells c < x.cells) →
      admitFrame p q x e = ({ e with game := b ++ [x], free := e.free + cells a - x.cells }, true)) ∧
    (q = .game → limit < x.cells ∨ e.free + cells e.game < x.cells →
      admitFrame p q x e = ({ e with game := [], free := e.free + cells e.game }, false)))

/-- Foreign, malformed, unknown and stale frames change nothing; an unknown kind takes its sequence; a clash is raised
once in 10 s (R1, R2, R3, R5, R7, R8, R22). That a carried frame's class and length are looked at with the first check
of R2 is the model's reading (assumption log 17). -/
def Obligations.ForeignStaleClashingFrames : Prop :=
  ((∀ (f : MeshFrame) (s : State), f.source.toNat ≠ s.sl.params.node →
    (running s = false ∨ f.frameType.toNat ≠ s.sl.params.frameType ∨ f.meshTag.toNat ≠ s.sl.params.meshTag ∨
      f.source = 0#8 ∨ 8 < f.source.toNat ∨ 8 < f.target.toNat ∨ f.target = f.source →
      exec (.pulseReceive f) s = .next s) ∧
    (running s = false ∨ f.frameType.toNat ≠ s.sl.params.frameType ∨ f.meshTag.toNat ≠ s.sl.params.meshTag ∨
      f.source = 0#8 ∨ 8 < f.source.toNat ∨ 8 < f.target.toNat ∨ f.target = f.source ∨
      peerOf s f.source.toNat = none ∨
      (∃ p, peerOf s f.source.toNat = some p ∧ p.addr = f.srcAddr ∧ newer f.seq p.lastSeq = false) →
      ∀ c ∈ [Instr.sightingReceive f, .claimReceive f, .grantReceive f, .refuseReceive f, .withdrawReceive f,
        .arrivedReceive f, .contextReceive f, .offerReceive f, .fetchReceive f, .chunkReceive f,
        .unknownKindBulletinReceive 12#8 f], exec c s = .next s)) ∧
  (∀ (k : BitVec 8) (f : MeshFrame) (p : Peer) (s : State), live s = true →
    fromMesh f.frameType f.meshTag f.source f.target s = true → f.bodyLen.toNat ≤ f.bytes.length →
    peerOf s f.source.toNat = some p → p.addr = f.srcAddr →
    exec (.unknownKindBulletinReceive k f) s =
      .next (if newer f.seq p.lastSeq then { s with bu := seqTaken f p s.bu } else s))) ∧
  (∀ (f : MeshFrame) (p : Peer) (s : State), live s = true →
    fromMesh f.frameType f.meshTag f.source f.target s = true →
    peerOf s f.source.toNat = some p → p.addr ≠ f.srcAddr →
    ∀ kc ∈ [(1, Instr.pulseReceive f), (2, .sightingReceive f), (3, .claimReceive f), (4, .grantReceive f),
        (5, .refuseReceive f), (6, .withdrawReceive f), (7, .arrivedReceive f), (8, .contextReceive f),
        (9, .offerReceive f), (10, .fetchReceive f), (11, .chunkReceive f)],
      (readBody kc.1 f).isSome = true →
      (∀ d, tabGet s.bu.clash f.source.toNat = some d → exec kc.2 s = .next s) ∧
      (tabGet s.bu.clash f.source.toNat = none →
        exec kc.2 s = .next { s with
          bu := { s.bu with clash := tabSet s.bu.clash f.source.toNat (s.now + 10000000000) }
          ml := offerEvent (stamp (.nodeClash f.source.toNat f.srcAddr) s) s.ml })) ∧
  (∀ (k : BitVec 8) (f : MeshFrame) (s : State), alive s = true →
    let n := f.bodyLen.toNat
    let d := f.bytes.take n
    let ignored := fun c : Instr => exec c s = .next s;
    (f.bytes.length < n → ∀ c ∈ [Instr.pulseReceive f, .sightingReceive f, .claimReceive f, .grantReceive f,
      .refuseReceive f, .withdrawReceive f, .arrivedReceive f, .contextReceive f, .offerReceive f, .fetchReceive f,
      .chunkReceive f, .unknownKindBulletinReceive k f], ignored c) ∧
    (∀ lc ∈ [(36, Instr.pulseReceive f), (10, .claimReceive f), (8, .grantReceive f), (9, .refuseReceive f),
      (8, .withdrawReceive f), (8, .arrivedReceive f), (14, .contextReceive f), (6, .offerReceive f),
      (9, .fetchReceive f)], n ≠ lc.1 → ignored lc.2) ∧
    (field 0 1 d = 0 ∨ 48 < field 0 1 d ∨ n ≠ 1 + 11 * field 0 1 d → ignored (.sightingReceive f)) ∧
    (n < 15 ∨ n ≠ 15 + field 9 2 d → ignored (.chunkReceive f)) ∧
    (field 0 1 d < 10 ∨ 100 < field 0 1 d ∨ field 0 1 d % 5 ≠ 0 ∨ 2 < field 1 1 d ∨ 10079 < field 3 2 d ∨
      59999 < field 5 2 d ∨ 5 < field 33 1 d → ignored (.pulseReceive f))) ∧
  (∀ (f : CarriedFrame) (s : State), alive s = true →
    2 < f.cls.toNat ∨ f.frameLen.toNat < 14 ∨ 1536 < f.frameLen.toNat ∨ f.bytes.length < f.frameLen.toNat ∨
      running s = false ∨ f.frameType.toNat ≠ s.sl.params.frameType ∨ f.meshTag.toNat ≠ s.sl.params.meshTag ∨
      f.source = 0#8 ∨ 8 < f.source.toNat ∨ 8 < f.dest.toNat ∨ f.dest = f.source ∨
      (f.source.toNat ≠ s.sl.params.node ∧ (peerOf s f.source.toNat = none ∨
        (f.dest.toNat ≠ s.sl.params.node ∧ ∃ p, peerOf s f.source.toNat = some p ∧ p.addr = f.srcAddr))) →
    exec (.carriedFrameReceive f) s = .next s) ∧
  (∀ (s : State), live s = true →
    let clashes := fun (n : Nat) (a : Addr) (c : Instr) =>
      (∀ d, tabGet s.bu.clash n = some d → exec c s = .next s) ∧
      (tabGet s.bu.clash n = none → exec c s = .next { s with
        bu := { s.bu with clash := tabSet s.bu.clash n (s.now + 10000000000) }
        ml := offerEvent (stamp (.nodeClash n a) s) s.ml })
    let own := fun (frameType meshTag : BitVec 16) (source target : BitVec 8) =>
      frameType.toNat = s.sl.params.frameType ∧ meshTag.toNat = s.sl.params.meshTag ∧ 1 ≤ source.toNat ∧
        source.toNat ≤ 8 ∧ target.toNat ≤ 8 ∧ target ≠ source ∧ source.toNat = s.sl.params.node;
    (∀ (k : BitVec 8) (f : MeshFrame) (c : Instr),
      (c = .unknownKindBulletinReceive k f ∧ f.bodyLen.toNat ≤ f.bytes.length) ∨
        (∃ kind, (readBody kind f).isSome = true ∧
          (kind, c) ∈ [(1, Instr.pulseReceive f), (2, .sightingReceive f), (3, .claimReceive f), (4, .grantReceive f),
            (5, .refuseReceive f), (6, .withdrawReceive f), (7, .arrivedReceive f), (8, .contextReceive f),
            (9, .offerReceive f), (10, .fetchReceive f), (11, .chunkReceive f)]) →
      (own f.frameType f.meshTag f.source f.target → f.srcAddr = Config.ownAddress → exec c s = .next s) ∧
      (own f.frameType f.meshTag f.source f.target → f.srcAddr ≠ Config.ownAddress →
        clashes s.sl.params.node f.srcAddr c) ∧
      (∀ p, fromMesh f.frameType f.meshTag f.source f.target s = true → peerOf s f.source.toNat = some p →
        p.addr ≠ f.srcAddr → clashes f.source.toNat f.srcAddr c)) ∧
    (∀ (f : CarriedFrame), f.cls.toNat ≤ 2 → 14 ≤ f.frameLen.toNat → f.frameLen.toNat ≤ 1536 →
      f.frameLen.toNat ≤ f.bytes.length →
      (own f.frameType f.meshTag f.source f.dest → f.srcAddr = Config.ownAddress →
        exec (.carriedFrameReceive f) s = .next s) ∧
      (own f.frameType f.meshTag f.source f.dest → f.srcAddr ≠ Config.ownAddress →
        clashes s.sl.params.node f.srcAddr (.carriedFrameReceive f)) ∧
      (∀ p, fromMesh f.frameType f.meshTag f.source f.dest s = true → peerOf s f.source.toNat = some p →
        p.addr ≠ f.srcAddr → clashes f.source.toNat f.srcAddr (.carriedFrameReceive f))))

/-- An accepted PULSE from an ABSENT node opens its entry as JOINING with what the pulse carries, and raises what it
has to say (R3, R15, R18, R19, R20, R142, R144). The order of the two conflicts, and that a JOINING peer's pulse is
compared, are the model's (assumption log 23), as is TIME BORROWED coming after the events of the new clock value (log
47). -/
def Obligations.PulseOpensEntry : Prop :=
  ∀ (f : MeshFrame) (b : PulseBody) (s : State), live s = true → txWaits s = true →
    fromMesh f.frameType f.meshTag f.source f.target s = true → readBody 1 f = some (.pulse b) →
    peerOf s f.source.toNat = none →
    ∃ t, exec (.pulseReceive f) s = .next t ∧
      t.bu = { s.bu with
        control := t.bu.control
        peers := tabSet s.bu.peers f.source.toNat
          { state := .joining, addr := f.srcAddr, lastSeq := f.seq, lastFresh := b.fresh, quiet := 0, run := 0,
            heard := true, lastPulse := s.now, adv := b, mismatch := b.period != s.sl.params.pulsePeriod,
            skew := b.grade == .set && s.su.clock.grade != .unset &&
              decide (120000 < weekDistance (weekMilli s.su.clock.minute s.su.clock.milli) (weekMilli b.minute b.milli)) } } ∧
      t.sc = s.sc ∧ t.es = s.es ∧ t.flash = s.flash ∧ t.sl = s.sl ∧ t.pins = s.pins ∧ t.now = s.now ∧
      (b.grade ≠ .set ∨ s.su.clock.grade ≠ .unset → t.su = s.su ∧ t.fc = s.fc ∧ t.rc.clients = s.rc.clients) ∧
      (b.grade = .set → s.su.clock.grade = .unset →
        t.su.clock = { grade := .borrowed, minute := b.minute, milli := b.milli, sub := 0 }) ∧
      imageTaken false b s t.ie ∧
      (let raised := fun (c : Bool) (x : Event) (m : Ml) => if c then offerEvent (stamp x s) m else m
       let n := f.source.toNat
       let period := raised (b.period != s.sl.params.pulsePeriod) (.periodMismatch n b.period) s.ml
       let far := decide (120000 <
         weekDistance (weekMilli s.su.clock.minute s.su.clock.milli) (weekMilli b.minute b.milli));
       acDraining s = false →
       (b.grade ≠ .set → t.ml = imageNoted n false b s s period) ∧
       (b.grade = .set → s.su.clock.grade ≠ .unset →
         t.ml = imageNoted n false b s s (raised far (.timeSkew n b.minute b.milli) period)) ∧
       (b.grade = .set → s.su.clock.grade = .unset → s.rc.clients = [] → s.su.profiles = [] →
         t.ml = imageNoted n false b s t (offerEvent (stamp (.timeBorrowed n) t) period)))

/-- An accepted PULSE renews its entry; a SILENT peer is PRESENT again, a restart orphans its clients and fails its
fetches back, an image is found, a drain yields (R5, R6, R15, R18, R19, R20, R32, R53, R142, R144, R146, R162). Rests
also on R63, R145 and R161. The order of two conflicts is the model's (assumption log 23), as is TIME BORROWED coming
after the events of the new clock value (log 47). -/
def Obligations.PulseRenewsEntry : Prop :=
  ∀ (f : MeshFrame) (b : PulseBody) (p : Peer) (s : State), live s = true → txWaits s = true →
    fromMesh f.frameType f.meshTag f.source f.target s = true → readBody 1 f = some (.pulse b) →
    peerOf s f.source.toNat = some p → p.addr = f.srcAddr →
    (newer f.seq p.lastSeq = false → b.fresh = false → exec (.pulseReceive f) s = .next s) ∧
    (newer f.seq p.lastSeq = true ∨ b.fresh = true →
      ∃ t, exec (.pulseReceive f) s = .next t ∧
        peerOf t f.source.toNat = some { p with
          state := if p.state = .silent then .present else p.state
          lastSeq := f.seq, lastFresh := b.fresh, quiet := 0, heard := true, lastPulse := s.now, adv := b
          mismatch := b.period != s.sl.params.pulsePeriod
          skew := if b.grade = .set ∧ s.su.clock.grade ≠ .unset then
              decide (120000 <
                weekDistance (weekMilli s.su.clock.minute s.su.clock.milli) (weekMilli b.minute b.milli))
            else p.skew } ∧
        (∀ n, n ≠ f.source.toNat → peerOf t n = peerOf s n) ∧
        t.sc = s.sc ∧ t.es = s.es ∧ t.flash = s.flash ∧ t.sl = s.sl ∧ t.pins = s.pins ∧ t.now = s.now ∧
        (b.fresh = true → p.lastFresh = false → ∀ i c, clientAt s i = some c → c.serving = f.source.toNat →
          c.role = .remote ∨ c.role = .claiming ∨ c.role = .expecting →
          ∃ o, clientAt t i = some o ∧ o.addr = c.addr ∧ o.role = .orphan ∧ o.serving = 0 ∧
            o.timer = some (s.now + 60000000000) ∧ o.claimNo = none) ∧
        (b.fresh = true → p.lastFresh = false → ∀ i c, clientAt s i = some c → c.role = .handing →
          c.claimant = some f.source.toNat →
          ∃ o, clientAt t i = some o ∧ o.addr = c.addr ∧ o.role = .served ∧ o.serving = c.serving ∧ o.timer = none ∧
            o.claimNo = none ∧ o.claimant = none ∧ o.tenure = c.tenure) ∧
        (b.fresh = false ∨ p.lastFresh = true → b.grade ≠ .set → t.rc.clients = s.rc.clients ∧ t.su = s.su) ∧
        (let raised := fun (c : Bool) (x : Event) (m : Ml) => if c then offerEvent (stamp x s) m else m
         let n := f.source.toNat
         let present : Bool := p.state = .present ∨ p.state = .silent
         let restart := b.fresh && !p.lastFresh
         let lost := match s.rc.clients with
           | [(_, c)] =>
             if restart = true ∧ c.serving = n ∧ (c.role = .remote ∨ c.role = .claiming ∨ c.role = .expecting) then
               offerEvent (stamp (.orphaned c.addr n) s) s.ml
             else if restart = true ∧ c.role = .handing ∧ c.claimant = some n then
               offerEvent (stamp (.steerFailed c.addr n true) s) s.ml
             else s.ml
           | _ => s.ml
         let period := raised (b.period != s.sl.params.pulsePeriod && !p.mismatch) (.periodMismatch n b.period)
           (raised (p.state == .silent) (.peerJoined n) lost)
         let far := decide (120000 <
           weekDistance (weekMilli s.su.clock.minute s.su.clock.milli) (weekMilli b.minute b.milli))
         let blocks := present = true ∧
           (b.draining = true ∨ b.leaving = true ∨ (n < s.sl.params.node ∧ b.drainWanted = true))
         let yields := present = true ∧ n < s.sl.params.node ∧ b.draining = true;
         imageTaken present b s t.ie ∧ t.ie.strikes = s.ie.strikes ∧ t.ie.skips = s.ie.skips ∧
         (discovered present b s = false → fetchesFailedBack (fun k => restart && k == n) s t) ∧
         (restart = false ∨ s.rc.clients.length ≤ 1 → acDraining s = false →
           s.ml.state ≠ .pending ∨ discovered present b s = false →
           (b.grade ≠ .set → t.ml = imageNoted n present b s s period) ∧
           (b.grade = .set → s.su.clock.grade ≠ .unset →
             t.ml = imageNoted n present b s s (raised (far && !p.skew) (.timeSkew n b.minute b.milli) period)) ∧
           (b.grade = .set → s.su.clock.grade = .unset → s.rc.clients = [] → s.su.profiles = [] →
             t.su.clock = { grade := .borrowed, minute := b.minute, milli := b.milli, sub := 0 } ∧
             t.ml = imageNoted n present b s t (offerEvent (stamp (.timeBorrowed n) t) period))) ∧
         (imageDue s = true →
           (s.ac.state = .wanting → t.ac = if activationOk t then
               { s.ac with count := if blocks then 0 else s.ac.count } else { s.ac with state := .waiting, count := 0 }) ∧
           (s.ac.state = .draining → yields → t.rc.offers = [] ∧ t.rc.lapsed = [] ∧ t.ac = { s.ac with
             state := if activationOk t then .wanting else .waiting, count := 0, drainTimer := none, lapseTimer := none }) ∧
           (s.ac.state = .draining → ¬ yields → servedCount s ≠ 0 → t.ac = s.ac))))

/-- A served-here listing of an unknown client is learned as REMOTE, with eviction in a full table; one of a known
client acts by Table 2-3 (R5, R23, R25, R27, R28, R29, R30, R34, R47). The offers of a DRAINING node are those R62 has
it make; the order of a step's work is the model's (assumption log 33), and so is that an evicted entry's offer and
lapsed record go with it (log 21). -/
def Obligations.SightingOfUnknownClient : Prop :=
  (∀ (f : MeshFrame) (p : Peer) (e : Listing) (s : State), delivered 2 f p (.sighting [e]) s → txWaits s = true →
    acDraining s = false → isGroup e.addr = false → findClient s e.addr = none →
    (e.servedHere = false → exec (.sightingReceive f) s = .next { s with bu := seqTaken f p s.bu }) ∧
    (∀ i, e.servedHere = true → e.tenure ≠ 0#16 → tabFree s.rc.clients 256 = some i →
      exec (.sightingReceive f) s = .next { s with
        bu := seqTaken f p s.bu
        rc := { s.rc with
          clients := tabSet s.rc.clients i
            { addr := e.addr, role := .remote, serving := f.source.toNat, tenure := e.tenure, average := none,
              best := some { node := f.source.toNat, value := e.reading, since := s.now },
              servingReading := some { value := e.reading, since := s.now },
              better := 0, claimNo := none, claimant := none, timer := none, holddownEnds := 0,
              profile := s.sl.params.pendingProfile, given := false, day := s.su.clock.minute / 1440, used := 0, extra := 0,
              drawn := 0, active := false, verdict := none, games := 0, lastActivity := s.now, refusal := none } } })) ∧
  (∀ (f : MeshFrame) (p : Peer) (e : Listing) (s : State), delivered 2 f p (.sighting [e]) s → txWaits s = true →
    acDraining s = false → isGroup e.addr = false → findClient s e.addr = none → e.servedHere = true →
    e.tenure ≠ 0#16 → tabFree s.rc.clients 256 = none → tabSorted s.rc.clients = true →
    ((∀ i c, clientAt s i = some c → c.role ≠ .departed ∧ c.role ≠ .orphan) →
      exec (.sightingReceive f) s = .next { s with bu := seqTaken f p s.bu }) ∧
    (∀ i c, clientAt s i = some c →
      c.role = .departed ∨ (c.role = .orphan ∧ ∀ j k, clientAt s j = some k → k.role ≠ .departed) →
      (∀ j k, clientAt s j = some k → k.role = c.role →
        c.lastActivity < k.lastActivity ∨ (c.lastActivity = k.lastActivity ∧ i ≤ j)) →
      let games := s.fc.gameCount - (s.fc.flows.countP (fun q => q.2.client == i && q.2.cls == .game));
      exec (.sightingReceive f) s = .next { s with
        bu := seqTaken f p s.bu
        fc := { s.fc with
          flows := s.fc.flows.filter (fun q => q.2.client != i)
          gameCount := games
          quietSince := if 0 < s.fc.gameCount ∧ games = 0 then some s.now else s.fc.quietSince }
        rc := { s.rc with
          offers := s.rc.offers.filter (fun o => o.client != i)
          lapsed := tabErase s.rc.lapsed i
          clients := tabSet s.rc.clients i
            { addr := e.addr, role := .remote, serving := f.source.toNat, tenure := e.tenure, average := none,
              best := some { node := f.source.toNat, value := e.reading, since := s.now },
              servingReading := some { value := e.reading, since := s.now },
              better := 0, claimNo := none, claimant := none, timer := none, holddownEnds := 0,
              profile := s.sl.params.pendingProfile, given := false, day := s.su.clock.minute / 1440, used := 0, extra := 0,
              drawn := 0, active := false, verdict := none, games := 0, lastActivity := s.now, refusal := none } } })) ∧
  (∀ (f : MeshFrame) (p : Peer) (e : Listing) (i : Nat) (c : Client) (s : State), delivered 2 f p (.sighting [e]) s →
    txWaits s = true → (acDraining s = true → servedCount s ≠ 0) → e.servedHere = false ∨ e.tenure ≠ 0#16 →
    entryOf s e.addr i c → e.servedHere = false ∨ (c.role ≠ .served ∧ c.role ≠ .handing) →
    let n := f.source.toNat
    let r := readEntry n e.reading s.now (listedEntry n e c)
    let turned := e.servedHere = true ∧ (c.role = .orphan ∨ c.role = .departed);
    r.role ≠ .remote ∨ r.serving ≠ n ∨ r.average = none →
    ∃ t, exec (.sightingReceive f) s = .next t ∧
      t = { s with
        bu := { seqTaken f p s.bu with control := t.bu.control }
        rc := { s.rc with
          clients := tabSet s.rc.clients i { r with better := if r.role = .remote ∧ r.serving = n then 0 else r.better }
          offers := t.rc.offers } } ∧
      (acDraining s = false → t.bu.control = s.bu.control ∧
        t.rc.offers = if turned then s.rc.offers.filter (fun o => o.client != i) else s.rc.offers)) ∧
  (∀ (f g h : MeshFrame) (p : Peer) (a b : List Listing) (s : State), delivered 2 f p (.sighting (a ++ b)) s →
    txWaits s = true → readBody 2 g = some (.sighting a) → readBody 2 h = some (.sighting b) →
    g = { f with bodyLen := g.bodyLen, bytes := g.bytes } → h = { f with bodyLen := h.bodyLen, bytes := h.bytes } →
    ∃ u, exec (.sightingReceive g) s = .next u ∧
      exec (.sightingReceive f) s =
        exec (.sightingReceive h) { u with bu := { u.bu with peers := s.bu.peers } }) ∧
  (∀ (f : MeshFrame) (p : Peer) (es : List Listing) (s : State), delivered 2 f p (.sighting es) s → txWaits s = true →
    (∀ e ∈ es, isGroup e.addr = true ∨ (e.servedHere = true ∧ e.tenure = 0#16)) →
    exec (.sightingReceive f) s = .next { s with bu := seqTaken f p s.bu })

/-- A served-here listing of a client served here is settled by tenure, then by node number; the loser yields (R61,
R59, R44, R29). -/
def Obligations.DoubleServeSettledByTenure : Prop :=
  ∀ (f : MeshFrame) (p : Peer) (e : Listing) (i : Nat) (c : Client) (s : State),
    delivered 2 f p (.sighting [e]) s → txWaits s = true → acDraining s = false → e.servedHere = true → e.tenure ≠ 0#16 →
    entryOf s e.addr i c → c.role = .served ∨ c.role = .handing → c.serving ≠ f.source.toNat →
    (1 ≤ s.sl.params.holddown ∨ 2 ≤ s.sl.params.k) →
    (newer e.tenure c.tenure = true ∨
        (newer c.tenure e.tenure = false ∧ f.source.toNat < s.sl.params.node) →
      ∃ t o, exec (.sightingReceive f) s = .next t ∧ clientAt t i = some o ∧ o.addr = c.addr ∧ o.role = .remote ∧
        o.serving = f.source.toNat ∧ o.tenure = e.tenure ∧
        o.holddownEnds = s.now + s.sl.params.holddown * 1000000000 ∧ o.verdict = none ∧ o.claimNo = none ∧
        o.claimant = none ∧ o.active = false ∧ o.best = (readEntry f.source.toNat e.reading s.now c).best ∧
        o.servingReading = some { value := e.reading, since := s.now } ∧
        t.bu.control = joinControl (.bulletin f.source.toNat
          (.context c.addr e.tenure c.profile c.day c.used c.extra)) s.bu.control ∧
        t.ml = offerEvent (stamp (.doubleServe c.addr f.source.toNat e.tenure c.tenure) s) s.ml ∧
        t.fc = s.fc ∧ t.es = s.es ∧ t.su = s.su ∧ t.flash = s.flash) ∧
    (newer e.tenure c.tenure = false → newer c.tenure e.tenure = true ∨ s.sl.params.node ≤ f.source.toNat →
      ∃ t o, exec (.sightingReceive f) s = .next t ∧ clientAt t i = some o ∧ o = readEntry f.source.toNat e.reading s.now c ∧ o.role = c.role ∧ o.serving = c.serving ∧
        o.tenure = c.tenure ∧ o.verdict = c.verdict ∧ t.bu = seqTaken f p s.bu ∧ t.ml = s.ml ∧ t.fc = s.fc ∧
        t.es = s.es ∧ t.su = s.su ∧ t.flash = s.flash)

/-- A SIGHTING that brings the better count to K, or an OFFER, sends a claim; a SIGHTING below the margin sets the
count to 0 (R24, R28, R29, R45, R46, R47, R48, R64). The offers of a DRAINING node are those R62 has it make; the
order of a step's work is the model's (assumption log 33). -/
def Obligations.ClaimsAreSent : Prop :=
  (∀ (f : MeshFrame) (p : Peer) (e : Listing) (i : Nat) (c : Client) (a : Signal) (s : State),
    delivered 2 f p (.sighting [e]) s → txWaits s = true → (acDraining s = true → servedCount s ≠ 0) →
    e.servedHere = false ∨ (e.tenure ≠ 0#16 ∧ c.role ≠ .served ∧ c.role ≠ .handing) → entryOf s e.addr i c →
    let n := f.source.toNat
    let r := readEntry n e.reading s.now (listedEntry n e c)
    let turned := e.servedHere = true ∧ (c.role = .orphan ∨ c.role = .departed)
    let offers := if turned then s.rc.offers.filter (fun o => o.client != i) else s.rc.offers
    let counted := fun (better : Nat) (t : State) =>
      t = { s with
        bu := { seqTaken f p s.bu with control := t.bu.control }
        rc := { s.rc with clients := tabSet s.rc.clients i { r with better := better }, offers := t.rc.offers } } ∧
      (acDraining s = false → t.bu.control = s.bu.control ∧ t.rc.offers = offers);
    r.role = .remote → r.serving = n → r.average = some a →
    (a.value - e.reading < 4 * (s.sl.params.margin : Int) →
      ∃ t, exec (.sightingReceive f) s = .next t ∧ counted 0 t) ∧
    (4 * (s.sl.params.margin : Int) ≤ a.value - e.reading →
      min (r.better + 1) 7 < s.sl.params.k ∨ s.sl.params.h ≤ servedCount s ∨ acBusy s = true ∨ s.now < c.holddownEnds ∨
        p.state ≠ .present ∨ p.adv.draining = true ∨ p.adv.leaving = true →
      ∃ t, exec (.sightingReceive f) s = .next t ∧ counted (min (r.better + 1) 7) t) ∧
    (4 * (s.sl.params.margin : Int) ≤ a.value - e.reading →
      s.sl.params.k ≤ min (r.better + 1) 7 → servedCount s < s.sl.params.h → acBusy s = false →
      c.holddownEnds ≤ s.now → p.state = .present → p.adv.draining = false → p.adv.leaving = false →
      exec (.sightingReceive f) s = .next { s with
        bu := { seqTaken f p s.bu with
          control := joinControl (.bulletin n (.claim c.addr s.rc.claimCounter a.value)) s.bu.control }
        rc := { s.rc with
          claimCounter := s.rc.claimCounter + 1
          offers := s.rc.offers.filter (fun o => o.client != i)
          clients := tabSet s.rc.clients i { r with
            role := .claiming, timer := some (s.now + 300000000), claimNo := some s.rc.claimCounter
            claimant := none, verdict := none, better := 0, refusal := none } } })) ∧
  (∀ (f : MeshFrame) (p : Peer) (a : Addr) (s : State), delivered 9 f p (.offer a) s → txWaits s = true →
    (findClient s a = none → exec (.offerReceive f) s = .next { s with bu := seqTaken f p s.bu }) ∧
    (∀ i c, entryOf s a i c →
      (c.role ≠ .remote ∨ c.serving ≠ f.source.toNat ∨ c.average = none ∨ s.sl.params.h ≤ servedCount s ∨
        acBusy s = true → exec (.offerReceive f) s = .next { s with bu := seqTaken f p s.bu }) ∧
      (∀ v, c.role = .remote → c.serving = f.source.toNat → c.average = some v → servedCount s < s.sl.params.h →
        acBusy s = false →
        exec (.offerReceive f) s = .next { s with
          bu := { seqTaken f p s.bu with
            control := joinControl (.bulletin f.source.toNat
              (.claim c.addr s.rc.claimCounter v.value)) s.bu.control }
          rc := { s.rc with
            clients := tabSet s.rc.clients i { c with
              role := .claiming, timer := some (s.now + 300000000), lastActivity := s.now
              claimNo := some s.rc.claimCounter, claimant := none, verdict := none, better := 0, refusal := none }
            claimCounter := s.rc.claimCounter + 1
            offers := s.rc.offers.filter (fun o => o.client != i) } })))

/-- A CLAIM is refused with the reason of its row or granted, and a DRAINING node passes over holddown and reading
(R44, R49, R50, R62). -/
def Obligations.ClaimAnsweredByTable31OrDraining : Prop :=
  (∀ (f : MeshFrame) (p : Peer) (a : Addr) (number : BitVec 16) (reading : Int) (s : State),
    delivered 3 f p (.claim a number reading) s → txWaits s = true → acDraining s = false → s.rc.offers = [] →
    let refused := fun r : Nat => Host.Outcome.next (φ := Fault) (ρ := Refusal) { s with
      bu := { seqTaken f p s.bu with
        control := joinControl (.bulletin f.source.toNat (.refuse a number r)) s.bu.control } };
          (findClient s a = none → exec (.claimReceive f) s = refused 1) ∧
    (∀ i c, entryOf s a i c →
      (c.role ≠ .served → c.role ≠ .handing → exec (.claimReceive f) s = refused 1) ∧
      (c.role = .handing → exec (.claimReceive f) s = refused 2) ∧
      (c.role = .served → s.now < c.holddownEnds → exec (.claimReceive f) s = refused 3) ∧
      (∀ v, c.role = .served → c.holddownEnds ≤ s.now → c.average = some v →
        reading - v.value < 4 * (s.sl.params.margin : Int) → exec (.claimReceive f) s = refused 4) ∧
      (c.role = .served → c.holddownEnds ≤ s.now →
        (∀ v, c.average = some v → 4 * (s.sl.params.margin : Int) ≤ reading - v.value) →
        (p.adv.draining = true ∨ p.adv.leaving = true → exec (.claimReceive f) s = refused 5) ∧
        (p.adv.draining = false → p.adv.leaving = false →
          exec (.claimReceive f) s = .next { s with
            bu := { seqTaken f p s.bu with
              control := joinControl (.bulletin f.source.toNat (.grant a number)) s.bu.control }
            rc := { s.rc with
              clients := tabSet s.rc.clients i { c with
                role := .handing, claimNo := some number, claimant := some f.source.toNat
                timer := some (s.now + s.sl.params.handWait * 1000000000), lastActivity := s.now } }
            ml := offerEvent (stamp (.steer a f.source.toNat number) s) s.ml })))) ∧
  (∀ (f : MeshFrame) (p : Peer) (a : Addr) (number : BitVec 16) (reading : Int) (i : Nat) (c : Client) (s : State),
    delivered 3 f p (.claim a number reading) s → txWaits s = true → acDraining s = true → entryOf s a i c →
    c.role = .served → p.adv.draining = false → p.adv.leaving = false →
    ∃ t o, exec (.claimReceive f) s = .next t ∧ clientAt t i = some o ∧ o.role = .handing ∧
      o.claimNo = some number ∧ o.claimant = some f.source.toNat ∧
      o.timer = some (s.now + s.sl.params.handWait * 1000000000) ∧ t.ac = s.ac ∧ t.es = s.es ∧ t.fc = s.fc ∧
      t.ml = offerEvent (stamp (.steer a f.source.toNat number) s) s.ml)

/-- GRANT makes a claim EXPECTING or is withdrawn; REFUSE returns it to REMOTE; WITHDRAW returns HANDING to SERVED
(R34, R44, R45, R51, R54, R55). A reason code outside Table 1-9 is kept as it is received: the model's reading
(assumption log 19). -/
def Obligations.AnswersToClaimsAreTaken : Prop :=
  (∀ (f : MeshFrame) (p : Peer) (a : Addr) (number : BitVec 16) (s : State),
    delivered 4 f p (.grant a number) s → txWaits s = true →
    let withdrawn := Host.Outcome.next (φ := Fault) (ρ := Refusal) { s with
      bu := { seqTaken f p s.bu with
        control := joinControl (.bulletin f.source.toNat (.withdraw a number)) s.bu.control } };
          (findClient s a = none → exec (.grantReceive f) s = withdrawn) ∧
    (∀ i c, entryOf s a i c →
      (c.role ≠ .claiming → c.role ≠ .expecting → exec (.grantReceive f) s = withdrawn) ∧
      (c.claimNo ≠ some number ∨ c.serving ≠ f.source.toNat → exec (.grantReceive f) s = withdrawn) ∧
      (c.role = .expecting → c.claimNo = some number → c.serving = f.source.toNat →
        exec (.grantReceive f) s = .next { s with bu := seqTaken f p s.bu }) ∧
      (c.role = .claiming → c.claimNo = some number → c.serving = f.source.toNat →
        exec (.grantReceive f) s = .next { s with
          bu := seqTaken f p s.bu
          rc := { s.rc with
            clients := tabSet s.rc.clients i { c with
              role := .expecting, timer := some (s.now + s.sl.params.handWait * 1000000000), lastActivity := s.now
              claimant := none, verdict := none }
            offers := s.rc.offers.filter (fun o => o.client != i) } }))) ∧
  ((∀ (f : MeshFrame) (p : Peer) (a : Addr) (number : BitVec 16) (reason : Nat) (s : State),
    delivered 5 f p (.refuse a number reason) s →
    (findClient s a = none → exec (.refuseReceive f) s = .next { s with bu := seqTaken f p s.bu }) ∧
    (∀ i c, entryOf s a i c →
      (c.role ≠ .claiming ∨ c.claimNo ≠ some number ∨ c.serving ≠ f.source.toNat →
        exec (.refuseReceive f) s = .next { s with bu := seqTaken f p s.bu }) ∧
      (c.role = .claiming → c.claimNo = some number → c.serving = f.source.toNat →
        exec (.refuseReceive f) s = .next { s with
          bu := seqTaken f p s.bu
          rc := { s.rc with
            clients := tabSet s.rc.clients i { c with
              role := .remote, timer := none, lastActivity := s.now, claimNo := none, claimant := none, verdict := none
              holddownEnds := s.now + s.sl.params.holddown * 1000000000, refusal := some reason }
            offers := s.rc.offers.filter (fun o => o.client != i) } }))) ∧
  (∀ (f : MeshFrame) (p : Peer) (a : Addr) (number : BitVec 16) (s : State),
    delivered 6 f p (.withdraw a number) s → txWaits s = true →
    (findClient s a = none → exec (.withdrawReceive f) s = .next { s with bu := seqTaken f p s.bu }) ∧
    (∀ i c, entryOf s a i c →
      (c.role ≠ .handing ∨ c.claimNo ≠ some number ∨ c.claimant ≠ some f.source.toNat →
        exec (.withdrawReceive f) s = .next { s with bu := seqTaken f p s.bu }) ∧
      (c.role = .handing → c.claimNo = some number → c.claimant = some f.source.toNat →
        ∃ t, exec (.withdrawReceive f) s = .next t ∧
          clientAt t i = some { c with
            role := .served, timer := none, lastActivity := s.now, claimNo := none, claimant := none } ∧
          t.ml = offerEvent (stamp (.steerCancelled a f.source.toNat) s) s.ml ∧
          (acDraining s = false → t = { s with
            bu := seqTaken f p s.bu
            rc := { s.rc with
              clients := tabSet s.rc.clients i { c with
                role := .served, timer := none, lastActivity := s.now, claimNo := none, claimant := none } }
            ml := t.ml })))))

/-- An ARRIVED makes the client REMOTE under its source; a node that served it sends CONTEXT and sets the holddown,
and the last one ends a drain (R44, R58, R59, R62, R63, R163). Rests also on R24, R29, R34 and R47. -/
def Obligations.ArrivedMovesClient : Prop :=
  ∀ (f : MeshFrame) (p : Peer) (a : Addr) (tenure : BitVec 16) (s : State),
    delivered 7 f p (.arrived a tenure) s → txWaits s = true →
    (findClient s a = none → exec (.arrivedReceive f) s = .next { s with bu := seqTaken f p s.bu }) ∧
    (∀ i c, entryOf s a i c →
      let moved : Client := { c with
        role := .remote, serving := f.source.toNat, tenure := tenure, timer := none, lastActivity := s.now
        claimNo := none, claimant := none, verdict := none, active := false
        servingReading := if c.serving = f.source.toNat then c.servingReading else none
        better := if c.serving = f.source.toNat then c.better else 0
        holddownEnds := s.now + s.sl.params.holddown * 1000000000 }
      let context := Control.bulletin f.source.toNat (.context c.addr tenure c.profile c.day c.used c.extra)
      let arrived := offerEvent (stamp (.clientArrived c.addr f.source.toNat tenure) s) s.ml;
      (c.role = .served ∨ c.role = .handing → acDraining s = false →
        exec (.arrivedReceive f) s = .next { s with
          bu := { seqTaken f p s.bu with control := joinControl context s.bu.control }
          rc := { s.rc with
            clients := tabSet s.rc.clients i moved, offers := s.rc.offers.filter (fun o => o.client != i) }
          ml := arrived }) ∧
      (c.role = .served ∨ c.role = .handing → acDraining s = true → servedCount s = 1 → tabSorted s.rc.clients = true →
        ∀ d, s.ie.incDesc = some d →
        exec (.arrivedReceive f) s = .next { s with
          bu := { seqTaken f p s.bu with control := joinControl context s.bu.control }
          rc := { s.rc with clients := tabSet s.rc.clients i moved, offers := [], lapsed := [] }
          ac := { s.ac with state := .leaving, drainTimer := none, lapseTimer := some (s.now + 600000000000) }
          ml := offerEvent (stamp (.readyToRestart d.number 0 false) s) arrived }) ∧
      (c.role = .served ∨ c.role = .handing → acDraining s = true → 2 ≤ servedCount s → tabSorted s.rc.clients = true →
        ∃ (t : State) (offered : List Offer), exec (.arrivedReceive f) s = .next t ∧
          t.rc = { s.rc with
            clients := tabSet s.rc.clients i moved
            offers := s.rc.offers.filter (fun o => o.client != i) ++ offered } ∧
          (∀ o ∈ offered, o.client ≠ i ∧ o.ends = s.now + 300000000 ∧
            ∃ e r, clientAt s o.client = some e ∧ e.role = .served ∧ e.best = some r ∧ r.node = o.node) ∧
          t.ac = s.ac ∧ t.ml = arrived ∧ t = { s with rc := t.rc, ml := t.ml, bu := { seqTaken f p s.bu with
            control := t.bu.control } }) ∧
      (c.role ≠ .served → c.role ≠ .handing → acDraining s = false ∨ servedCount s ≠ 0 →
        let learned : Client := { c with
          role := .remote, serving := f.source.toNat, tenure := tenure, lastActivity := s.now
          servingReading := if c.serving = f.source.toNat then c.servingReading else none
          better := if c.serving = f.source.toNat then c.better else 0 }
        let entry : Client := if c.role = .remote then learned
          else { learned with timer := none, claimNo := none, claimant := none, verdict := none }
        let kept := if c.role = .remote then s.rc.offers else s.rc.offers.filter (fun o => o.client != i);
        ∃ t, exec (.arrivedReceive f) s = .next t ∧
          t = { s with
            bu := { seqTaken f p s.bu with control := t.bu.control }
            rc := { s.rc with clients := tabSet s.rc.clients i entry, offers := t.rc.offers } } ∧
          clientAt t i = some entry ∧ (∀ j, j ≠ i → clientAt t j = clientAt s j) ∧
          kept <+: t.rc.offers ∧
          (acDraining s = false → t.bu.control = s.bu.control ∧ t.rc.offers = kept)))

/-- A CONTEXT of the entry's tenure sums the used minutes and takes the extra minutes less those drawn here (R60, R76,
R129, R132). -/
def Obligations.ContextMergesCounters : Prop :=
  ∀ (f : MeshFrame) (p : Peer) (a : Addr) (tenure : BitVec 16) (profile day used extra : Nat) (s : State),
    delivered 8 f p (.context a tenure profile day used extra) s →
    (findClient s a = none → exec (.contextReceive f) s = .next { s with bu := seqTaken f p s.bu }) ∧
    (∀ i c, entryOf s a i c →
      (isServing c.role = false ∨ tenure ≠ c.tenure ∨ 15 < profile ∨ 6 < day ∨ 1440 < used ∨ 240 < extra →
        exec (.contextReceive f) s = .next { s with bu := seqTaken f p s.bu }) ∧
      (isServing c.role = true → tenure = c.tenure → profile ≤ 15 → day ≤ 6 → used ≤ 1440 → extra ≤ 240 →
        let o := { c with
          profile := if c.given then c.profile else profile
          used := if day = c.day then min (used + c.used) 1440 else c.used
          extra := if day = c.day then extra - c.drawn else c.extra }
        let newly := (blockCause s o).isSome && c.verdict != some .blocked
        ∃ t, exec (.contextReceive f) s = .next t ∧
          clientAt t i = some { o with
            verdict := some (if (blockCause s o).isSome then .blocked else .allowed)
            games := if newly then 0 else c.games } ∧
          (∀ j, j ≠ i → clientAt t j = clientAt s j) ∧
          t.fc.flows = (if newly then s.fc.flows.filter (fun e => e.2.client != i) else s.fc.flows) ∧
          (newly = false → t.fc = s.fc) ∧
          t.ml = (match blockCause s o with
            | some k => if newly then offerEvent (stamp (.clientBlocked a o.profile k) s) s.ml else s.ml
            | none => if c.verdict = some .blocked then offerEvent (stamp (.clientAllowed a o.profile) s) s.ml else s.ml) ∧
          t = { s with
            bu := seqTaken f p s.bu
            rc := { s.rc with clients := t.rc.clients }
            fc := { s.fc with flows := t.fc.flows, gameCount := t.fc.gameCount, quietSince := t.fc.quietSince }
            ml := t.ml }))

/-- A carried frame for this node goes to the node side, on to the client's node once, to the uplink side, or nowhere
(R8, R34, R40, R41, R79, R81, R102). The model's reading (assumption log 20): a BLOCKED client's frame and one
delivered as uplink traffic set the last activity of the destination address's entry, and no frame sets that of a
source entry. -/
def Obligations.CarriedFrameGoesByRole : Prop :=
  ∀ (f : CarriedFrame) (p : Peer) (cls : Sys2Proof.Machine.Class) (s : State), live s = true → txWaits s = true →
    s.es.nodeTx.isSome = true → fromMesh f.frameType f.meshTag f.source f.dest s = true →
    peerOf s f.source.toNat = some p → p.addr = f.srcAddr → f.dest.toNat = s.sl.params.node →
    carrierClass f.cls = some cls → 14 ≤ f.frameLen.toNat → f.frameLen.toNat ≤ 1536 →
    f.frameLen.toNat ≤ f.bytes.length →
    let frame := f.bytes.take f.frameLen.toNat
    let up := if s.sl.params.uplink
      then (admitFrame s.sl.params .node (mkEntry f.frameLen.toNat cls (.nodeSide false frame)) s.es).1 else s.es
    let down := admitFrame s.sl.params .node (mkEntry f.frameLen.toNat cls (.nodeSide true frame)) s.es
    (findClient s (addrAt 0 frame) = none → exec (.carriedFrameReceive f) s = .next { s with es := up }) ∧
    (∀ i c, entryOf s (addrAt 0 frame) i c →
      let seen := { s.rc with clients := tabSet s.rc.clients i { c with lastActivity := s.now } }
      let on := admitFrame s.sl.params (queueName cls) (mkEntry f.frameLen.toNat cls (.carried c.serving true frame)) s.es
      (isServing c.role = true → c.verdict = some .blocked →
        exec (.carriedFrameReceive f) s = .next { s with rc := seen }) ∧
      (isServing c.role = true → c.verdict ≠ some .blocked →
        exec (.carriedFrameReceive f) s = .next { s with
          es := down.1
          rc := { s.rc with
            clients := tabSet s.rc.clients i { c with lastActivity := s.now, active := c.active || down.2 } } }) ∧
              (c.role = .remote ∨ c.role = .claiming ∨ c.role = .expecting → f.flags.getLsbD 0 = true →
        exec (.carriedFrameReceive f) s = .next { s with rc := seen }) ∧
      (c.role = .remote ∨ c.role = .claiming ∨ c.role = .expecting → f.flags.getLsbD 0 = false →
        exec (.carriedFrameReceive f) s = .next { s with
          es := on.1
          rc := seen
          fc := if on.2 then { s.fc with
              arrivals := s.fc.arrivals.put cls (min (s.fc.arrivals.at cls + f.frameLen.toNat) 16777215) }
            else s.fc }) ∧
      (c.role = .orphan ∨ c.role = .departed →
        exec (.carriedFrameReceive f) s = .next { s with es := up, rc := seen }))

/-- A pause frame puts a pause in force for its time, replacing one in force; a time of 0 or its expiry ends it (R106,
R110). The model's own: PAUSE_EXPIRY with no pause in force changes nothing (assumption log 8), and it brings time to
the pause's end (log 7); a frame takes its bytes at the strapped rate (log 40). -/
def Obligations.PauseHoldsTheTransmitter : Prop :=
  let takes := fun (u : State) (x : Host.Outcome State Fault Refusal) =>
    (∀ target b r, u.bu.control = .bulletin target b :: r →
      let bytes := bulletinBytes u.sl.params target u.bu.seq b
      x = .next { u with
        bu := { u.bu with
          control := r
          seq := if u.bu.seq = 65535#16 then 1#16 else u.bu.seq + 1 }
        es := { u.es with
          backhaulTx := some { bytes := bytes, ends := u.now + bytes.length * (if u.pins.straps.bhFast then 8 else 80) } } }) ∧
    (u.bu.control = [] → u.es.game = [] → u.es.standard = [] → u.es.bulk = [] → u.es.update = [] → x = .next u)
  (∀ (f : PauseFrame) (s : State), alive s = true →
    (f.dst ≠ 0x0180C2000001#48 ∨ f.opcode ≠ 1#16 → exec (.pauseFrameReceive f) s = .next s) ∧
    (f.dst = 0x0180C2000001#48 → f.opcode = 1#16 → f.time ≠ 0#16 →
      exec (.pauseFrameReceive f) s = .next { s with
        es := { s.es with pause := some (s.now + f.time.toNat * (if s.pins.straps.bhFast then 512 else 5120)) } }) ∧
    (f.dst = 0x0180C2000001#48 → f.opcode = 1#16 → f.time = 0#16 →
      let u := { s with es := { s.es with pause := none } };
      (s.es.backhaulTx.isSome = true ∨ s.sl.part ≠ .running ∨ s.es.pause = none →
        exec (.pauseFrameReceive f) s = .next u) ∧
      (s.es.backhaulTx = none → s.sl.part = .running → s.es.pause.isSome = true →
        takes u (exec (.pauseFrameReceive f) s)))) ∧
  (∀ s : State, alive s = true →
    (s.es.pause = none → exec .pauseExpiry s = .next s) ∧
    (∀ d, s.es.pause = some d →
      let u := { runTo d s with es := { s.es with pause := none } };
      (s.es.backhaulTx.isSome = true ∨ s.sl.part ≠ .running → exec .pauseExpiry s = .next u) ∧
      (s.es.backhaulTx = none → s.sl.part = .running → takes u (exec .pauseExpiry s))))

/-- A FETCH of a servable image joins the serve queue; one outside the image, repeated, or met by a full queue is
dropped (R147, R148). -/
def Obligations.FetchJoinsServeQueue : Prop :=
  ∀ (f : MeshFrame) (p : Peer) (image first count : Nat) (number : BitVec 16) (s : State),
    delivered 10 f p (.fetch image first count number) s →
    let active := fun d : Desc => s.ie.activeDesc = some d ∧ 0 < d.number ∧ d.number = image
    let ready := fun d : Desc => (∀ a, ¬ active a) ∧ s.ie.inc = .ready ∧ s.ie.incDesc = some d ∧ d.number = image
    ((∀ d, ¬ active d ∧ ¬ ready d) → exec (.fetchReceive f) s = .next { s with bu := seqTaken f p s.bu }) ∧
    (∀ d, active d ∨ ready d →
      servable s image = some (if active d then (s.ie.activeSlot, s.ie.activeRemap, d)
        else (otherSlot s.ie.activeSlot, s.ie.incRemap, d)) ∧
      (count = 0 ∨ 8 < count ∨ (d.length + 1023) / 1024 < first + count ∨ 8 ≤ s.ie.serves.length ∨
        (∃ e ∈ s.ie.serves, e.requester = f.source.toNat ∧ e.image = image ∧ e.first = first ∧ e.count = count) →
        exec (.fetchReceive f) s = .next { s with bu := seqTaken f p s.bu }) ∧
      (1 ≤ count → count ≤ 8 → first + count ≤ (d.length + 1023) / 1024 → s.ie.serves.length < 8 →
        (∀ e ∈ s.ie.serves, ¬ (e.requester = f.source.toNat ∧ e.image = image ∧ e.first = first ∧ e.count = count)) →
        s.ie.op.isSome = true →
        exec (.fetchReceive f) s = .next { s with
          bu := seqTaken f p s.bu
          ie := { s.ie with serves := s.ie.serves ++
            [{ requester := f.source.toNat, image := image, first := first, count := count, number := number,
               sent := 0 }] } }))

/-- A CHUNK that passes the acceptance checks joins the program queue, any other is dropped; it is counted for its
fetch, which may leave the list (R145, R146, R149). -/
def Obligations.ChunkAcceptedIntoProgramQueue : Prop :=
  ∀ (f : MeshFrame) (p : Peer) (image index : Nat) (number : BitVec 16) (position crc : Nat) (data : List Byte)
    (s : State), delivered 11 f p (.chunk image index number position crc data) s → txWaits s = true →
    ∃ t, exec (.chunkReceive f) s = .next t ∧ t.flash = s.flash ∧ t.rc = s.rc ∧ t.fc = s.fc ∧ t.es = s.es ∧
      t.ml = s.ml ∧ t.su = s.su ∧ t.ac = s.ac ∧ t.ie.inc = s.ie.inc ∧ t.ie.incDesc = s.ie.incDesc ∧
      (∀ d, s.ie.inc = .filling → s.ie.incDesc = some d → image = d.number → index < chunkCount d.length →
        data.length = chunkBytes d.length index → crc32 data = crc →
        tabGet s.ie.presence index = none ∨ tabGet s.ie.presence index = some .requested →
        s.pins.supplyFail = false → s.ie.progs.length < 4 →
        t.ie.progs = s.ie.progs ++ [{ index := index, data := data, host := false }] ∧
        tabGet t.ie.presence index = some .awaiting) ∧
      (s.ie.inc ≠ .filling ∨ s.ie.incDesc = none ∨
        (∃ d, s.ie.incDesc = some d ∧ (image ≠ d.number ∨ chunkCount d.length ≤ index ∨
          data.length ≠ chunkBytes d.length index)) ∨ crc32 data ≠ crc ∨
        tabGet s.ie.presence index = some .awaiting ∨ tabGet s.ie.presence index = some .present ∨
        s.pins.supplyFail = true ∨ 4 ≤ s.ie.progs.length → t.ie.progs = s.ie.progs) ∧
      (let n := f.source.toNat
       let run := fun (g : Fetch) (k : Nat) => g.first ≤ k ∧ k < g.first + g.count
       let mine := fun g : Fetch => g.peer = n ∧ g.number = number ∧ run g index
       let right := s.ie.inc = .filling ∧ (∃ d, s.ie.incDesc = some d ∧ image = d.number ∧ index < chunkCount d.length ∧
         data.length = chunkBytes d.length index) ∧ crc32 data = crc
       let held := tabGet s.ie.presence index = some .awaiting ∨ tabGet s.ie.presence index = some .present
       let taken := right ∧ ¬ held ∧ s.pins.supplyFail = false ∧ s.ie.progs.length < 4
       let after := fun (kept : List Fetch) (missing : Nat → Prop) (strikes : Table Nat) =>
         let more := t.ie.fetches.drop kept.length
         let base := fun (k : Nat) (x : Option ChunkState) =>
           (k = index ∧ taken → x = some .awaiting) ∧ (¬ (k = index ∧ taken) → missing k → x = none) ∧
           (¬ (k = index ∧ taken) → ¬ missing k → x = tabGet s.ie.presence k);
         t.ie.fetches = kept ++ more ∧ t.ie.strikes = strikes ∧ t.ie.skips = s.ie.skips ∧
         (s.pins.supplyFail = true → more = []) ∧
         (∀ g ∈ more, g.received = [] ∧ g.ends = s.now + 250000000) ∧
         (∀ k, base k (tabGet t.ie.presence k) ∨
           (base k none ∧ tabGet t.ie.presence k = some .requested ∧ ∃ g ∈ more, run g k));
       (s.ie.fetches.map Fetch.number).Nodup →
       ((∀ g ∈ s.ie.fetches, ¬ mine g) → after s.ie.fetches (fun _ => False) s.ie.strikes) ∧
       (∀ a g b, s.ie.fetches = a ++ g :: b → mine g →
         let received := g.received ++ (if index ∉ g.received ∧ right ∧ (held ∨ taken) then [index] else [])
         let returned := fun k : Nat => run g k ∧ k ∉ received ∧ tabGet s.ie.presence k = some .requested;
         (received.length = g.count → after (a ++ b) (fun _ => False) (tabErase s.ie.strikes n)) ∧
         (received.length ≠ g.count → position = 0 ∨ position = 3 → after (a ++ b) returned s.ie.strikes) ∧
         (received.length ≠ g.count → position ≠ 0 → position ≠ 3 →
           after (a ++ { g with received := received } :: b) (fun _ => False) s.ie.strikes)))

/-- A DATA item takes its flow's class or founds a flow by the rules, and its frame goes where R38 and R39 send it
(R35, R36, R38, R39, R69, R72, R73, R74, R78, R80, R81, R102). That a DATA item without an uplink and one of an ORPHAN
or DEPARTED subject set the last activity is the model's reading (assumption log 20). -/
def Obligations.DataItemClassifiedAndQueued : Prop :=
  (∀ (a : Addr) (s : State),
    (findClient s a = none → clientDest s a = .nowhere) ∧
    (∀ i c, findClient s a = some (i, c) →
      clientDest s a = if c.role = .served ∨ c.role = .handing then .nodeSide true
        else if c.role = .orphan ∨ c.role = .departed then .nowhere else .peer c.serving) ∧
    (let up := fun n : Nat => if n = s.sl.params.node then s.sl.params.uplink = true
       else ∃ p, peerOf s n = some p ∧ p.state = .present ∧ p.adv.uplink = true
     ((∀ n, 1 ≤ n → n ≤ 8 → ¬ up n) → uplinkDest s = .nowhere) ∧
     (∀ n, 1 ≤ n → n ≤ 8 → up n → (∀ m, 1 ≤ m → m < n → ¬ up m) →
       uplinkDest s = if n = s.sl.params.node then .nodeSide false else .peer n))) ∧
  (∀ (it : NodeItem) (s : State), alive s = true → s.sl.part ≠ .running ∨ dataItemOk it = false →
    exec (.nodePortData it) s = .next s) ∧
  (∀ (it : NodeItem) (s : State), live s = true →
    let done : TxFrame := { bytes := [], ends := s.now }
    let idle := s.es.backhaulTx = none ∧ s.es.pause = none ∧ s.bu.control = [] ∧
      ∀ c, s.es.queue (queueName c) = [] ∨ s.es.tokens.at c ≤ 0
    let free := s.es.nodeTx = none ∧ s.es.node = [];
    (idle → s.es.nodeTx.isSome = true →
      ∃ t, exec (.nodePortData it) { s with es := { s.es with backhaulTx := some done } } = .next t ∧
        exec (.nodePortData it) s = exec .backhaulTxDone t) ∧
    (free → txWaits s = true →
      ∃ t, exec (.nodePortData it) { s with es := { s.es with nodeTx := some done } } = .next t ∧
        exec (.nodePortData it) s = exec .nodePortTxDone t) ∧
    (idle → free →
      ∃ t u, exec (.nodePortData it) { s with es := { s.es with backhaulTx := some done, nodeTx := some done } } = .next t ∧
        exec .backhaulTxDone t = .next u ∧ exec (.nodePortData it) s = exec .nodePortTxDone u)) ∧
  (∀ (it : NodeItem) (s : State), live s = true → dataItemOk it = true → itemHasSample it = true →
    let bare := { it with flags := it.flags &&& 0xFB#8 }
    (it.origin ≠ 0#8 ∨ findClient s (itemSubject it) = none →
      exec (.nodePortData it) s = exec (.nodePortData bare) s) ∧
    (∀ i c, it.origin = 0#8 → entryOf s (itemSubject it) i c →
      exec (.nodePortData it) s = exec (.nodePortData bare) { s with
        rc := { s.rc with
          clients := tabSet s.rc.clients i { c with
            average := some { value := averageAfter c.average (signed8 it.sample), since := s.now }
            lastActivity := s.now } } })) ∧
  (∀ (it : NodeItem) (s : State), live s = true → txWaits s = true → s.es.nodeTx.isSome = true →
    dataItemOk it = true → itemHasSample it = false →
    (∀ i c, entryOf s (itemSubject it) i c → c.role = .served ∨ c.role = .handing → c.verdict = some .blocked →
      exec (.nodePortData it) s = .next s) ∧
    (isBlocked (itemSubject it) s = false →
      (findClient s (itemSubject it) = none ∨ ∃ i c, entryOf s (itemSubject it) i c) →
      let len := it.bytes.length
      let dest := if itemToClient it then clientDest s (itemSubject it) else uplinkDest s
      let put := fun cls => match dest with
        | .nodeSide b => admitFrame s.sl.params .node (mkEntry len cls (.nodeSide b it.bytes)) s.es
        | .peer n => admitFrame s.sl.params (queueName cls) (mkEntry len cls (.carried n false it.bytes)) s.es
        | .nowhere => (s.es, false)
      let arrivals := fun cls => match dest with
        | .peer _ => if (put cls).2 then s.fc.arrivals.put cls (min (s.fc.arrivals.at cls + len) 16777215) else s.fc.arrivals
        | _ => s.fc.arrivals
      let lost := dest = .nowhere ∧ itemToClient it = false ∧ s.rc.noUplink = none
      let sent := fun cls (made : Nat) t => t.es = (put cls).1 ∧ t.fc.arrivals = arrivals cls ∧
        t.rc.noUplink = (if lost then some (s.now + 60000000000) else s.rc.noUplink) ∧
        t.ml = (if lost then offerEvent (stamp .noUplink s) s.ml else s.ml) ∧
        (findClient s (itemSubject it) = none → t.rc.clients = s.rc.clients) ∧
        (∀ i c, entryOf s (itemSubject it) i c →
          clientAt t i = some { c with
            lastActivity := s.now, active := c.active || (isServing c.role && (put cls).2), games := c.games + made } ∧
          ∀ j, j ≠ i → clientAt t j = clientAt s j) ∧
        t = { s with es := t.es, fc := t.fc, ml := t.ml, ac := t.ac,
                     rc := { s.rc with clients := t.rc.clients, noUplink := t.rc.noUplink } };
      (readFrame it.bytes = none → ∃ t, exec (.nodePortData it) s = .next t ∧ sent .standard 0 t ∧
        t.fc = { s.fc with arrivals := t.fc.arrivals } ∧ t.ac = s.ac) ∧
      (∀ info, readFrame it.bytes = some info →
        let key := flowKey (itemSubject it) (itemSubjectDest it) info
        (∀ j fl, s.fc.flows.find? (fun e => e.2.key == key) = some (j, fl) →
          ∃ t, exec (.nodePortData it) s = .next t ∧ sent fl.cls 0 t ∧ t.ac = s.ac ∧
            t.fc = { s.fc with
              arrivals := t.fc.arrivals
              flows := tabSet s.fc.flows j { fl with
                lastSeen := s.now
                bytes := if (put fl.cls).2 then min (fl.bytes + len) 16777215 else fl.bytes } }) ∧
        (∀ i c j, s.fc.flows.find? (fun e => e.2.key == key) = none → entryOf s (itemSubject it) i c →
          c.role ≠ .orphan → c.role ≠ .departed → tabFree s.fc.flows 512 = some j →
          let result := ruleResult s.fc.rules key info (some c.profile)
          let demoted := result == .game && decide (s.sl.params.gmax ≤ c.games)
          let cls : Sys2Proof.Machine.Class := if demoted then .standard else result
          ∃ t, exec (.nodePortData it) s = .next t ∧ sent cls (if cls = .game then 1 else 0) t ∧
            t.ac = (if cls = .game ∧ s.ac.state = .wanting then { s.ac with state := .waiting, count := 0 } else s.ac) ∧
            t.fc = { s.fc with
              arrivals := t.fc.arrivals
              gameCount := if cls = .game then s.fc.gameCount + 1 else s.fc.gameCount
              quietSince := if cls = .game then none else s.fc.quietSince
              flows := tabSet s.fc.flows j {
                key := key, cls := cls, demoted := demoted, client := i
                bytes := if (put cls).2 then min len 16777215 else 0
                lastSeen := s.now } }) ∧
        (∀ profile, s.fc.flows.find? (fun e => e.2.key == key) = none →
          ((findClient s (itemSubject it) = none ∧ profile = none) ∨
            (∃ i c, entryOf s (itemSubject it) i c ∧ profile = some c.profile ∧
              (c.role = .orphan ∨ c.role = .departed ∨ tabFree s.fc.flows 512 = none))) →
          let result := ruleResult s.fc.rules key info profile
          ∃ t, exec (.nodePortData it) s = .next t ∧ sent (if result = .game then .standard else result) 0 t ∧
            t.fc = { s.fc with arrivals := t.fc.arrivals } ∧ t.ac = s.ac))))

/-- A sample, clamped to -100..-10 dBm, starts the local average or moves it by an eighth of the difference (R36). -/
def Obligations.SamplesMoveTheAverage : Prop :=
  (∀ (it : NodeItem) (s : State), live s = true → samplesItemOk it = false → exec (.nodePortSamples it) s = .next s) ∧
  (∀ (it : NodeItem) (s : State), live s = true → samplesItemOk it = true → it.pairs = 1#8 →
    let a := addrAt 0 it.bytes
    let q : Int := 4 * max (-100) (min (-10) (signed8 ((it.bytes.drop 6).headD 0#8)))
    (findClient s a = none → exec (.nodePortSamples it) s = .next s) ∧
    (∀ i c, entryOf s a i c →
      (c.average = none → exec (.nodePortSamples it) s = .next { s with
        rc := { s.rc with
          clients := tabSet s.rc.clients i { c with
            average := some { value := q, since := s.now }, lastActivity := s.now } } }) ∧
      (∀ v, c.average = some v → exec (.nodePortSamples it) s = .next { s with
        rc := { s.rc with
          clients := tabSet s.rc.clients i { c with
            average := some { value := v.value + (q - v.value) / 8, since := s.now }, lastActivity := s.now } } }))) ∧
  (∀ (v : Signal) (x : Int), -400 ≤ v.value → v.value ≤ -40 →
    let q : Int := 4 * max (-100) (min (-10) x);
    -400 ≤ averageAfter (some v) x ∧ averageAfter (some v) x ≤ -40 ∧
    (averageAfter (some v) x = v.value ↔ v.value ≤ q ∧ q ≤ v.value + 7)) ∧
  (∀ (it : NodeItem) (s t : State), live s = true → samplesItemOk it = true → 2 ≤ it.pairs.toNat →
    exec (.nodePortSamples { it with pairs := 1#8, bodyLen := 7#16, bytes := it.bytes.take 7 }) s = .next t →
    exec (.nodePortSamples it) s = exec (.nodePortSamples
      { it with pairs := it.pairs - 1#8, bodyLen := it.bodyLen - 7#16, bytes := it.bytes.drop 7 }) t)

/-- A transmitter that has sent its frame takes the next: control bulletins first, then GAME; the node port its
queue's head (R4, R12, R13, R42, R106, R107, R108, R109, R111, R112). The model's own: the end of a frame brings time
to that end, and the end of one that is not being sent does nothing (assumption log 7 and 8); a frame takes its bytes
at the strapped rate, without preamble, gap or padding (log 40). -/
def Obligations.TransmittersTakeTheNextEntry : Prop :=
  ∀ s : State, live s = true →
    (s.es.backhaulTx = none → exec .backhaulTxDone s = .next s) ∧
    (s.es.nodeTx = none → exec .nodePortTxDone s = .next s) ∧
    (∀ fr, s.es.backhaulTx = some fr →
      let u := runTo fr.ends s
      (s.es.pause.isSome = true →
        exec .backhaulTxDone s = .next { u with es := { s.es with backhaulTx := none } }) ∧
      (∀ target b r, s.es.pause = none → s.bu.control = .bulletin target b :: r →
        let bytes := bulletinBytes s.sl.params target s.bu.seq b
        let ends := u.now + bytes.length * (if s.pins.straps.bhFast then 8 else 80)
        exec .backhaulTxDone s = .next { u with
          bu := { s.bu with
            control := r
            seq := if s.bu.seq = 65535#16 then 1#16 else s.bu.seq + 1 }
          es := { s.es with
            backhaulTx := some { bytes := bytes, ends := ends } } }) ∧
      (∀ r, s.es.pause = none → s.bu.control = .pulse false :: r →
        let bytes := bulletinBytes s.sl.params 0 s.bu.seq (.pulse (advertisement s.bu.lastDemand u))
        let ends := u.now + bytes.length * (if s.pins.straps.bhFast then 8 else 80)
        exec .backhaulTxDone s = .next { u with
          bu := { s.bu with
            control := r
            seq := if s.bu.seq = 65535#16 then 1#16 else s.bu.seq + 1
            freshCount := s.bu.freshCount - 1 }
          es := { s.es with
            backhaulTx := some { bytes := bytes, ends := ends } } }) ∧
      (∀ x r dest re frame, s.es.pause = none → s.bu.control = [] → s.es.game = x :: r → 0 < s.es.tokens.game →
        x.load = .carried dest re frame →
        let bytes := carriedBytes s.sl.params (stationOf s dest) dest x.cls re frame
        let ends := u.now + bytes.length * (if s.pins.straps.bhFast then 8 else 80)
        exec .backhaulTxDone s = .next { u with
          es := { s.es with
            game := r
            free := s.es.free + x.cells
            tokens := { s.es.tokens with game := s.es.tokens.game - x.len }
            backhaulTx := some { bytes := bytes, ends := ends } } }) ∧
      (let next := fun c : Sys2Proof.Machine.Class =>
         if c = .standard then Sys2Proof.Machine.Class.bulk else if c = .bulk then .update else .standard
       let misses := fun c : Sys2Proof.Machine.Class => s.es.queue (queueName c) = [] ∨ s.es.tokens.at c ≤ 0
       let first := s.es.pointer
       let second := next first
       let third := next second
       (∀ c x r, s.es.pause = none → s.bu.control = [] → misses .game →
         c = first ∨ (c = second ∧ misses first) ∨ (c = third ∧ misses first ∧ misses second) →
         s.es.queue (queueName c) = x :: r → 0 < s.es.tokens.at c →
         let served := fun bytes : List Byte =>
           { s.es.setQueue (queueName c) r with
             free := s.es.free + x.cells
             tokens := s.es.tokens.put c (s.es.tokens.at c - x.len)
             pointer := next c
             backhaulTx := some { bytes := bytes, ends := u.now + bytes.length * (if s.pins.straps.bhFast then 8 else 80) } };
         (∀ dest re frame, x.load = .carried dest re frame → exec .backhaulTxDone s = .next { u with
           es := served (carriedBytes s.sl.params (stationOf s dest) dest x.cls re frame) }) ∧
         (∀ target b, x.load = .chunk target b → exec .backhaulTxDone s = .next { u with
           bu := { s.bu with seq := if s.bu.seq = 65535#16 then 1#16 else s.bu.seq + 1 }
           es := served (bulletinBytes s.sl.params target s.bu.seq b) })) ∧
       (s.es.pause = none → s.bu.control = [] → misses .game → misses .standard → misses .bulk → misses .update →
         exec .backhaulTxDone s = .next { u with es := { s.es with backhaulTx := none } }))) ∧
    (∀ fr, s.es.nodeTx = some fr →
      let u := runTo fr.ends s
      (s.es.node = [] → exec .nodePortTxDone s = .next { u with es := { s.es with nodeTx := none } }) ∧
      (∀ x r tc frame, s.es.node = x :: r → x.load = .nodeSide tc frame →
        let bytes := nodeItemBytes tc x.cls frame
        let ends := u.now + bytes.length * (if s.pins.straps.ndFast then 8 else 80)
        exec .nodePortTxDone s = .next { u with
          es := { s.es with
            node := r
            free := s.es.free + x.cells
            nodeTx := some { bytes := bytes, ends := ends } } }))

/-- Taking a timed PULSE makes the epoch edge: PULSE built, grants loaded, snapshot taken, counts reset, peers aged,
drain slot counted (R11, R12, R16, R17, R32, R53, R72, R83, R85, R86, R146, R161). Rests also on R62, R63, R94, R105,
R145, R162 and R163. The model's own: the end of a frame brings time to that end (assumption log 7); participants and
excluded peers stand in node order (log 26). -/
def Obligations.EpochEdgeOnTimedPulse : Prop :=
  ∀ (s : State) (fr : TxFrame) (r : List Control), live s = true → s.es.backhaulTx = some fr → s.es.pause = none →
    s.bu.control = .pulse true :: r →
    let u := runTo fr.ends s
    let demand := fun (q : List QEntry) (a : Nat) => min (((q.map QEntry.len).sum + 255) / 256 + (a + 255) / 256) 65535
    let heard := fun p : Peer => p.heard || (decide (s.sl.params.pulsePeriod < p.adv.period) &&
      decide (u.now ≤ p.lastPulse + (p.adv.period + s.sl.params.pulsePeriod) * 1000000))
    let aged := fun p : Peer => if heard p then { p with run := min (p.run + 1) 3, heard := false }
      else { p with run := 0, quiet := p.quiet + 1, heard := false }
    let joins := fun p : Peer => p.state = .joining ∧ 3 ≤ (aged p).run
    let quiets := fun p : Peer => p.state = .present ∧ 8 ≤ (aged p).quiet
    let goes := fun p : Peer => (p.state = .joining ∧ (aged p).run < 3 ∧ 8 ≤ (aged p).quiet) ∨
      (p.state = .silent ∧ 120 ≤ (aged p).quiet)
    let served := fun c : Client => c.role = .remote ∨ c.role = .claiming ∨ c.role = .expecting
    ∃ t, exec .backhaulTxDone s = .next t ∧
      t.bu.seq = (if s.bu.seq = 65535#16 then 1#16 else s.bu.seq + 1) ∧ t.bu.freshCount = s.bu.freshCount - 1 ∧
      t.bu.lastDemand = { game := demand s.es.game s.fc.arrivals.game,
                          standard := demand s.es.standard s.fc.arrivals.standard,
                          bulk := demand s.es.bulk s.fc.arrivals.bulk,
                          update := demand s.es.update s.fc.arrivals.update } ∧
      t.sc.epoch = (s.sc.epoch + 1) % 4294967296 ∧ t.sc.loaded = s.sc.staged ∧
      t.sc.loadedEpoch = (s.sc.epoch + 1) % 4294967296 ∧ t.sc.staged = s.sc.staged ∧ t.sc.inFlight = true ∧
      t.es.tokens = { game := 256 * (s.sc.staged.game : Int) + min s.es.tokens.game 0,
                      standard := 256 * (s.sc.staged.standard : Int) + min s.es.tokens.standard 0,
                      bulk := 256 * (s.sc.staged.bulk : Int) + min s.es.tokens.bulk 0,
                      update := 256 * (s.sc.staged.update : Int) + min s.es.tokens.update 0 } ∧
      (let bytes := bulletinBytes s.sl.params 0 s.bu.seq (.pulse (advertisement t.bu.lastDemand u))
       t.es.backhaulTx = some { bytes := bytes, ends := u.now + bytes.length * (if s.pins.straps.bhFast then 8 else 80) }) ∧
      t.fc.arrivals = Quad.zero ∧ t.fc.flows = s.fc.flows.map (fun e => (e.1, { e.2 with bytes := 0 })) ∧
      t.es.free = s.es.free ∧ t.su.profiles = s.su.profiles ∧ t.now = u.now ∧
      (∀ n p, 1 ≤ n → n ≤ 8 → peerOf s n = some p →
        (joins p → peerOf t n = some { aged p with state := .present }) ∧
        (quiets p → peerOf t n = some { aged p with state := .silent }) ∧
        (¬ joins p → ¬ quiets p → ¬ goes p → peerOf t n = some (aged p)) ∧
        (goes p → peerOf t n = none ∧ tabGet t.ie.strikes n = none ∧ tabGet t.ie.skips n = none ∧
          (∀ i c, clientAt s i = some c → c.serving = n → served c → ∃ o, clientAt t i = some o ∧ o.addr = c.addr ∧
            o.role = .orphan ∧ o.serving = 0 ∧ o.claimNo = none ∧ o.timer = some (u.now + 60000000000)) ∧
          (∀ i c, clientAt s i = some c → c.role = .handing → c.claimant = some n → ∃ o, clientAt t i = some o ∧
            o.addr = c.addr ∧ o.role = .served ∧ o.claimNo = none ∧ o.claimant = none ∧ o.timer = none))) ∧
      fetchesFailedBack (fun n => match peerOf s n with
        | some p => decide (1 ≤ n) && decide (n ≤ 8) &&
          ((p.state == .joining && decide ((aged p).run < 3) && decide (8 ≤ (aged p).quiet)) ||
            (p.state == .silent && decide (120 ≤ (aged p).quiet)))
        | none => false) s t ∧
      (∀ n p, 1 ≤ n → n ≤ 8 → s.bu.peers = [(n, p)] → s.ac.state ≠ .wanting →
        let e := fun (x : Event) (m : Ml) => offerEvent (stamp x u) m
        (joins p → t.ml = e (.peerJoined n) s.ml) ∧ (quiets p → t.ml = e (.peerSilent n) s.ml) ∧
        (¬ joins p → ¬ quiets p → ¬ goes p → t.ml = s.ml) ∧
        (goes p → (s.rc.clients = [] → t.ml = e (.peerGone n) s.ml) ∧
          (∀ i c, s.rc.clients = [(i, c)] → served c → c.serving = n →
            t.ml = e (.orphaned c.addr n) (e (.peerGone n) s.ml)) ∧
          (∀ i c, s.rc.clients = [(i, c)] → c.role = .handing → c.claimant = some n →
            t.ml = e (.steerFailed c.addr n true) (e (.peerGone n) s.ml)))) ∧
      (let blocks := fun (n : Nat) (p : Peer) => p.state = .present ∧
         (p.adv.draining = true ∨ p.adv.leaving = true ∨ (n < s.sl.params.node ∧ p.adv.drainWanted = true))
       let blocked := ∃ n p, 1 ≤ n ∧ n ≤ 8 ∧ peerOf t n = some p ∧ blocks n p
       let calm := ∀ n p, 1 ≤ n → n ≤ 8 → peerOf s n = some p → ¬ joins p ∧ ¬ quiets p ∧ ¬ goes p
       let e := fun (x : Event) (m : Ml) => offerEvent (stamp x u) m
       let takes := fun n : Nat => ∃ p, peerOf t n = some p ∧ p.state = .present ∧ p.adv.draining = false ∧
         p.adv.leaving = false
       let wanting := s.ac.state = .wanting;
       (¬ wanting → t.ac = s.ac) ∧ (wanting → blocked → t.ac = { s.ac with count := 0 }) ∧
       (wanting → ¬ blocked → s.ac.count < 3 → t.ac = { s.ac with count := s.ac.count + 1 }) ∧
       (calm → acDraining s = false → ¬ wanting ∨ blocked ∨ s.ac.count < 3 → t.ml = s.ml ∧ t.rc = s.rc ∧ t.bu.control = r) ∧
       (∀ d, wanting → ¬ blocked → 3 ≤ s.ac.count → servedCount s ≠ 0 → s.ie.incDesc = some d →
         t.ac = { s.ac with state := .draining, count := 4, drainTimer := some (u.now + 60000000000) } ∧
         (calm → t.ml = e (.drainBegun (servedCount s) d.number) s.ml) ∧
         (tabSorted s.rc.clients = true → s.rc.offers = [] → s.rc.lapsed = [] →
           ∃ offered : List (Nat × Client × BestReading),
             t.rc.offers = offered.map (fun x => { client := x.1, node := x.2.2.node, ends := u.now + 300000000 }) ∧
             (calm → t.bu.control =
               offered.foldl (fun q x => joinControl (.bulletin x.2.2.node (.offer x.2.1.addr)) q) r) ∧
             offered.length ≤ 8 ∧ (offered.map Prod.fst).Pairwise (· < ·) ∧
             (∀ x ∈ offered, clientAt t x.1 = some x.2.1 ∧ x.2.1.role = .served ∧ x.2.1.best = some x.2.2 ∧
               takes x.2.2.node) ∧
             (∀ i c b, clientAt t i = some c → c.role = .served → c.best = some b → takes b.node →
               (i, c, b) ∈ offered ∨ (offered.length = 8 ∧ ∀ x ∈ offered, x.1 < i)))) ∧
       (∀ d, wanting → ¬ blocked → 3 ≤ s.ac.count → servedCount s = 0 → s.ie.incDesc = some d →
         t.ac = { s.ac with state := .leaving, count := 4, drainTimer := none, lapseTimer := some (u.now + 600000000000) } ∧
         t.rc.offers = [] ∧ t.rc.lapsed = [] ∧
         (calm → t.ml = e (.readyToRestart d.number 0 false) (e (.drainBegun 0 d.number) s.ml)))) ∧
      (∃ sn, t.sc.snapshot = some sn ∧ sn.epoch = (s.sc.epoch + 1) % 4294967296 ∧ sn.self = s.sl.params.node ∧
        sn.params = { cap := s.sl.params.cap, gc := s.sl.params.gc, wS := s.sl.params.wS, wB := s.sl.params.wB,
                      wU := s.sl.params.wU } ∧
        (sn.parts.map Part.node).Pairwise (· < ·) ∧ (sn.excluded.map Prod.fst).Pairwise (· < ·) ∧
        (∀ x, x ∈ sn.parts ↔
          (1 ≤ s.sl.params.node ∧ s.sl.params.node ≤ 8 ∧
            x = { node := s.sl.params.node, demand := t.bu.lastDemand, held := false, served := servedCount t }) ∨
          (∃ n p, 1 ≤ n ∧ n ≤ 8 ∧ n ≠ s.sl.params.node ∧ peerOf t n = some p ∧ p.state = .present ∧ p.mismatch = false ∧
            p.adv.supplyFail = false ∧ p.quiet ≤ 3 ∧
            x = { node := n, demand := p.adv.demand, held := decide (1 ≤ p.quiet), served := p.adv.served })) ∧
        (∀ n why, (n, why) ∈ sn.excluded ↔ ∃ p, 1 ≤ n ∧ n ≤ 8 ∧ peerOf t n = some p ∧
          some why = (if p.state = .joining then some .joining else if p.state = .silent then some .silent
            else if p.mismatch then some .period else if p.adv.supplyFail then some .supply
            else if 4 ≤ p.quiet then some .quiet else none)))

/-- The pulse timer queues one timed PULSE and the sighting timer the clients with an average; waiting periods come
into force (R10, R11, R14, R18, R97, R190). The model's own: an expiry brings time to the timer's end, and that of a
stopped timer does nothing (assumption log 7 and 8); peers are held against a changed pulse period, with PERIOD
MISMATCH raised, when it comes into force (log 52). -/
def Obligations.PulseAndSightingTimersQueueBulletins : Prop :=
  ∀ s : State, live s = true → txWaits s = true →
    (s.bu.pulseTimer = none → exec .pulseTimerExpiry s = .next s) ∧
    (s.bu.sightTimer = none → exec .sightingTimerExpiry s = .next s) ∧
    (∀ d, s.bu.pulseTimer = some d →
      let period := s.sl.nextPulse.getD s.sl.params.pulsePeriod
      ∃ t, exec .pulseTimerExpiry s = .next t ∧
        t = { runTo d s with
          bu := { s.bu with
            pulseTimer := some (d + period * 1000000), control := t.bu.control, peers := t.bu.peers }
          sl := { s.sl with params := { s.sl.params with pulsePeriod := period }, nextPulse := none }
          ml := t.ml } ∧
        (s.bu.control.any isPulse = false → t.bu.control = joinControl (.pulse true) s.bu.control) ∧
        (∀ a b x, s.bu.control = a ++ .pulse x :: b → (∀ y ∈ a ++ b, isPulse y = false) →
          t.bu.control = a ++ .pulse true :: b) ∧
        (s.sl.nextPulse = none → t.bu.peers = s.bu.peers ∧ t.ml = s.ml) ∧
        (s.sl.nextPulse.isSome = true →
          (∀ n p, 1 ≤ n → n ≤ 8 → peerOf s n = some p →
            peerOf t n = some { p with mismatch := p.mismatch || p.adv.period != period }) ∧
          (∀ n p, 1 ≤ n → n ≤ 8 → s.bu.peers = [(n, p)] →
            t.ml = if p.mismatch = false ∧ p.adv.period ≠ period then
              offerEvent (stamp (.periodMismatch n p.adv.period) (runTo d s)) s.ml else s.ml))) ∧
    (∀ d, s.bu.sightTimer = some d →
      let period := s.sl.nextSight.getD s.sl.params.sightPeriod
      let l := sightingList s
      ∃ q, exec .sightingTimerExpiry s = .next { runTo d s with
          bu := { s.bu with sightTimer := some (d + period * 1000000), control := q }
          sl := { s.sl with params := { s.sl.params with sightPeriod := period }, nextSight := none } } ∧
        (l = [] → q = s.bu.control) ∧
        (∀ k, k ≤ 5 → 48 * k < l.length → l.length ≤ 48 * (k + 1) →
          q = (List.range (k + 1)).foldl
            (fun c j => joinControl (.bulletin 0 (.sighting ((l.drop (48 * j)).take 48))) c) s.bu.control) ∧
        (∃ x y, l = x ++ y ∧ (∀ e ∈ x, e.servedHere = true) ∧ (∀ e ∈ y, e.servedHere = false)) ∧
        (∀ a, (∃ i c v, (i, c) ∈ s.rc.clients ∧ c.average = some v ∧ a = Listing.mk c.addr v.value (isServing c.role)
            (if isServing c.role then c.tenure else 0#16)) ↔ a ∈ l))

/-- A local average 5 s old becomes absent, and leaves the sighting list; the next sample starts anew (R37). The
model's own: the lapse brings time to its end, and without an average it does nothing (assumption log 7 and 8). -/
def Obligations.SampleAgeLapsesTheAverage : Prop :=
  (∀ (i : Nat) (s : State), alive s = true → (clientAt s i).bind Client.average = none →
    exec (.sampleAgeLapse i) s = .next s) ∧
  (∀ (i : Nat) (c : Client) (a : Signal) (s : State), alive s = true → clientAt s i = some c → c.average = some a →
    exec (.sampleAgeLapse i) s = .next { runTo (a.since + 5000000000) s with
      rc := { s.rc with clients := tabSet s.rc.clients i { c with average := none } } }) ∧
        (∀ (served : Bool) (c : Client), c.average = none → listingOf served c = none) ∧
  (∀ (i n : Nat) (r : Int) (c : Client) (s : State), clientAt s i = some c → c.average = none → c.role = .remote →
    c.serving = n → c.servingReading.isSome = true →
    evaluateClaim i n r s = { s with
      rc := { s.rc with clients := tabSet s.rc.clients i { c with better := 0 } } }) ∧
        (∀ x : Int, averageAfter none x = 4 * max (-100) (min (-10) x))

/-- Clash, NO UPLINK, holddown, reading, claim wait, hand wait and removal timers end what they time (R3, R25, R29,
R33, R39, R44, R47, R56, R57, R76). The model's own: an expiry brings time to its end, and that of a stopped timer or
in another role does nothing (assumption log 7 and 8); a change of the sighting period acts on readings already held
(log 42). -/
def Obligations.TimersEndWhatTheyTime : Prop :=
  ((∀ (n : Nat) (s : State), alive s = true →
    (tabGet s.bu.clash n = none → exec (.clashTimerExpiry n) s = .next s) ∧
    (∀ d, tabGet s.bu.clash n = some d → exec (.clashTimerExpiry n) s = .next { runTo d s with
      bu := { s.bu with clash := tabErase s.bu.clash n } })) ∧
        (∀ s : State, alive s = true →
    (s.rc.noUplink = none → exec .noUplinkTimerExpiry s = .next s) ∧
    (∀ d, s.rc.noUplink = some d → exec .noUplinkTimerExpiry s = .next { runTo d s with
      rc := { s.rc with noUplink := none } })) ∧
        (∀ (i : Nat) (c : Client) (s : State), alive s = true → clientAt s i = some c →
    let period := 3 * s.sl.params.sightPeriod * 1000000
    (c.best = none → exec (.readingLapse i .best) s = .next s) ∧
    (c.servingReading = none → exec (.readingLapse i .serving) s = .next s) ∧
    (∀ b, c.best = some b → exec (.readingLapse i .best) s = .next { runTo (b.since + period) s with
      rc := { s.rc with clients := tabSet s.rc.clients i { c with best := none } } }) ∧
        (∀ r, c.servingReading = some r → exec (.readingLapse i .serving) s = .next { runTo (r.since + period) s with
      rc := { s.rc with clients := tabSet s.rc.clients i { c with servingReading := none, better := 0 } } }) ∧
    exec (.holddownExpiry i) s = .next (runTo c.holddownEnds s)) ∧
  (∀ (i : Nat) (which : ReadingKind) (s : State), alive s = true → clientAt s i = none →
    exec (.readingLapse i which) s = .next s ∧ exec (.holddownExpiry i) s = .next s)) ∧
  (∀ (i : Nat) (c : Client) (d : Nat) (s : State), alive s = true → clientAt s i = some c → c.timer = some d →
    let u := runTo d s
    (c.role ≠ .claiming → exec (.claimWaitExpiry i) s = .next s) ∧
    (c.role ≠ .handing → exec (.handWaitExpiryHanding i) s = .next s) ∧
    (c.role ≠ .expecting → exec (.handWaitExpiryExpecting i) s = .next s) ∧
    (c.role ≠ .orphan → c.role ≠ .departed → exec (.removalTimerExpiry i) s = .next s) ∧
    (c.role = .claiming → exec (.claimWaitExpiry i) s = .next { u with
      rc := { s.rc with
        clients := tabSet s.rc.clients i { c with
          role := .remote, timer := none, lastActivity := u.now, claimNo := none, claimant := none, verdict := none }
        offers := s.rc.offers.filter (fun o => o.client != i) } }) ∧
    (c.role = .expecting → exec (.handWaitExpiryExpecting i) s = .next { u with
      rc := { s.rc with
        clients := tabSet s.rc.clients i { c with
          role := .remote, timer := none, lastActivity := u.now, claimNo := none, claimant := none, verdict := none
          holddownEnds := u.now + s.sl.params.holddown * 1000000000 }
        offers := s.rc.offers.filter (fun o => o.client != i) } }) ∧
    (c.role = .orphan ∨ c.role = .departed → ∃ t, exec (.removalTimerExpiry i) s = .next t ∧
      clientAt t i = none ∧ (∀ j, j ≠ i → clientAt t j = clientAt s j) ∧
      t.fc.flows = s.fc.flows.filter (fun e => e.2.client != i) ∧ t.bu = s.bu ∧ t.ml = s.ml ∧ t.es = s.es ∧
      t.ie = s.ie ∧ t.flash = s.flash ∧ t.now = u.now))

/-- The hand wait of a HANDING entry returns it to SERVED with STEER FAILED, the holddown not set (R52). The model's
own: the expiry brings time to the end of the hand wait (assumption log 7). -/
def Obligations.HandWaitOfHandingEntryExpires : Prop :=
  ∀ (i : Nat) (c : Client) (d n : Nat) (s : State), alive s = true → clientAt s i = some c → c.role = .handing →
    c.timer = some d → c.claimant = some n → txWaits s = true →
    ∃ t, exec (.handWaitExpiryHanding i) s = .next t ∧
      clientAt t i = some { c with
        role := .served, claimNo := none, claimant := none, timer := none, lastActivity := (runTo d s).now } ∧
      t.ml = offerEvent (stamp (.steerFailed c.addr n false) (runTo d s)) s.ml ∧
      t = { runTo d s with
        rc := { s.rc with
          clients := tabSet s.rc.clients i { c with
            role := .served, claimNo := none, claimant := none, timer := none, lastActivity := (runTo d s).now }
          offers := t.rc.offers }
        bu := { s.bu with control := t.bu.control }
        ml := t.ml } ∧
      (acDraining s = false → t.rc.offers = s.rc.offers ∧ t.bu.control = s.bu.control)

/-- An idle flow is removed with its GAME counts; with the quiet time or the holdoff over, a WAITING AC may become
WANTING (R75, R80, R159). The model's own: an expiry brings time to its instant, GAME_QUIET_ELAPSED without an instant
changes nothing (assumption log 7 and 8), and the conditions are looked at in ISOLATED too (assumption log 38). -/
def Obligations.FlowAndQuietTimersLookAtConditions : Prop :=
  let settled := fun u : State =>
    let ok := decide (u.ac.holdoffEnds ≤ u.now) && (u.su.maintenance || u.ac.activateNow) &&
      (u.fc.gameCount == 0 && match u.fc.quietSince with
        | some q => decide (q + 120000000000 ≤ u.now)
        | none => false) &&
      (u.su.clock.grade != .unset || u.ac.activateNow);
    { u with
      ac := if u.ac.state = .waiting ∧ ok = true then { u.ac with state := .wanting, count := 0 }
        else if u.ac.state = .wanting ∧ ok = false then { u.ac with state := .waiting, count := 0 }
        else u.ac };
  (∀ (j : Nat) (fl : Flow) (s : State), live s = true → tabGet s.fc.flows j = some fl →
    ∃ t, exec (.flowIdleExpiry j) s = .next t ∧ t.fc.flows = tabErase s.fc.flows j ∧
      t.now = max s.now (fl.lastSeen + (if fl.cls = .game then 10000000000 else 60000000000)) ∧
      t.fc.gameCount = (if fl.cls = .game then s.fc.gameCount - 1 else s.fc.gameCount) ∧
      (fl.cls = .game → s.fc.gameCount = 1 → t.fc.quietSince = some t.now) ∧
      (∀ c, clientAt s fl.client = some c →
        clientAt t fl.client = some { c with games := if fl.cls = .game then c.games - 1 else c.games }) ∧
      (∀ k, k ≠ fl.client → clientAt t k = clientAt s k) ∧ t = settled { t with ac := s.ac } ∧
      t.fc.rules = s.fc.rules ∧ t.bu = s.bu ∧ t.es = s.es ∧ t.ml = s.ml) ∧
  (∀ s : State, alive s = true →
    exec .holdoffExpiry s = .next (settled (runTo s.ac.holdoffEnds s)) ∧
    (s.fc.quietSince = none → exec .gameQuietElapsed s = .next s) ∧
    (∀ q, s.fc.quietSince = some q → exec .gameQuietElapsed s = .next (settled (runTo (q + 120000000000) s))))

/-- A lapsed drain offer leaves the list; the drain and lapse timers end DRAINING and LEAVING (R62, R63, R163, R164).
The model's own: an expiry brings time to its instant, and one of a stopped timer changes nothing (assumption log 7
and 8); a reading of the very instant of the lapse counts as not newer (assumption log 22); the drain-wanted count is
kept at the lapse (assumption log 55). -/
def Obligations.DrainTimersEndTheirStates : Prop :=
  (∀ (i : Nat) (s : State), alive s = true →
    (s.rc.offers.find? (fun o => o.client == i) = none → exec (.offerTimerExpiry i) s = .next s) ∧
    (∀ o, s.rc.offers.find? (fun o => o.client == i) = some o → txWaits s = true → tabSorted s.rc.clients = true →
      let u := runTo o.ends s
      let kept := s.rc.offers.filter (fun x => x.client != i)
      let lapsed := tabSet s.rc.lapsed i (max s.now o.ends)
      let peerTakes := fun n : Nat => match tabGet s.bu.peers n with
        | some p => p.state == .present && !p.adv.draining && !p.adv.leaving
        | none => false
      let eligible := fun q : Nat × Client => q.2.role == .served && kept.all (fun x => x.client != q.1) &&
        match q.2.best with
        | some b => peerTakes b.node && (match tabGet lapsed q.1 with
          | some d => decide (d < b.since)
          | none => true)
        | none => false
      let chosen := if s.ac.state = .draining then (s.rc.clients.filter eligible).take (8 - kept.length) else []
      let best := fun q : Nat × Client => (q.2.best.map BestReading.node).getD 0;
      exec (.offerTimerExpiry i) s = .next { u with
        rc := { s.rc with
          offers := kept ++ chosen.map (fun q => { client := q.1, node := best q, ends := max s.now o.ends + 300000000 })
          lapsed := lapsed }
        bu := if running s then
            { s.bu with control := chosen.foldl (fun c q => joinControl (.bulletin (best q) (.offer q.2.addr)) c) s.bu.control }
          else s.bu } ∧
      (∀ c b, clientAt s i = some c → c.best = some b → b.since ≤ max s.now o.ends → (i, c) ∉ chosen))) ∧
  (∀ s : State, alive s = true →
    (s.ac.drainTimer = none → exec .drainTimerExpiry s = .next s) ∧
    (s.ac.lapseTimer = none → exec .lapseTimerExpiry s = .next s) ∧
    (∀ d, s.ac.drainTimer = some d → s.ac.state = .draining →
      let u := runTo d s
      exec .drainTimerExpiry s = .next { u with
        rc := { s.rc with offers := [], lapsed := [] }
        ac := { s.ac with state := .leaving, drainTimer := none, lapseTimer := some (u.now + 600000000000) }
        ml := offerEvent (stamp (.readyToRestart (incomingNumber s) (servedCount s) true) u) s.ml }) ∧
          (∀ d, s.ac.lapseTimer = some d → s.ac.state = .leaving →
      let u := runTo d s
      exec .lapseTimerExpiry s = .next { u with
        ac := { s.ac with
          state := .waiting, lapseTimer := none, holdoffEnds := u.now + 1800000000000, activateNow := false }
        ml := offerEvent (stamp (.activationLapsed (incomingNumber s)) u) s.ml }))

/-- A fetch that times out leaves the list and strikes its peer; the third strike skips the peer for 10 s (R10, R139,
R145, R146). The model's own: an expiry brings time to its instant, and one of a missing fetch or a stopped timer
changes nothing (assumption log 7 and 8). That a chunk which is missing while a listed fetch has it received is
fetched too is the model's choice (assumption log 61). -/
def Obligations.FetchAndSkipTimersStrikePeers : Prop :=
  ∀ s : State, alive s = true → txWaits s = true →
    let struck := fun (f : Fetch) (now : Nat) (e : Ie) =>
      e = { s.ie with
        fetches := s.ie.fetches.filter (fun g => g != f)
        presence := e.presence
        strikes := if 2 ≤ (tabGet s.ie.strikes f.peer).getD 0 then tabErase s.ie.strikes f.peer
          else tabSet s.ie.strikes f.peer ((tabGet s.ie.strikes f.peer).getD 0 + 1)
        skips := if 2 ≤ (tabGet s.ie.strikes f.peer).getD 0 then tabSet s.ie.skips f.peer (now + 10000000000)
          else s.ie.skips } ∧
      (∀ k, tabGet e.presence k =
        if f.first ≤ k ∧ k < f.first + f.count ∧ k ∉ f.received ∧ tabGet s.ie.presence k = some .requested
        then none else tabGet s.ie.presence k);
    (∀ number, s.ie.fetches.find? (fun f => f.number == number) = none →
      exec (.fetchTimeout number) s = .next s) ∧
    (∀ number f, s.ie.fetches.find? (fun f => f.number == number) = some f →
      ∃ t u, exec (.fetchTimeout number) s = .next t ∧ struck f (runTo f.ends s).now u.ie ∧
        u = { runTo f.ends s with ie := u.ie } ∧
        (s.ie.inc ≠ .filling ∨ s.pins.supplyFail = true → t = u) ∧
        (∀ d, s.ie.inc = .filling → s.pins.supplyFail = false → s.ie.incDesc = some d → fetchesIssued d u t)) ∧
    (∀ n, tabGet s.ie.skips n = none → exec (.skipTimerExpiry n) s = .next s) ∧
    (∀ n i, tabGet s.ie.skips n = some i →
      let u := { runTo i s with ie := { s.ie with skips := tabErase s.ie.skips n } };
      (s.ie.inc ≠ .filling ∨ s.pins.supplyFail = true → exec (.skipTimerExpiry n) s = .next u) ∧
      (∀ d, s.ie.inc = .filling → s.pins.supplyFail = false → s.ie.incDesc = some d →
        ∃ t, exec (.skipTimerExpiry n) s = .next t ∧ fetchesIssued d u t))

/-- A minute tick counts the minute that ended, steps the clock, rolls the day, applies staged records and evaluates
states, verdicts and the AC (R118, R119, R124, R127, R128, R129, R131, R132, R133, R159, R76, R80). The model's own:
the tick brings the clock to the end of its minute (assumption log 7 and 36), and does nothing while the clock is
UNSET (assumption log 8). -/
def Obligations.MinuteTickCountsAndRolls : Prop :=
  ∀ s : State, alive s = true →
    (s.su.clock.grade = .unset → exec .minuteTick s = .next s) ∧
    (s.su.clock.grade ≠ .unset → ∃ t, exec .minuteTick s = .next t ∧
      (let m := if s.su.clock.minute = 10079 then 0 else s.su.clock.minute + 1
       let rolls := m / 1440 ≠ s.su.clock.minute / 1440
       let counted : Client → Client := fun c =>
         let r := (profileOf s c.profile).record
         if isServing c.role = true ∧ c.active = true then
           if inWindow r .closed s.su.clock.minute = true ∨ budgetSpent r c.used = true then
             if c.extra = 0 then c else { c with extra := c.extra - 1, drawn := min (c.drawn + 1) 240 }
           else { c with used := min (c.used + 1) 1440 }
         else c
       let ticked : Client → Client := fun c =>
         if rolls then { c with active := false, used := 0, extra := 0, drawn := 0, day := m / 1440 }
         else { counted c with active := false }
       let cause : Client → Option Cause := fun c =>
         let q := profileOf t c.profile
         if q.paused = true then some .pause
         else if inWindow q.record .closed m = true ∧ (ticked c).extra = 0 then some .window
         else if budgetSpent q.record (ticked c).used = true ∧ (ticked c).extra = 0 then some .budget
         else none
       let newly : Client → Bool := fun c => isServing c.role && (cause c).isSome && c.verdict != some .blocked
       let lost : Nat × Flow → Bool := fun q => (clientAt s q.2.client).any newly
       let profileEvents := (List.range 16).filterMap (fun p =>
         match (profileOf s p).closed, (profileOf t p).closed with
         | none, some k => some (Event.profileClosed p k)
         | some k, none => some (.profileOpened p k)
         | _, _ => none)
       let clientEvents := s.rc.clients.filterMap (fun x =>
         if isServing x.2.role = true then
           match cause x.2 with
           | some k => if x.2.verdict = some .blocked then none else some (Event.clientBlocked x.2.addr x.2.profile k)
           | none => if x.2.verdict = some .blocked then some (.clientAllowed x.2.addr x.2.profile) else none
         else none);
       t.su.clock = { grade := s.su.clock.grade, minute := m, milli := 0, sub := 0 } ∧
       (∀ p, p < 16 → profileOf t p = { profileOf s p with
         record := ((profileOf s p).staged).getD (profileOf s p).record, staged := none
         closed := if (profileOf s p).paused = true then some .pause
           else if inWindow (((profileOf s p).staged).getD (profileOf s p).record) .closed m = true then some .window
           else none }) ∧
       t.su.maintenance = inWindow (profileOf t 0).record .maintenance m ∧
       (∀ i, clientAt s i = none → clientAt t i = none) ∧
       (∀ i c, clientAt s i = some c → clientAt t i = some { ticked c with
         verdict := if isServing c.role = true then (if (cause c).isSome then some .blocked else some .allowed) else c.verdict
         games := if newly c then 0 else c.games }) ∧
       t.fc.flows = s.fc.flows.filter (fun q => !lost q) ∧
       t.fc.gameCount = s.fc.gameCount - s.fc.flows.countP (fun q => q.2.cls == .game && lost q) ∧
       t.fc.quietSince = (if 0 < s.fc.gameCount ∧ t.fc.gameCount = 0 then some t.now else s.fc.quietSince) ∧
       (tabSorted s.rc.clients = true →
         t.ml = (profileEvents ++ clientEvents).foldl (fun q e => offerEvent (stamp e t) q) s.ml) ∧
       t.ac = (if s.ac.state = .waiting ∧ activationOk t = true then { s.ac with state := .wanting, count := 0 }
         else if s.ac.state = .wanting ∧ activationOk t = false then { s.ac with state := .waiting, count := 0 } else s.ac) ∧
       t.now = s.now + (60000000000 - (s.su.clock.milli * 1000000 + s.su.clock.sub)) ∧
       t = { s with
         su := { s.su with clock := t.su.clock, profiles := t.su.profiles, maintenance := t.su.maintenance }
         rc := { s.rc with clients := t.rc.clients }
         fc := { s.fc with flows := t.fc.flows, gameCount := t.fc.gameCount, quietSince := t.fc.quietSince }
         ml := t.ml, ac := t.ac, now := t.now }))

/-- A share computation that completes stages the own grants of R89 to R92 on its snapshot; an abandoned one does
nothing (R88, R89, R90, R91, R92, R94). -/
def Obligations.ShareComputationStagesItsGrants : Prop :=
  (∀ s : State, alive s = true →
    (s.sc.inFlight = false ∨ s.sc.snapshot = none → exec .shareComputationDone s = .next s) ∧
    (∀ sn, s.sc.inFlight = true → s.sc.snapshot = some sn →
      exec .shareComputationDone s = .next { s with
        sc := { s.sc with inFlight := false, result := shareCompute sn, staged := (shareCompute sn).grants } })) ∧
  (∀ sn : Snapshot,
    let r := shareCompute sn
    let q := sn.params
    let total := fun demand : Part → Nat => (sn.parts.map demand).sum
    let pool := fun weight t : Nat => if t = 0 then 0 else r.r * weight / r.w
    let own := fun pool demand t : Nat => if t = 0 then 0 else pool * demand / t;
    r.epoch = sn.epoch ∧ r.params = q ∧ r.parts = sn.parts ∧ r.excluded = sn.excluded ∧
    r.g = total (fun p => p.demand.game) ∧ r.gcap = q.cap * q.gc / 100 ∧
    r.gameGrants = sn.parts.map (fun p =>
      (p.node, if r.g ≤ r.gcap then p.demand.game else p.demand.game * r.gcap / r.g)) ∧
    r.gg = (r.gameGrants.map Prod.snd).sum ∧ r.r = q.cap - r.gg ∧
    r.totals = { standard := total (fun p => p.demand.standard), bulk := total (fun p => p.demand.bulk),
                 update := total (fun p => p.demand.update) } ∧
    r.w = (if 0 < r.totals.standard then q.wS else 0) + (if 0 < r.totals.bulk then q.wB else 0) +
      (if 0 < r.totals.update then q.wU else 0) ∧
    r.pools = { standard := pool q.wS r.totals.standard, bulk := pool q.wB r.totals.bulk,
                update := pool q.wU r.totals.update } ∧
    r.capped = { standard := min r.pools.standard r.totals.standard, bulk := min r.pools.bulk r.totals.bulk,
                 update := min r.pools.update r.totals.update } ∧
    r.leftover = r.r - (r.capped.standard + r.capped.bulk + r.capped.update) ∧
    (let tS := min r.leftover (r.totals.standard - r.capped.standard)
     let tB := min (r.leftover - tS) (r.totals.bulk - r.capped.bulk)
     let tU := min (r.leftover - tS - tB) (r.totals.update - r.capped.update);
     r.spilled = { standard := r.capped.standard + tS, bulk := r.capped.bulk + tB, update := r.capped.update + tU } ∧
     r.remainder = r.leftover - tS - tB - tU) ∧
    (∀ p, sn.parts.find? (fun x => x.node == sn.self) = some p →
      r.grants = { game := if r.g ≤ r.gcap then p.demand.game else p.demand.game * r.gcap / r.g
                   standard := own r.spilled.standard p.demand.standard r.totals.standard
                   bulk := own r.spilled.bulk p.demand.bulk r.totals.bulk
                   update := own r.spilled.update p.demand.update r.totals.update }))

/-- The own grants of R92, and its bounds: GAME within its ceiling, the pools within the rest, the own grants within
CAP and within the own demand (R92). -/
def Obligations.ShareStaysWithinCapacity : Prop :=
  (∀ sn : Snapshot,
    let r := shareCompute sn
    let total := fun demand : Part → Nat => (sn.parts.map demand).sum
    let own := fun pool demand t : Nat => if 0 < t then pool * demand / t else 0;
    (∀ p, sn.parts.find? (fun x => x.node == sn.self) = some p →
      (∀ g, r.gameGrants.find? (fun x => x.1 == sn.self) = some g → r.grants.game = g.2) ∧
      r.grants.standard = own r.spilled.standard p.demand.standard (total (fun x => x.demand.standard)) ∧
      r.grants.bulk = own r.spilled.bulk p.demand.bulk (total (fun x => x.demand.bulk)) ∧
      r.grants.update = own r.spilled.update p.demand.update (total (fun x => x.demand.update)) ∧
      (p.demand.standard = 0 → r.grants.standard = 0) ∧ (p.demand.bulk = 0 → r.grants.bulk = 0) ∧
      (p.demand.update = 0 → r.grants.update = 0)) ∧
    (sn.params.gc ≤ 100 →
      (r.gameGrants.map Prod.snd).sum ≤ sn.params.cap * sn.params.gc / 100 ∧
      r.spilled.standard + r.spilled.bulk + r.spilled.update ≤ sn.params.cap - (r.gameGrants.map Prod.snd).sum ∧
      r.grants.game + r.grants.standard + r.grants.bulk + r.grants.update ≤ sn.params.cap ∧
      (∀ p, sn.parts.find? (fun x => x.node == sn.self) = some p →
        r.grants.game ≤ p.demand.game ∧ r.grants.standard ≤ p.demand.standard ∧ r.grants.bulk ≤ p.demand.bulk ∧
        r.grants.update ≤ p.demand.update))) ∧
  (∀ (sn : Snapshot) (s : State), alive s = true → s.sc.inFlight = true → s.sc.snapshot = some sn →
    exec .shareComputationDone s = .next { s with
      sc := { s.sc with inFlight := false, result := shareCompute sn, staged := (shareCompute sn).grants } })

/-- The assertion of supply-fail raises SUPPLY FAIL, queues an announcement PULSE and empties the waiting program
queue; at its end work and fetches resume (R13, R141, R145, R155, R168). The model's own: an edge to the level already
held changes nothing (assumption log 8), a part without its supply notes the level alone (assumption log 32), and a
START WRITE sequence in flight goes on (assumption log 59). That a chunk which is missing while a listed fetch has it
received is fetched too is the model's choice (assumption log 61). -/
def Obligations.SupplyFailEdgesRaiseEvents : Prop :=
  ∀ s : State,
    let heldPart := s.pins.powered = true ∧ s.pins.resetHeld = true
    let down := { s.pins with supplyFail := true }
    let up := { s.pins with supplyFail := false };
    (s.pins.supplyFail = true → exec .supplyFailAssert s = .next s) ∧
    (s.pins.supplyFail = false → exec .supplyFailDeassert s = .next s) ∧
    (s.pins.supplyFail = false → s.pins.powered = false → exec .supplyFailAssert s = .next { s with pins := down }) ∧
    (s.pins.supplyFail = true → s.pins.powered = false → exec .supplyFailDeassert s = .next { s with pins := up }) ∧
    (s.pins.supplyFail = false → heldPart →
      exec .supplyFailAssert s = .next { s with pins := down, ml := offerEvent (stamp .supplyFail s) s.ml }) ∧
    (s.pins.supplyFail = true → heldPart →
      exec .supplyFailDeassert s = .next { s with pins := up, ml := offerEvent (stamp .supplyRestored s) s.ml }) ∧
    (s.pins.supplyFail = false → alive s = true → txWaits s = true →
      let keep := match s.ie.op with
        | some (.chunk _ _ _ true) => 1
        | _ => 0
      let dropped := s.ie.progs.drop keep
      let m := offerEvent (stamp .supplyFail s) s.ml;
      exec .supplyFailAssert s = .next { s with
        pins := down
        ie := { s.ie with
          progs := s.ie.progs.take keep, presence := dropped.foldl (fun p g => tabErase p g.index) s.ie.presence }
        ml := if dropped.any Prog.host = true ∧ s.ml.state = .pending ∧ s.ml.code = 11 then
            { m with state := .done, outcome := some .busy, result := [3#8], polled := false } else m
        bu := if running s = true ∧ s.bu.control.any isPulse = false then
            { s.bu with control := joinControl (.pulse false) s.bu.control } else s.bu }) ∧
    (s.pins.supplyFail = true → alive s = true → txWaits s = true → s.ie.inc ≠ .filling →
      let u := { s with pins := up, ml := offerEvent (stamp .supplyRestored s) s.ml };
      (s.ie.op.isSome = true → exec .supplyFailDeassert s = .next u) ∧
      (∀ w r, s.ie.op = none → s.ie.headers = w :: r →
        exec .supplyFailDeassert s = .next { u with ie := { s.ie with op := some (.header w), headers := r } })) ∧
    (s.pins.supplyFail = true → alive s = true → txWaits s = true →
      let u := { s with pins := up, ml := offerEvent (stamp .supplyRestored s) s.ml };
      (s.ie.inc ≠ .filling → ∃ t, exec .supplyFailDeassert s = .next t ∧ flashWorkStarted u t) ∧
      (∀ d, s.ie.inc = .filling → s.ie.incDesc = some d →
        ∃ v t, exec .supplyFailDeassert s = .next t ∧ flashWorkStarted u v ∧ fetchesIssued d v t))

/-- A chunk read back right is present, the last one starts the check; one read back wrong is a fault, the second in a
page a remap (R137, R140, R149, R150, R151, R152, R156, R158). The clause on a chunk that left the queue is the
model's reading (assumption log 31), as is that a waiting BLOCK RESET IMAGE lets the sequence end with all its effects
(log 60). -/
def Obligations.ChunkProgramEndsPresentOrFaulted : Prop :=
  (∀ (rb : List Byte) (s : State), alive s = true → (∀ sl pos p b, s.ie.op ≠ some (.chunk sl pos p b)) →
    exec (.chunkProgramDone rb) s = .next s) ∧
  (∀ (rb : List Byte) (sl : Slot) (pos : Nat) (p : Prog) (s : State), alive s = true → txWaits s = true →
    s.ie.op = some (.chunk sl pos p false) → s.ie.resetWaits = false →
    ∃ t, exec (.chunkProgramDone rb) s = .next t ∧ t.ie.progs = s.ie.progs ∧ t.ie.tally = s.ie.tally ∧
      t.ie.inc = s.ie.inc ∧ heldCount t = heldCount s ∧
      (rb = p.data → t.ml = s.ml ∧
        t.flash.header sl = { s.flash.header sl with progress := tabSet (s.flash.header sl).progress pos () })) ∧
  (∀ (rb : List Byte) (sl : Slot) (pos : Nat) (p : Prog) (rest : List Prog) (s : State), alive s = true →
    txWaits s = true → s.ie.op = some (.chunk sl pos p true) → s.ie.progs = p :: rest → s.ie.resetWaits = false →
    let got := rb.take p.data.length ++ List.replicate (p.data.length - rb.length) 0xFF#8
    let page := p.index / 64
    let fault : FaultRec := { kind := .programVerify, slot := sl, block := pos / 64, chunk := p.index }
    let answered := fun (o : ReqOutcome) (b : Byte) (m : Ml) =>
      if p.host = true ∧ m.state = .pending ∧ m.code = 11 then
        { m with state := .done, outcome := some o, result := [b], polled := false } else m;
    ∃ t, exec (.chunkProgramDone rb) s = .next t ∧
      (∀ k, k < p.data.length → some (memRead t.flash.mem (chunkOffset sl pos + k)) = got[k]?) ∧
      (∀ a, a < chunkOffset sl pos ∨ chunkOffset sl pos + p.data.length ≤ a →
        memRead t.flash.mem a = memRead s.flash.mem a) ∧
      t.flash.header (otherSlot sl) = s.flash.header (otherSlot sl) ∧ t.fc = s.fc ∧ t.su = s.su ∧ t.ac = s.ac ∧
      (got = p.data →
        t.flash.header sl = { s.flash.header sl with progress := tabSet (s.flash.header sl).progress pos () } ∧
        tabGet t.ie.presence p.index = some .present ∧ t.ie.progs = rest ∧ t.ie.tally = s.ie.tally ∧
        t.ie.fault = s.ie.fault ∧ t.ml = answered .ok 0#8 s.ml ∧
        (∀ d, s.ie.incDesc = some d → s.ie.inc = .filling → tabSorted s.ie.presence = true →
          tabGet s.ie.presence p.index = some .awaiting →
          heldCount t = heldCount s + 1 ∧
          (heldCount s + 1 = chunkCount d.length → t.ie.inc = .checking ∧ t.ie.fetches = [] ∧
            t.ie.check = some { next := 0, register := 0xFFFFFFFF#32 }) ∧
          (heldCount s + 1 ≠ chunkCount d.length → t.ie.inc = .filling))) ∧
      (got ≠ p.data →
        t.flash.header sl = s.flash.header sl ∧ tabGet t.ie.presence p.index ≠ some .present ∧
        (page ∉ s.ie.tally → t.ie.tally = page :: s.ie.tally ∧ t.ie.fault = some fault ∧ t.ie.progs = rest ∧
          t.ie.incRemap = s.ie.incRemap ∧ t.ie.inc = s.ie.inc ∧
          t.ml = answered .busy 2#8 (offerEvent (stamp (.flashFault fault) s) s.ml)) ∧
        (∀ k, page ∈ s.ie.tally → k < 16 → (∀ e ∈ s.ie.incRemap, e.2 ≠ k) →
          (∀ j, j < k → ∃ e ∈ s.ie.incRemap, e.2 = j) →
          t.ie.incRemap = s.ie.incRemap ++ [(page, k)] ∧ t.ie.tally = s.ie.tally.filter (· != page) ∧
          t.ie.fault = some fault ∧ t.ie.progs = rest ∧ (∀ j, j / 64 = page → tabGet t.ie.presence j ≠ some .present) ∧
          t.ml = answered .busy 2#8 (offerEvent (stamp (.flashFault fault) s) s.ml)) ∧
        (∀ d, page ∈ s.ie.tally → (∀ j, j < 16 → ∃ e ∈ s.ie.incRemap, e.2 = j) → s.ie.incDesc = some d →
          t.ie.inc = .erasing ∧ t.ie.after = .image d ∧ t.ie.progs = [] ∧ t.ie.presence = [] ∧
          t.ie.fault = some { fault with kind := .slotFull } ∧
          t.ml.events = (offerEvent (stamp (.flashFault { fault with kind := .slotFull }) s)
            (offerEvent (stamp (.flashFault fault) s) s.ml)).events))) ∧
  (∀ (rb : List Byte) (sl : Slot) (pos : Nat) (p : Prog) (live : Bool) (s : State), alive s = true → txWaits s = true →
    s.ie.op = some (.chunk sl pos p live) → s.ie.resetWaits = true → s.ie.inc ≠ .empty → s.ml.state = .pending →
    s.ml.code = 25 →
    let got := rb.take p.data.length ++ List.replicate (p.data.length - rb.length) 0xFF#8
    let fault : FaultRec := { kind := .programVerify, slot := sl, block := pos / 64, chunk := p.index }
    ∃ t, exec (.chunkProgramDone rb) s = .next t ∧ t.ie.inc = .erasing ∧ t.ie.after = .nothing ∧
      t.ie.resetWaits = false ∧ t.ml.state = .pending ∧ t.ml.code = 25 ∧ t.fc = s.fc ∧ t.su = s.su ∧ t.es = s.es ∧
      (s.ac.state ≠ .swapping → s.ac.state ≠ .swapped → t.ac.state = .idle) ∧
      (s.ie.inc ≠ .erasing → t.ie.incDesc = none ∧ t.ie.presence = [] ∧ t.ie.fetches = [] ∧ t.ie.progs = [] ∧
        t.ie.check = none ∧ t.ie.erase = some 0) ∧
      t.flash.header (otherSlot sl) = s.flash.header (otherSlot sl) ∧
      (got = p.data → t.ml = s.ml ∧
        t.flash.header sl = { s.flash.header sl with progress := tabSet (s.flash.header sl).progress pos () }) ∧
      (got ≠ p.data → t.flash.header sl = s.flash.header sl ∧ t.ie.fault.isSome = true ∧
        (p.index / 64 ∉ s.ie.tally → t.ie.fault = some fault ∧ t.ml = offerEvent (stamp (.flashFault fault) s) s.ml)) ∧
      (s.ie.inc ≠ .erasing → s.pins.supplyFail = false → s.ie.headers = [] → p.index / 64 ∉ s.ie.tally →
        (s.flash.header (incSlot s)).erasing = false →
        t.ie.op = some (.header (.mark (incSlot s) .erasing)) ∧ t.ie.headers = []))

/-- A header program puts its mark in the header; block erases go on in order, and the header block's ends in EMPTY,
FILLING or REJECTED (R137, R139, R140, R141). -/
def Obligations.HeaderProgramsAndErasesEnd : Prop :=
  (∀ s : State, alive s = true → (∀ sl m, s.ie.op = some (.header (.mark sl m)) → isSwapMark m = true) →
    exec .headerProgramDone s = .next s) ∧
  (∀ (sl : Slot) (m : Mark) (s : State), alive s = true → txWaits s = true →
    s.ie.op = some (.header (.mark sl m)) → isSwapMark m = false →
    ∃ t, exec .headerProgramDone s = .next t ∧ t.flash.header sl = applyMark m (s.flash.header sl) ∧
      (∀ d, m = .fill d → t.flash.header sl = { s.flash.header sl with desc := some d, filling := true }) ∧
      (∀ d, m = .reject d → t.flash.header sl = { s.flash.header sl with desc := some d, reject := true }) ∧
      (m = .ready → t.flash.header sl = { s.flash.header sl with ready := true }) ∧
      (m = .erasing → t.flash.header sl = { s.flash.header sl with erasing := true }) ∧
      (∀ page spare, m = .remap page spare →
        t.flash.header sl = { s.flash.header sl with remap := (s.flash.header sl).remap ++ [(page, spare)] }) ∧
      t.flash.header (otherSlot sl) = s.flash.header (otherSlot sl) ∧ t.flash.mem = s.flash.mem ∧ t.ml = s.ml ∧
      t.ac = s.ac ∧ t.ie.inc = s.ie.inc ∧ t.ie.incDesc = s.ie.incDesc ∧ t.rc = s.rc ∧ t.fc = s.fc) ∧
  (∀ s : State, alive s = true → (∀ sl b, s.ie.op ≠ some (.erase sl b)) → exec .blockEraseDone s = .next s) ∧
  (∀ (sl : Slot) (b : Nat) (s : State), alive s = true → txWaits s = true → s.ie.op = some (.erase sl b) →
    ∃ t, exec .blockEraseDone s = .next t ∧ t.flash.header (otherSlot sl) = s.flash.header (otherSlot sl) ∧
      t.rc = s.rc ∧ t.fc = s.fc ∧ t.ac = s.ac ∧
      (b < 272 → t.flash.header sl = s.flash.header sl ∧ t.ie.erase = some (b + 1) ∧ t.ml = s.ml ∧
        ∀ a, memRead t.flash.mem a = if a / 65536 = dataBase sl + b then 0xFF#8 else memRead s.flash.mem a) ∧
      (272 ≤ b → t.flash.mem = s.flash.mem ∧ t.flash.header sl = Header.blank ∧ t.ie.tally = [] ∧ t.ie.incRemap = [] ∧
        t.ie.erase = none ∧ t.ie.after = .nothing ∧
        (∀ d, s.ie.after = .image d → t.ie.inc = .filling ∧ t.ie.incDesc = some d ∧ heldCount t = 0 ∧ t.ml = s.ml ∧
          (s.pins.supplyFail = false → s.ie.headers = [] →
            t.ie.op = some (.header (.mark (incSlot s) (.fill d))))) ∧
        (∀ d, s.ie.after = .rejection d → t.ie.inc = .rejected ∧ t.ie.incDesc = some d ∧ t.ml = s.ml ∧
          (s.pins.supplyFail = false → s.ie.headers = [] →
            t.ie.op = some (.header (.mark (incSlot s) (.reject d))))) ∧
        (s.ie.after = .nothing → t.ie.inc = .empty ∧
          t.ml = (if s.ml.state = .pending ∧ s.ml.code = 25 then
            { s.ml with state := .done, outcome := some .ok, result := [], polled := false } else s.ml))))

/-- Check reads decide the image by its CRC-32, serve reads offer chunks to UPDATE, IMAGE READ returns CRC-32 and
bytes (R81, R102, R111, R136, R138, R141, R148, R152, R154, R158, R163). The model's own: with another operation in
flight each command changes nothing (assumption log 8), and the AC's look at its conditions follows in ISOLATED too
(assumption log 38). That the result polled mark is clear while the request is PENDING is the model's choice
(assumption log 62). -/
def Obligations.FlashReadsCheckServeAndAnswer : Prop :=
  ((∀ chunks : List (List Byte), (~~~ (chunks.foldl crcFeed 0xFFFFFFFF#32)).toNat = crc32 chunks.flatten) ∧
  (∀ s : State, alive s = true → (∀ k, s.ie.op ≠ some (.checkRead k)) → exec .checkReadDone s = .next s) ∧
  ∀ (k : Nat) (s : State), alive s = true → txWaits s = true → s.ie.op = some (.checkRead k) →
    (s.ie.check = none → ∃ t, exec .checkReadDone s = .next t ∧ t.ie.inc = s.ie.inc ∧ t.ie.incDesc = s.ie.incDesc ∧
      t.ie.check = none ∧ t.ml = s.ml ∧ t.ac = s.ac ∧ t.flash = s.flash) ∧
    (∀ d c, s.ie.inc = .checking → s.ie.incDesc = some d → s.ie.check = some c → c.next = k →
      let reg := crcFeed c.register (readChunk s.flash (incSlot s) s.ie.incRemap d.length k)
      let e := fun x : Event => offerEvent (stamp x s) s.ml
      let ac := fun due : Bool => match s.ac.state with
        | .swapping => .swapping
        | .swapped => .swapped
        | .idle | .waiting | .wanting => if due then (if activationOk s then .wanting else .waiting) else .idle
        | .draining => if due then (if servedCount s = 0 then .leaving else .draining) else .idle
        | .leaving => if due then .leaving else .idle
      ∃ t, exec .checkReadDone s = .next t ∧ t.flash = s.flash ∧ t.fc = s.fc ∧ t.rc.clients = s.rc.clients ∧
        (s.ac.state ≠ .draining → t.rc = s.rc) ∧
        t.ac.state = ac (decide (chunkCount d.length ≤ k + 1 ∧ (~~~ reg).toNat = d.check ∧ activeNumber s < d.number)) ∧
        (s.ac.state = .idle → t.ac = { s.ac with state := t.ac.state, count := t.ac.count }) ∧
        (k + 1 < chunkCount d.length → t.ie.inc = .checking ∧ t.ie.check = some { next := k + 1, register := reg } ∧
          t.ml = s.ml) ∧
        (chunkCount d.length ≤ k + 1 → (~~~ reg).toNat = d.check →
          t.ie.inc = .ready ∧ t.ie.incDesc = some d ∧ t.ie.check = none ∧
          (s.ac.state ≠ .draining → t.ml = e (.imageReady d.number))) ∧
        (chunkCount d.length ≤ k + 1 → (~~~ reg).toNat ≠ d.check →
          t.ie.inc = .erasing ∧ t.ie.check = none ∧ t.ie.presence = [] ∧
          (d.failed < 2 → t.ie.after = .image { d with failed := d.failed + 1 } ∧
            (s.ie.progs = [] → t.ml = e (.imageCheckFailed d.number (d.failed + 1)))) ∧
          (2 ≤ d.failed → t.ie.after = .rejection { d with failed := 3 } ∧
            (s.ie.progs = [] → t.ml = e (.imageRejected d.number)))))) ∧
  ((∀ s : State, alive s = true → (∀ q, s.ie.op ≠ some (.serveRead q)) → exec .serveReadDone s = .next s) ∧
  ∀ (e : Serve) (rest : List Serve) (sl : Slot) (remap : List (Nat × Nat)) (d : Desc) (s : State), live s = true →
    txWaits s = true → s.ie.op = some (.serveRead e) → s.ie.serves = e :: rest →
    (∀ q ∈ rest, (servable s q.image).isSome = true) → servable s e.image = some (sl, remap, d) →
    let k := e.first + e.sent
    let data := readChunk s.flash sl remap d.length k
    let position := if e.count = 1 then 0 else if e.sent = 0 then 1 else if e.sent + 1 = e.count then 3 else 2
    let entry : QEntry := { len := 38 + data.length, cells := cellsFor (38 + data.length), cls := .update,
                            load := .chunk e.requester (.chunk e.image k e.number position (crc32 data) data) };
    ∃ t, exec .serveReadDone s = .next t ∧ t.flash = s.flash ∧ t.ml = s.ml ∧ t.rc = s.rc ∧ t.ac = s.ac ∧
      t.es.game = s.es.game ∧ t.es.standard = s.es.standard ∧ t.es.bulk = s.es.bulk ∧ t.es.node = s.es.node ∧
      (cellsOf s.es.update + entry.cells ≤ s.sl.params.limUpdate ∧ entry.cells ≤ s.es.free →
        t.es.update = s.es.update ++ [entry] ∧ t.es.free = s.es.free - entry.cells ∧
        t.fc = { s.fc with arrivals := { s.fc.arrivals with
          update := min (s.fc.arrivals.update + entry.len) 16777215 } } ∧
        t.ie.serves = (if e.sent + 1 < e.count then { e with sent := e.sent + 1 } :: rest else rest)) ∧
      (s.sl.params.limUpdate < cellsOf s.es.update + entry.cells ∨ s.es.free < entry.cells →
        t.es = s.es ∧ t.fc = s.fc ∧ t.ie.serves = rest)) ∧
  ((∀ (x : Submit) (s : State), requestTaken (lenIs 6) x s →
    let offset := field 0 4 (submitArgs x)
    let length := field 4 2 (submitArgs x)
    (activeNumber s = 0 → exec (.imageRead x) s = .next { s with ml := mlDone 12 x .notFound [] s }) ∧
    (∀ a, s.ie.activeDesc = some a → 0 < a.number → length = 0 ∨ 1024 < length ∨ a.length < offset + length →
      exec (.imageRead x) s = .next { s with ml := mlDone 12 x .outOfRange [] s }) ∧
    (∀ a, s.ie.activeDesc = some a → 0 < a.number → 1 ≤ length → length ≤ 1024 → offset + length ≤ a.length →
      ∃ t, exec (.imageRead x) s = .next t ∧ t.ml = mlPending 12 x s ∧
        t.ie.imageRead = some { offset := offset, length := length, got := [] } ∧ t.flash = s.flash ∧ t.es = s.es ∧
        (s.ie.op = none → s.ie.headers = [] → s.ie.progs = [] → t.ie.op = some .imageRead))) ∧
  (∀ s : State, alive s = true → s.ie.op ≠ some .imageRead → exec .imageReadDone s = .next s) ∧
  (∀ (r : ImageRead) (s : State), alive s = true → txWaits s = true → s.ie.op = some .imageRead →
    s.ie.imageRead = some r →
    let start := r.offset + r.got.length
    let n := min (1024 - start % 1024) (r.length - r.got.length)
    let got := r.got ++ (List.range n).map (fun k => memRead s.flash.mem
      (chunkOffset s.ie.activeSlot (physical s.ie.activeRemap ((start + k) / 1024)) + (start + k) % 1024))
    ∃ t, exec .imageReadDone s = .next t ∧ t.flash = s.flash ∧ t.es = s.es ∧ t.rc = s.rc ∧
      (got.length < r.length → t.ie.imageRead = some { r with got := got } ∧ t.ml = s.ml) ∧
      (r.length ≤ got.length → t.ie.imageRead = none ∧
        (s.ml.state = .pending → s.ml.code = 12 → t.ml = { s.ml with
          state := .done, outcome := some .ok, result := toBE 4 (crc32 got) ++ got, polled := false }))))

/-- ACTIVATE NOW, CANCEL ACTIVATION and SWAP SLOTS act by the AC state; a swap writes its two marks in order and ends
in SWAPPED (R63, R155, R158, R159, R160, R165, R166). The model's own: with another operation in flight
SWAP_PROGRAM_DONE changes nothing (assumption log 8), and ACTIVATE NOW looks at the conditions in ISOLATED too
(assumption log 38). That the result polled mark is clear while the request is PENDING is the model's choice
(assumption log 62). -/
def Obligations.ActivationAndSwapRequests : Prop :=
  ((∀ (x : Submit) (s : State), requestTaken (lenIs 0) x s →
    (s.ac.state = .draining ∨ s.ac.state = .leaving ∨ s.ac.state = .swapping ∨ s.ac.state = .swapped →
      exec (.activateNow x) s = .next { s with ml := mlDone 13 x .wrongState [] s }) ∧
    (s.ac.state = .idle ∨ s.ac.state = .waiting ∨ s.ac.state = .wanting →
      let ok := decide (s.ac.holdoffEnds ≤ s.now) && condQuiet s
      let state := if s.ac.state = .idle then AcState.idle else if ok then .wanting else .waiting;
      exec (.activateNow x) s = .next { s with
        ac := { s.ac with
          state := state, activateNow := true,
          count := if state = s.ac.state then s.ac.count else 0 }
        ml := mlDone 13 x .ok ([BitVec.ofNat 8 (acCode state), if s.ac.holdoffEnds ≤ s.now then 1#8 else 0#8, 1#8,
          if condQuiet s then 1#8 else 0#8, 1#8]) s })) ∧
  (∀ (x : Submit) (s : State), requestTaken (lenIs 0) x s →
    (s.ac.state = .swapping ∨ s.ac.state = .swapped →
      exec (.cancelActivation x) s = .next { s with ml := mlDone 15 x .wrongState [] s }) ∧
    (s.ac.state ≠ .swapping → s.ac.state ≠ .swapped →
      exec (.cancelActivation x) s = .next { s with
        rc := if s.ac.state = .draining then { s.rc with offers := [], lapsed := [] } else s.rc
        ac := if s.ac.state = .idle ∨ s.ac.state = .waiting then
            { s.ac with activateNow := false, holdoffEnds := s.now + 1800000000000 }
          else { s.ac with
            state := .waiting, count := 0, drainTimer := none, lapseTimer := none, activateNow := false,
            holdoffEnds := s.now + 1800000000000 }
        ml := mlDone 15 x .ok [BitVec.ofNat 8 (acCode s.ac.state)] s }))) ∧
  ((∀ (x : Submit) (s : State), requestTaken (lenIs 0) x s →
    let count := match (s.flash.header s.ie.activeSlot).activeCount with
      | some n => n + 1
      | none => 1
    let first := HeaderWork.mark (incSlot s) (.active count)
    let second := HeaderWork.mark s.ie.activeSlot .retired
    (s.ac.state ≠ .leaving → exec (.swapSlots x) s = .next { s with ml := mlDone 14 x .wrongState [] s }) ∧
    (s.ac.state = .leaving → 4294967295 < count →
      exec (.swapSlots x) s = .next { s with ml := mlDone 14 x .outOfRange [] s }) ∧
    (s.ac.state = .leaving → count ≤ 4294967295 →
      ∃ t, exec (.swapSlots x) s = .next t ∧ t.ac = { s.ac with state := .swapping, lapseTimer := none } ∧
        t.ml = mlPending 14 x s ∧ t.flash = s.flash ∧ t.rc = s.rc ∧ t.bu = s.bu ∧
        (s.pins.supplyFail = true → t.ie.headers = s.ie.headers ++ [first, second]) ∧
        (s.ie.op.isSome = true → t.ie.headers = s.ie.headers ++ [first, second]) ∧
        (s.pins.supplyFail = false → s.ie.op = none → s.ie.headers = [] →
          t.ie.op = some (.header first) ∧ t.ie.headers = [second]))) ∧
  (∀ s : State, alive s = true → (∀ sl n, s.ie.op ≠ some (.header (.mark sl (.active n)))) →
    (∀ sl, s.ie.op ≠ some (.header (.mark sl .retired))) → exec .swapProgramDone s = .next s) ∧
  (∀ (sl : Slot) (n : Nat) (s : State), alive s = true → txWaits s = true →
    s.ie.op = some (.header (.mark sl (.active n))) →
    ∃ t, exec .swapProgramDone s = .next t ∧ t.flash.mem = s.flash.mem ∧
      t.flash.header sl = { s.flash.header sl with activeCount := some n } ∧
      t.flash.header (otherSlot sl) = s.flash.header (otherSlot sl) ∧ t.ac = s.ac ∧ t.ml = s.ml) ∧
  (∀ s : State, alive s = true → txWaits s = true → acDraining s = false →
    s.ie.op = some (.header (.mark s.ie.activeSlot .retired)) →
    let count := ((s.flash.header (incSlot s)).activeCount).getD 0
    let m := offerEvent (stamp (.swapped (incomingNumber s) count) s) s.ml
    ∃ t, exec .swapProgramDone s = .next t ∧ t.ac = { s.ac with state := .swapped } ∧ t.flash.mem = s.flash.mem ∧
      t.flash.header s.ie.activeSlot = { s.flash.header s.ie.activeSlot with retired := true } ∧
      t.flash.header (incSlot s) = s.flash.header (incSlot s) ∧ t.ie.inc = s.ie.inc ∧
      t.ie.incDesc = s.ie.incDesc ∧ t.ie.activeDesc = s.ie.activeDesc ∧
      t.ml = (if s.ml.state = .pending ∧ s.ml.code = 14 then
        { m with state := .done, outcome := some .ok, result := toBE 4 count, polled := false } else m)))

/-- IMAGE BEGIN is refused, held already or taken by the slot's state; IMAGE CHUNK answers by Table 8-5 or awaits its
program (R140, R142, R143, R144, R149, R173). The result of a taken IMAGE BEGIN is the incoming state after it, the
model's reading (assumption log 54). That the result polled mark is clear while the request is PENDING is the model's
choice (assumption log 62). -/
def Obligations.ImageBeginAndImageChunk : Prop :=
  (∀ (x : Submit) (s : State), requestTaken (lenIs 12) x s → txWaits s = true →
    let d : Desc := { number := field 0 4 (submitArgs x), length := field 4 4 (submitArgs x),
                      check := field 8 4 (submitArgs x), failed := 0 }
    let refused := fun o : ReqOutcome =>
      exec (.imageBegin x) s = .next { s with ml := mlDone 10 x o [] s }
    let free := conflicts (heldIncoming s) d.number d.length d.check = false ∧
      conflicts s.ie.activeDesc d.number d.length d.check = false
    let fits := 1 ≤ d.number ∧ 1 ≤ d.length ∧ d.length ≤ 16777216
    (d.number = 0 → refused .badField) ∧
    (1 ≤ d.number → d.length = 0 ∨ 16777216 < d.length → refused .outOfRange) ∧
    (∀ h, fits → openImage s = some h → h.number = d.number → h.length = d.length → h.check = d.check →
      exec (.imageBegin x) s = .next { s with ml := mlDone 10 x .ok [BitVec.ofNat 8 (incCode s.ie.inc)] s }) ∧
    (∀ h, fits → openImage s = some h → h.number = d.number → (h.length ≠ d.length ∨ h.check ≠ d.check) →
      ∃ t, exec (.imageBegin x) s = .next t ∧ t.ml.state = .done ∧ t.ml.outcome = some .badField ∧ t.ml.result = [] ∧
        t.ie = { s.ie with conflictInc := true, conflictActive := t.ie.conflictActive } ∧ t.flash = s.flash ∧
        t.ac = s.ac) ∧
    (fits → free → (openImage s).any (sameImage d.number d.length d.check) = false → acQuiet s = false →
      refused .wrongState) ∧
    (fits → free → (openImage s).any (sameImage d.number d.length d.check) = false → acQuiet s = true →
      let goes := if s.ie.inc = .empty then IncState.filling else .erasing
      ∃ t, exec (.imageBegin x) s = .next t ∧ t.ie.inc = goes ∧ t.ml.state = .done ∧ t.ml.outcome = some .ok ∧
        t.ml.result = [BitVec.ofNat 8 (incCode goes)] ∧
        t.ml.events = (offerEvent (stamp (.imageFound 0 d.number d.length) s) s.ml).events ∧
        t.flash = s.flash ∧ heldCount t = (if s.ie.inc = .erasing then heldCount s else 0) ∧
        t.ac = (if s.ac.state = .idle then s.ac else
          { s.ac with state := .idle, count := 0, drainTimer := none, lapseTimer := none, activateNow := false }) ∧
        (s.ie.inc = .empty → t.ie.incDesc = some d) ∧ (s.ie.inc ≠ .empty → t.ie.after = .image d))) ∧
  (∀ (x : Submit) (s : State), requestTaken chunkLenOk x s →
    let image := field 0 4 (submitArgs x)
    let index := field 4 2 (submitArgs x)
    let crc := field 6 4 (submitArgs x)
    let data := (submitArgs x).drop 10
    let done := fun (o : ReqOutcome) (r : List Byte) =>
      exec (.imageChunk x) s = .next { s with ml := mlDone 11 x o r s }
    (s.ie.incDesc = none → done .wrongState []) ∧
    ∀ d, s.ie.incDesc = some d →
      let held := tabGet s.ie.presence index = some .awaiting ∨ tabGet s.ie.presence index = some .present
      let fits := s.ie.inc = .filling ∧ image = d.number
      let length := if index + 1 = chunkCount d.length then d.length - 1024 * index else 1024
      (¬ fits → done .wrongState []) ∧
      (fits → chunkCount d.length ≤ index → done .outOfRange []) ∧
      (fits → index < chunkCount d.length → data.length ≠ length ∨ crc32 data ≠ crc → done .badField []) ∧
      (fits → index < chunkCount d.length → data.length = length → crc32 data = crc →
        (held → done .ok [1#8]) ∧
        (¬ held → s.pins.supplyFail = true ∨ 4 ≤ s.ie.progs.length → done .busy [3#8]) ∧
        (¬ held → s.pins.supplyFail = false → s.ie.progs.length ≤ 3 →
          ∃ t, exec (.imageChunk x) s = .next t ∧ t.ml = mlPending 11 x s ∧
            t.ie.progs = s.ie.progs ++ [{ index := index, data := data, host := true }] ∧
            t.ie.presence = tabSet s.ie.presence index .awaiting ∧ t.ie.inc = .filling ∧ t.flash = s.flash ∧
            t.es = s.es ∧ t.bu = s.bu)))

/-- START WRITE waits as header-class work; at its end block 0 holds the bytes read back, and the record is reloaded
(R9, R82, R98, R115, R116, R141, R155, R169, R185, R188, R189, R190). Rests also on R17, R32, R53, R146 and R187. The
model's own: with another operation in flight the command changes nothing (assumption log 8), the outcome CLAMPED (log
13), a short read-back as erased bytes (log 15), a sequence in flight ends under supply-fail too (log 59), served
entries under a new own number (log 30), and the order of the losses' events (log 47). That the result polled mark is
clear while the request is PENDING is the model's choice (assumption log 62). -/
def Obligations.StartWriteReplacesBlockZero : Prop :=
  (∀ (x : Submit) (s : State), requestTaken recordLenOk x s →
    ∃ t, exec (.startWrite x) s = .next t ∧ t.ml = mlPending 24 x s ∧ t.flash = s.flash ∧ t.sl = s.sl ∧
      (s.ie.op.isSome = true ∨ s.pins.supplyFail = true →
        t.ie.headers = s.ie.headers ++ [.startRecord (submitArgs x)]) ∧
      (s.ie.op = none → s.pins.supplyFail = false → s.ie.headers = [] →
        t.ie.op = some (.header (.startRecord (submitArgs x))) ∧ t.ie.headers = [])) ∧
  (∀ (rb : List Byte) (s : State), alive s = true → (∀ b, s.ie.op ≠ some (.header (.startRecord b))) →
    exec (.startWriteDone rb) s = .next s) ∧
  (∀ (rb bytes : List Byte) (s : State), alive s = true → s.sl.part ≠ .starting → txWaits s = true → s.ml.state = .pending → s.ml.code = 24 →
    s.ie.op = some (.header (.startRecord bytes)) → bytes.length ≤ 1040 →
    let got := rb.take bytes.length ++ List.replicate (bytes.length - rb.length) 0xFF#8
    let same : Byte := if got = bytes then 0#8 else 1#8
    let lost := fun n : Nat => (peerOf s n).isSome
    let orphaned := fun o : Client => (o.role = .remote ∨ o.role = .claiming ∨ o.role = .expecting) ∧ lost o.serving = true
    let isolated := fun (own : Nat → Nat) (t : State) =>
      t.bu.peers = [] ∧ t.bu.control = [] ∧ t.bu.clash = s.bu.clash ∧ t.bu.seq = s.bu.seq ∧ t.su = s.su ∧
        t.es = { s.es with game := [], standard := [], bulk := [], update := [], node := [], free := 4096,
                           tokens := IntQuad.zero, pointer := .standard } ∧
        t.sc.inFlight = false ∧ t.sc.result = ShareResult.cleared ∧ t.sc.staged = Quad.zero ∧ t.sc.loaded = Quad.zero ∧
        t.fc.arrivals = Quad.zero ∧ t.fc.rules = s.fc.rules ∧ t.ie.serves = [] ∧
        t.ie.fetches = s.ie.fetches.filter (fun f => !lost f.peer) ∧ fetchesFailedBack lost s t ∧
        (∀ n, lost n = true → tabGet t.ie.strikes n = none ∧ tabGet t.ie.skips n = none) ∧
        (s.ac.state = .draining → t.rc.offers = [] ∧ t.rc.lapsed = []) ∧
        (∀ i, clientAt s i = none → clientAt t i = none) ∧
        (∀ i o, clientAt s i = some o → ∃ e, clientAt t i = some e ∧ e.addr = o.addr ∧ e.tenure = o.tenure ∧
          e.profile = o.profile ∧ e.used = o.used ∧ e.extra = o.extra ∧ e.average = o.average ∧
          (orphaned o → e.role = .orphan ∧ e.serving = 0 ∧ e.timer = some (s.now + 60000000000) ∧ e.claimNo = none) ∧
          (∀ n, o.role = .handing → o.claimant = some n → lost n = true →
            e.role = .served ∧ e.serving = own o.serving ∧ e.timer = none ∧ e.claimNo = none ∧ e.claimant = none ∧
            e.verdict = o.verdict) ∧
          (o.role = .served → e.role = .served ∧ e.serving = own o.serving ∧ e.timer = o.timer ∧
            e.verdict = o.verdict) ∧
          (o.role = .departed ∨ o.role = .orphan → e.role = o.role ∧ e.serving = o.serving ∧ e.timer = o.timer) ∧
          (∀ r, o.best = some r → e.best = if lost r.node then none else some r))
    let idled := fun (a : AcState) (t : State) => t.ac = { s.ac with
      state := a, count := 0, drainTimer := none, lapseTimer := none, activateNow := false }
    let active := s.ac.state = .wanting ∨ s.ac.state = .draining ∨ s.ac.state = .leaving
    let raised := fun (t : State) (more : List Event) =>
      ((loadEvents t.flash.mem ++ more).foldl (fun q e => offerEvent (stamp e s) q) s.ml).events
    let losses := match s.rc.clients with
      | [(_, c)] => if orphaned c then [Event.orphaned c.addr c.serving] else match c.role, c.claimant with
        | .handing, some n => if lost n then [Event.steerFailed c.addr n true] else []
        | _, _ => []
      | _ => []
    let refused := fun (outcome : Byte) (t : State) =>
      t.sl = { s.sl with part := .isolated } ∧ t.ml.result = [same, outcome, 2#8] ∧
        (s.sl.part = .running → isolated id t ∧ t.bu.pulseTimer = none ∧ t.bu.sightTimer = none ∧
          t.sc.epoch = s.sc.epoch ∧ t.fc = { s.fc with
            arrivals := Quad.zero, flows := tabMap s.fc.flows (fun x => { x with bytes := 0 }) } ∧
          (active → idled .waiting t) ∧ (¬ active → t.ac = { s.ac with activateNow := false }) ∧
          (s.rc.clients.length ≤ 1 → t.ml.events = raised t losses)) ∧
        (s.sl.part = .isolated → t.bu = s.bu ∧ t.rc = s.rc ∧ t.es = s.es ∧ t.sc = s.sc ∧ t.fc = s.fc ∧ t.ac = s.ac ∧
          t.ml.events = raised t [])
    let wait := fun old new : Nat => if new = old then none else some new
    let cut := fun (limit : Nat) (removed : Nat → List QEntry) (new : List QEntry) =>
      ∃ k, new = removed k ∧ cellsOf new ≤ limit ∧ ∀ j, j < k → limit < cellsOf (removed j)
    let oldest := fun (q : List QEntry) (k : Nat) => q.drop k
    let newest := fun (q : List QEntry) (k : Nat) => q.take (q.length - k)
    ∃ t, exec (.startWriteDone rb) s = .next t ∧ t.flash.headerA = s.flash.headerA ∧ t.flash.headerB = s.flash.headerB ∧
      (∀ a, a < 65536 → memRead t.flash.mem a = (got[a]?).getD 0xFF#8) ∧
      (∀ a, 65536 ≤ a → memRead t.flash.mem a = memRead s.flash.mem a) ∧
      t.ml.state = .done ∧ t.ml.outcome = some .ok ∧
      (∀ r o, readRecord t.flash.mem = .bad r o → refused 3#8 t) ∧
      (∀ l, readRecord t.flash.mem = .items l →
        let p := paramsOf l
        let outcome : Byte := if l.filterMap clampEvent = [] then 1#8 else 2#8
        let entered := t.sl = { s.sl with
            part := .running, params := p, recordGood := true, nextPulse := none, nextSight := none } ∧
          t.ml.result = [same, outcome, 1#8] ∧ t.bu.pulseTimer = some s.now ∧
          t.bu.sightTimer = some (s.now + p.sightPeriod * 1000000) ∧ t.sc.epoch = 0;
        (p.node = 0 → refused outcome t) ∧
        (1 ≤ p.node → s.sl.part = .isolated → entered ∧ t.bu.peers = s.bu.peers) ∧
        (1 ≤ p.node → s.sl.part = .running → p.node = s.sl.params.node → p.meshTag = s.sl.params.meshTag →
          p.frameType = s.sl.params.frameType →
          t.sl = { s.sl with
            params := { p with pulsePeriod := s.sl.params.pulsePeriod, sightPeriod := s.sl.params.sightPeriod }
            recordGood := true, nextPulse := wait s.sl.params.pulsePeriod p.pulsePeriod
            nextSight := wait s.sl.params.sightPeriod p.sightPeriod } ∧
          t.ml.result = [same, outcome, 1#8] ∧ t.bu = { s.bu with control := t.bu.control } ∧
          (s.ie.inc ≠ .filling → t.bu = s.bu) ∧
          (p.gmax = s.sl.params.gmax → t.rc = s.rc ∧ t.fc = s.fc) ∧
          (p.gmax ≠ s.sl.params.gmax → t.fc.flows = [] ∧ t.fc.gameCount = 0 ∧
            t.rc = { s.rc with clients := tabMap s.rc.clients (fun e => { e with games := 0 }) }) ∧
          cut p.limGame (oldest s.es.game) t.es.game ∧ cut p.limStandard (newest s.es.standard) t.es.standard ∧
          cut p.limBulk (newest s.es.bulk) t.es.bulk ∧ cut p.limUpdate (newest s.es.update) t.es.update ∧
          cut p.limNode (newest s.es.node) t.es.node ∧ t.es.free + heldCells t.es = s.es.free + heldCells s.es) ∧
        (1 ≤ p.node → s.sl.part = .running →
          p.node ≠ s.sl.params.node ∨ p.meshTag ≠ s.sl.params.meshTag ∨ p.frameType ≠ s.sl.params.frameType →
          entered ∧ isolated (fun k => if p.node = s.sl.params.node then k else p.node) t ∧
          t.fc = { s.fc with
            arrivals := Quad.zero
            flows := if p.gmax = s.sl.params.gmax then tabMap s.fc.flows (fun x => { x with bytes := 0 }) else []
            gameCount := if p.gmax = s.sl.params.gmax then s.fc.gameCount else 0
            quietSince := if p.gmax = s.sl.params.gmax ∧ s.fc.gameCount ≠ 0 then none else some s.now } ∧
          (active → imageDue s = true → idled (if activationOk t then .wanting else .waiting) t) ∧
          (s.rc.clients.length ≤ 1 → t.ml.events = raised t losses))))

/-- SUBMIT is void, refused as busy or by its first checks; POLL, COLLECT, EVENT MASK and unknown transactions act as
stated (R170, R171, R172, R174, R180, R181, R182, section 10.2). That SUBMIT_UNKNOWN_REQUEST only echoes for bytes of
the kinds POLL and COLLECT is the model's (assumption log 34 and 49). -/
def Obligations.LinkTakesTransactions : Prop :=
  (∀ (c : Instr) (code : Nat) (x : Submit) (s : State), submitOf c = some (code, x) → alive s = true →
    let m := { s.ml with miso := shiftedOut (2 + x.length) (echoBytes s) };
    (submitWhole x = false → exec c s = .next { s with ml := m }) ∧
    (submitWhole x = true → s.ml.state = .pending → exec c s = .next { s with ml := { m with busy := true } }) ∧
    (submitWhole x = true → s.ml.state ≠ .pending → s.sl.part = .starting →
      exec c s = .next { s with ml := mlDone code x .notReady [] s }) ∧
    (submitWhole x = true → s.ml.state ≠ .pending → s.sl.part ≠ .starting →
      1040 < submitLen x ∨ lengthFits code (submitArgs x) = false →
      exec c s = .next { s with ml := mlDone code x .badRequest [] s })) ∧
  (∀ (offset : BitVec 16) (n : Nat) (s : State), alive s = true →
    let d := if s.ml.state = .done then (s.ml.result.drop offset.toNat).take 256 else []
    let whole := decide (8 + d.length ≤ n ∧ s.ml.state = .done)
    exec (.poll offset n) s = .next { s with ml := { s.ml with
      miso := shiftedOut n (echoBytes s ++ d), polled := s.ml.polled || whole } }) ∧
  (∀ (n : Nat) (s : State), alive s = true →
    let d := match s.ml.events with
      | e :: _ => eventBytes e
      | [] => List.replicate 20 0#8
    ∃ t, exec (.collect n) s = .next t ∧ t = { s with ml := { s.ml with
        miso := shiftedOut n (echoBytes s ++ d), events := if 28 ≤ n then s.ml.events.drop 1 else s.ml.events } } ∧
      (interruptAsserted t = true ↔ t.ml.events ≠ [] ∨ (s.ml.state = .done ∧ s.ml.polled = false))) ∧
  (∀ (bytes : List Byte) (s : State), alive s = true → bytes.head? ≠ some 1#8 →
    exec (.submitUnknownRequest bytes) s = .next { s with ml := { s.ml with
      miso := shiftedOut bytes.length (echoBytes s) } }) ∧
  (∀ (b : Byte) (x : Submit) (s : State), alive s = true → submitWhole x = true → b = 0#8 ∨ 26 < b.toNat →
    (s.ml.state = .pending → exec (.submitUnknownRequest (1#8 :: b :: x)) s = .next { s with ml := { s.ml with
      miso := shiftedOut (2 + x.length) (echoBytes s), busy := true } }) ∧
    (s.ml.state ≠ .pending → s.sl.part ≠ .starting → exec (.submitUnknownRequest (1#8 :: b :: x)) s =
      .next { s with ml := mlDone b.toNat x .badRequest [] s })) ∧
  (∀ (x : Submit) (s : State), requestTaken (lenIs 8) x s →
    ∃ t, exec (.eventMask x) s = .next t ∧ t = { s with ml := { mlDone 23 x .ok (toBE 8 s.ml.mask.toNat) s with
        mask := t.ml.mask } } ∧
      ∀ k, k < 64 → t.ml.mask.getLsbD k = (decide (1 ≤ k ∧ k ≤ 33) && ((beNat (submitArgs x)) / 2 ^ k % 2 == 1)))

/-- SET TIME is refused out of range; taken, the clock is SET, a changed day empties the counters, profiles and
verdicts follow (R120, R121, R119, R127, R129, R133). -/
def Obligations.SetTimeBringsNewClock : Prop :=
  ∀ (x : Submit) (s : State), requestTaken (lenIs 4) x s →
    let m := field 0 2 (submitArgs x)
    let ms := field 2 2 (submitArgs x)
    let rolls := s.su.clock.minute / 1440 ≠ m / 1440
    (10079 < m ∨ 59999 < ms → exec (.setTime x) s = .next { s with ml := mlDone 1 x .outOfRange [] s }) ∧
    (m ≤ 10079 → ms ≤ 59999 →
      ∃ t, exec (.setTime x) s = .next t ∧ t.su.clock = { grade := .set, minute := m, milli := ms, sub := 0 } ∧
        t.bu = s.bu ∧ t.es = s.es ∧ t.sc = s.sc ∧ t.ie = s.ie ∧ t.flash = s.flash ∧ t.sl = s.sl ∧ t.now = s.now ∧
        t.ml.state = .done ∧ t.ml.outcome = some .ok ∧
        t.ml.result = toBE 1 (gradeCode s.su.clock.grade) ++ toBE 2 s.su.clock.minute ++ toBE 2 s.su.clock.milli ++
          (if rolls then [1#8] else [0#8]) ∧
        (∀ p, p < 16 → (profileOf t p).record = (profileOf s p).record ∧ (profileOf t p).paused = (profileOf s p).paused ∧
          (profileOf t p).staged = (profileOf s p).staged ∧
          (profileOf t p).closed = profileCause t.su.clock (profileOf s p)) ∧
        t.su.maintenance = inWindow (profileOf s 0).record .maintenance m ∧
        (∀ i c, clientAt s i = some c → ∃ e, clientAt t i = some e ∧ e.addr = c.addr ∧ e.role = c.role ∧
          e.profile = c.profile ∧
          (rolls → e.used = 0 ∧ e.extra = 0 ∧ e.drawn = 0 ∧ e.day = m / 1440) ∧
          (¬ rolls → e.used = c.used ∧ e.extra = c.extra ∧ e.drawn = c.drawn ∧ e.day = c.day) ∧
          (isServing c.role = true →
            e.verdict = if (blockCause t e).isSome then some .blocked else some .allowed)))

/-- CLIENT ATTACH makes an entry SERVED with a new tenure, holddown and ARRIVED; CLIENT DETACH makes one DEPARTED
without flows (R25, R26, R27, R31, R34, R44, R62, R63, R76, R77, R129, R163). Rests also on R23, R24, R29, R110 and
R132. The model's own: the order of the refusals (assumption log 25), keeping the other readings (log 46), last
activity set by CLIENT ATTACH of an entry already SERVED (log 20), an evicted entry's offer and lapsed record go with
it (log 21). -/
def Obligations.AttachAndDetachMoveClients : Prop :=
  (∀ (x : Submit) (s : State), requestTaken (lenIs 7) x s → txWaits s = true →
    let a := addrAt 0 (submitArgs x)
    let p := field 6 1 (submitArgs x)
    let rank := fun r : Role => if r = .departed then 0 else if r = .orphan then 1 else if r = .remote then 2 else 3
    let given := decide (p ≠ 255)
    let gone := fun (i : Nat) (f : Fc) =>
      let games := f.gameCount - f.flows.countP (fun q => q.2.client == i && q.2.cls == .game)
      { f with flows := f.flows.filter (fun q => q.2.client != i), gameCount := games
               quietSince := if 0 < f.gameCount ∧ games = 0 then some s.now else f.quietSince }
    let evicted := fun i : Nat => { s with
      fc := gone i s.fc
      rc := { s.rc with
        clients := tabErase s.rc.clients i, offers := s.rc.offers.filter (fun o => o.client != i)
        lapsed := tabErase s.rc.lapsed i } }
    let taken := fun (i : Nat) (c : Client) (tenure : BitVec 16) (b t : State) => ∃ e, clientAt t i = some e ∧
      (let cause := blockCause s e
       let newly := cause.isSome = true ∧ c.verdict ≠ some .blocked
       let done := mlDone 2 x .ok (toBE 1 i ++ toBE 2 tenure.toNat) s
       e = { c with
         role := .served, serving := s.sl.params.node, tenure := tenure, timer := none, claimNo := none, claimant := none
         holddownEnds := s.now + s.sl.params.holddown * 1000000000, lastActivity := s.now
         profile := if given then p else if c.given then c.profile else s.sl.params.pendingProfile
         given := given || c.given, better := if c.role = .remote ∨ c.serving ≠ s.sl.params.node then 0 else c.better
         servingReading := if c.serving = s.sl.params.node then c.servingReading else none
         used := if keepsCounters c.role then c.used else 0, extra := if keepsCounters c.role then c.extra else 0
         drawn := if keepsCounters c.role then c.drawn else 0
         day := if keepsCounters c.role then c.day else s.su.clock.minute / 1440
         games := if newly then 0 else c.games, verdict := if cause.isSome then some .blocked else some .allowed } ∧
       t = { b with
         rc := { b.rc with clients := tabSet b.rc.clients i e, offers := t.rc.offers }
         fc := if newly then gone i b.fc else b.fc
         bu := { s.bu with control := t.bu.control }
         ml := match cause with
           | some k => if newly then offerEvent (stamp (.clientBlocked c.addr e.profile k) s) done else done
           | none => if c.verdict = some .blocked then offerEvent (stamp (.clientAllowed c.addr e.profile) s) done
             else done }) ∧
      (∀ j, j ≠ i → clientAt t j = clientAt s j) ∧
      (acDraining s = false → t.rc.offers = b.rc.offers ∧ t.bu.control =
        if running s then joinControl (.bulletin 0 (.arrived c.addr tenure)) s.bu.control else s.bu.control) ∧
      (acDraining s = true → s.bu.control.length < 16 → running s = true →
        t.bu.control[s.bu.control.length]? = some (.bulletin 0 (.arrived c.addr tenure))) ∧
      t.ml.state = .done ∧ t.ml.outcome = some .ok ∧ t.ml.result = toBE 1 i ++ toBE 2 tenure.toNat
    let fresh := fun (i : Nat) (b : State) => ∃ t, exec (.clientAttach x) s = .next t ∧
      taken i (newClient s a .served s.sl.params.node 1) 1#16 b t;
    (isGroup a = true → exec (.clientAttach x) s = .next { s with ml := mlDone 2 x .badField [] s }) ∧
    (isGroup a = false → 15 < p → p ≠ 255 →
      exec (.clientAttach x) s = .next { s with ml := mlDone 2 x .outOfRange [] s }) ∧
    (∀ i c, p ≤ 15 ∨ p = 255 → entryOf s a i c →
      ∃ t, exec (.clientAttach x) s = .next t ∧ taken i c (nextNonzero c.tenure) s t) ∧
    (∀ i, p ≤ 15 ∨ p = 255 → isGroup a = false → findClient s a = none → tabFree s.rc.clients 256 = some i → fresh i s) ∧
    (p ≤ 15 ∨ p = 255 → isGroup a = false → findClient s a = none → tabFree s.rc.clients 256 = none →
      tabSorted s.rc.clients = true →
      ((∀ q ∈ s.rc.clients, 3 ≤ rank q.2.role) →
        exec (.clientAttach x) s = .next { s with ml := mlDone 2 x .tableFull [] s }) ∧
      (∀ i c, (i, c) ∈ s.rc.clients → rank c.role ≤ 2 →
        (∀ q ∈ s.rc.clients, rank c.role < rank q.2.role ∨ (rank c.role = rank q.2.role ∧
          (c.lastActivity < q.2.lastActivity ∨ (c.lastActivity = q.2.lastActivity ∧ i ≤ q.1)))) → fresh i (evicted i)))) ∧
  (∀ (x : Submit) (s : State), requestTaken (lenIs 6) x s → txWaits s = true →
    let a := addrAt 0 (submitArgs x)
    (findClient s a = none → exec (.clientDetach x) s = .next { s with ml := mlDone 3 x .notFound [] s }) ∧
    (∀ i c, entryOf s a i c → c.role = .remote ∨ c.role = .claiming ∨ c.role = .orphan ∨ c.role = .departed →
      exec (.clientDetach x) s = .next { s with ml := mlDone 3 x .wrongState [] s }) ∧
    (∀ i c, entryOf s a i c → c.role = .served ∨ c.role = .handing ∨ c.role = .expecting →
      ∃ t, exec (.clientDetach x) s = .next t ∧
        clientAt t i = some { c with
          role := .departed, serving := 0, timer := some (s.now + 60000000000), lastActivity := s.now, claimNo := none
          claimant := none, verdict := none, active := if c.role = .expecting then c.active else false, games := 0
          servingReading := if c.serving = 0 then c.servingReading else none
          better := if c.serving = 0 then c.better else 0 } ∧
        (∀ j, j ≠ i → clientAt t j = clientAt s j) ∧ 
        (let games := s.fc.gameCount - s.fc.flows.countP (fun q => q.2.client == i && q.2.cls == .game)
         t.fc = { s.fc with
           flows := s.fc.flows.filter (fun q => q.2.client != i), gameCount := games
           quietSince := if 0 < s.fc.gameCount ∧ games = 0 then some s.now else s.fc.quietSince }) ∧
        t.es = s.es ∧ t.su = s.su ∧ t.ie = s.ie ∧ t.flash = s.flash ∧ t.bu = { s.bu with control := t.bu.control } ∧
        (acDraining s = true → servedCount t = 0 → t.bu = s.bu ∧ t.rc.offers = [] ∧ t.rc.lapsed = [] ∧
          t.ac = { s.ac with state := .leaving, drainTimer := none, lapseTimer := some (s.now + 600000000000) } ∧
          t.ml = offerEvent (stamp (.readyToRestart (incomingNumber s) 0 false) s) (mlDone 3 x .ok [] s)) ∧
        (acDraining s = true → servedCount t ≠ 0 → t.ac = s.ac ∧ t.ml = mlDone 3 x .ok [] s) ∧
        (acDraining s = false → t.bu = s.bu ∧ t.ac = s.ac ∧ t.ml = mlDone 3 x .ok [] s))) ∧
  (∀ (c : Instr) (x : Submit) (s : State), c = .clientAttach x ∨ c = .clientDetach x → live s = true → s.es.backhaulTx = none → s.es.pause = none → s.bu.control = [] →
    (∀ k, s.es.queue (queueName k) = [] ∨ s.es.tokens.at k ≤ 0) →
    let busy : State := { s with es := { s.es with backhaulTx := some { bytes := [], ends := s.now } } }
    ∃ t, exec c busy = .next t ∧ exec c s = exec .backhaulTxDone t)

/-- CLIENT ASSIGN, PROFILE WRITE, PAUSE and RESUME are refused as stated, or take effect and evaluate states and
verdicts (R123, R125, R126, R127, R129, R130). The model's own: the order of the refusals (assumption log 25), the
result bytes 0 and 1 of PROFILE WRITE (assumption log 26), a strict byte other than 0 as set (assumption log 29). -/
def Obligations.AssignAndProfileRequestsEvaluate : Prop :=
  (∀ (x : Submit) (s : State), requestTaken (lenIs 9) x s →
    let a := addrAt 0 (submitArgs x)
    let p := field 6 1 (submitArgs x)
    let m := field 7 2 (submitArgs x)
    let refused := fun o : ReqOutcome => exec (.clientAssign x) s = .next { s with ml := mlDone 4 x o [] s }
    let fits := (p ≠ 255 ∨ m ≠ 65535) ∧ (p ≤ 15 ∨ p = 255) ∧ (m ≤ 240 ∨ m = 65535)
    (p = 255 → m = 65535 → refused .badField) ∧
    (p ≠ 255 ∨ m ≠ 65535 → (15 < p ∧ p ≠ 255) ∨ (240 < m ∧ m ≠ 65535) → refused .outOfRange) ∧
    (fits → findClient s a = none → refused .notFound) ∧
    (∀ i c, fits → entryOf s a i c → ∃ t e, exec (.clientAssign x) s = .next t ∧ clientAt t i = some e ∧
      e = { c with
        profile := if p = 255 then c.profile else p
        given := c.given || decide (p ≠ 255)
        extra := if m = 65535 then c.extra else min (c.extra + m) 240
        verdict := e.verdict, games := e.games } ∧
      (isServing c.role = false → e.verdict = c.verdict) ∧
      (isServing c.role = true → e.verdict = if (blockCause s e).isSome then some .blocked else some .allowed) ∧
      (∀ j, j ≠ i → clientAt t j = clientAt s j) ∧ t.ml.state = .done ∧ t.ml.outcome = some .ok ∧
      t.ml.result = toBE 1 e.profile ++ toBE 2 e.extra ++ toBE 1 (verdictCode e.verdict) ∧ t.bu = s.bu ∧
      t.su = s.su ∧ t.es = s.es)) ∧
  (∀ (x : Submit) (s : State), requestTaken profileLenOk x s →
    let d := submitArgs x
    let p := field 0 1 d
    let n := field 1 1 d
    let ws := rawWindows n (d.drop 2)
    let budget := field (2 + 6 * n) 2 d
    let refused := fun o : ReqOutcome => exec (.profileWrite x) s = .next { s with ml := mlDone 5 x o [] s }
    let out := 15 < p ∨ 8 < n ∨ 1440 < budget ∨ ∃ w ∈ ws, 1439 < w.start ∨ w.stop = 0 ∨ 1440 < w.stop
    let bad := ∃ w ∈ ws, w.stop ≤ w.start ∨ w.mask.getLsbD 7 = true ∨ (w.kind ≠ 1 ∧ w.kind ≠ 2) ∨ (w.kind = 2 ∧ p ≠ 0)
    let r : ProfileRecord := { windows := ws.map windowOf, budget := budget, strict := field (4 + 6 * n) 1 d != 0 }
    (out → refused .outOfRange) ∧ (¬ out → bad → refused .badField) ∧
    (¬ out → ¬ bad → s.su.clock.grade ≠ .unset → exec (.profileWrite x) s = .next { s with
      su := { s.su with profiles := tabSet s.su.profiles p { profileOf s p with staged := some r } }
      ml := mlDone 5 x .ok [1#8] s }) ∧
        (¬ out → ¬ bad → s.su.clock.grade = .unset → ∃ t, exec (.profileWrite x) s = .next t ∧
      profileOf t p = { record := r, paused := (profileOf s p).paused, staged := none,
                        closed := if (profileOf s p).paused then some .pause else if r.strict then some .strict else none } ∧
      (∀ q, q ≠ p → profileOf t q = profileOf s q) ∧ t.ml.state = .done ∧ t.ml.outcome = some .ok ∧
      t.ml.result = [0#8] ∧ (p = 0 → t.su.maintenance = false) ∧ t.su.clock = s.su.clock ∧ t.bu = s.bu ∧
      (∀ i c, clientAt s i = some c → ∃ e, clientAt t i = some e ∧ e = { c with verdict := e.verdict, games := e.games } ∧
        (isServing c.role = false ∨ c.profile ≠ p → e = c) ∧
        (isServing c.role = true → c.profile = p →
          e.verdict = if (blockCause t e).isSome then some .blocked else some .allowed)))) ∧
  (∀ (b : Bool) (x : Submit) (s : State), requestTaken (lenIs 1) x s →
    let c := if b then Instr.profilePause x else .profileResume x
    let code := if b then 6 else 7
    let p := field 0 1 (submitArgs x)
    let to_ := { profileOf s p with paused := b }
    (15 < p → exec c s = .next { s with ml := mlDone code x .outOfRange [] s }) ∧
    (p ≤ 15 → ∃ t, exec c s = .next t ∧ profileOf t p = { to_ with closed := profileCause s.su.clock to_ } ∧
      (∀ q, q ≠ p → profileOf t q = profileOf s q) ∧ t.ml.state = .done ∧ t.ml.outcome = some .ok ∧
      t.ml.result = [if (profileCause s.su.clock to_).isSome then 1#8 else 0#8] ∧ t.su.clock = s.su.clock ∧
      t.bu = s.bu ∧ t.ac = s.ac ∧
      (∀ i k, clientAt s i = some k → ∃ e, clientAt t i = some e ∧ e = { k with verdict := e.verdict, games := e.games } ∧
        (isServing k.role = false ∨ k.profile ≠ p → e = k) ∧
        (isServing k.role = true → k.profile = p →
          e.verdict = if (blockCause t e).isSome then some .blocked else some .allowed)))) ∧
  (∀ (c : Client) (s : State),
    let p := profileOf s c.profile
    let r := p.record
    let m := s.su.clock.minute
    let unset := s.su.clock.grade = .unset
    let closed := r.windows.any (fun w => w.kind == .closed && w.mask.getLsbD (m / 1440) && decide (w.start ≤ m % 1440) &&
      decide (m % 1440 < w.stop))
    blockCause s c = if p.paused = true then some .pause else if unset ∧ r.strict = true then some .strict
      else if ¬ unset ∧ closed = true ∧ c.extra = 0 then some .window
      else if 0 < r.budget ∧ r.budget ≤ c.used ∧ c.extra = 0 then some .budget else none)

/-- Frames are read and keyed as R66 to R69 state; RULE WRITE replaces a rule whole or is refused, RULE CLEAR unsets
it; the first rule that matches decides (R66, R67, R68, R69, R70, R71). OUT_OF_RANGE before BAD_FIELD is the model's
order (assumption log 25). -/
def Obligations.RulesAreWrittenAndCleared : Prop :=
  (∀ (x : Submit) (s : State), requestTaken (lenIs 17) x s →
    let d := submitArgs x
    let n := fun k : Nat => field k 1 d
    let has := fun k : Nat => ((d.drop 1).headD 0#8).getLsbD k
    let two := fun k : Nat => (field k 2 d, field (k + 2) 2 d)
    let refused := fun o : ReqOutcome => exec (.ruleWrite x) s = .next { s with ml := mlDone 8 x o [] s }
    let out := 31 < n 0 ∨ (has 6 = true ∧ 15 < n 15) ∨ (has 5 = true ∧ 63 < n 14)
    let bad := (has 2 = true ∧ (two 4).2 < (two 4).1) ∨ (has 3 = true ∧ (two 8).2 < (two 8).1) ∨
      (has 4 = true ∧ (7 < n 12 ∨ 7 < n 13 ∨ n 13 < n 12)) ∨ (has 0 = true ∧ n 2 ≠ 4 ∧ n 2 ≠ 6) ∨
      (has 1 = true ∧ (n 3 = 0 ∨ 3 < n 3)) ∨ n 16 = 0 ∨ 3 < n 16
    let r : Rule := {
      valid := true
      version := if has 0 then some (n 2) else none
      proto := if has 1 then some (if n 3 = 1 then .tcp else if n 3 = 2 then .udp else .other) else none
      remotePort := if has 2 then some (two 4) else none
      localPort := if has 3 then some (two 8) else none
      priority := if has 4 then some (n 12, n 13) else none
      dscp := if has 5 then some (n 14) else none
      profile := if has 6 then some (n 15) else none
      action := if n 16 = 1 then .game else if n 16 = 2 then .standard else .bulk };
    (out → refused .outOfRange) ∧ (¬ out → bad → refused .badField) ∧
    (¬ out → ¬ bad → exec (.ruleWrite x) s = .next { s with
      fc := { s.fc with rules := tabSet s.fc.rules (n 0) r }
      ml := mlDone 8 x .ok [] s })) ∧
        (∀ (x : Submit) (s : State), requestTaken (lenIs 1) x s →
    let i := field 0 1 (submitArgs x)
    (31 < i → exec (.ruleClear x) s = .next { s with ml := mlDone 9 x .outOfRange [] s }) ∧
    (i ≤ 31 → ∃ t, exec (.ruleClear x) s = .next t ∧
      t = { s with fc := { s.fc with rules := t.fc.rules }, ml := mlDone 9 x .ok [] s } ∧
      tabGet t.fc.rules i = (tabGet s.fc.rules i).map (fun r => { r with valid := false }) ∧
      ∀ j, j ≠ i → tabGet t.fc.rules j = tabGet s.fc.rules j)) ∧
  (∀ (rules : Table Rule) (k : FlowKey) (f : FrameInfo) (profile : Option Nat),
    let within := fun (r : Nat × Nat) (v : Nat) => r.1 ≤ v ∧ v ≤ r.2
    let ports := (f.proto = .tcp ∨ f.proto = .udp) ∧ f.fragment = false
    let fits := fun r : Rule => r.valid = true ∧ (∀ v, r.version = some v → k.version = v) ∧
      (∀ v, r.proto = some v → k.proto = v) ∧ (∀ v, r.remotePort = some v → ports ∧ within v k.remotePort) ∧
      (∀ v, r.localPort = some v → ports ∧ within v k.localPort) ∧
      (∀ v, r.priority = some v → ∃ t, f.priority = some t ∧ within v t) ∧ (∀ v, r.dscp = some v → f.dscp = v) ∧
      (∀ v, r.profile = some v → profile = some v);
    ((∀ q ∈ rules, ¬ fits q.2) → ruleResult rules k f profile = .standard) ∧
    (∀ a b i r, rules = a ++ (i, r) :: b → (∀ q ∈ a, ¬ fits q.2) → fits r → ruleResult rules k f profile = r.action)) ∧
  (∀ (macs outer inner ip : List Byte) (prio : Option Nat), macs.length = 12 →
    let tag := fun (x : List Byte) (b : Byte) => ∃ v c, (v = 0x8100 ∨ v = 0x88A8) ∧ x = toBE 2 v ++ [b, c]
    let frame := fun type : Nat => macs ++ outer ++ inner ++ toBE 2 type ++ ip
    let byte := fun k : Nat => field k 1 ip
    let protocol := fun v : Nat => if v = 6 then Proto.tcp else if v = 17 then .udp else .other
    let ports := fun v : Nat => v = 6 ∨ v = 17;
    (outer = [] ∧ inner = [] ∧ prio = none) ∨
      (∃ b, tag outer b ∧ prio = some (b.toNat / 32) ∧ (inner = [] ∨ ∃ c, tag inner c)) →
    (let head := 4 * (byte 0 % 16)
     let offset := field 6 2 ip % 8192
     let ported := ports (byte 9) ∧ offset = 0;
     readFrame (frame 0x0800) =
       if byte 0 / 16 = 4 ∧ 5 ≤ byte 0 % 16 ∧ head ≤ ip.length ∧ (ported → head + 4 ≤ ip.length) then
         some { version := 4, proto := protocol (byte 9), fragment := decide (offset ≠ 0), srcIp := field 12 4 ip,
                dstIp := field 16 4 ip, srcPort := if ported then field head 2 ip else 0,
                dstPort := if ported then field (head + 2) 2 ip else 0, dscp := byte 1 / 4, priority := prio }
       else none) ∧
    (readFrame (frame 0x86DD) =
       if byte 0 / 16 = 6 ∧ 40 ≤ ip.length ∧ (ports (byte 6) → 44 ≤ ip.length) then
         some { version := 6, proto := protocol (byte 6), fragment := false, srcIp := field 8 16 ip,
                dstIp := field 24 16 ip, srcPort := if ports (byte 6) then field 40 2 ip else 0,
                dstPort := if ports (byte 6) then field 42 2 ip else 0,
                dscp := (16 * (byte 0 % 16) + byte 1 / 16) / 4, priority := prio }
       else none) ∧
    (∀ type, type < 65536 → type ≠ 0x0800 → type ≠ 0x86DD → type ≠ 0x8100 → type ≠ 0x88A8 →
      readFrame (frame type) = none) ∧
    (∀ type, type = 0x8100 ∨ type = 0x88A8 → inner ≠ [] ∨ ip.length < 4 → readFrame (frame type) = none)) ∧
  (∀ d : List Byte, d.length < 14 → readFrame d = none) ∧
  (∀ (subject : Addr) (info : FrameInfo),
    flowKey subject true info =
      { subject := subject, version := info.version, proto := info.proto, remote := info.srcIp,
        remotePort := info.srcPort, localPort := info.dstPort } ∧
    flowKey subject false info =
      { subject := subject, version := info.version, proto := info.proto, remote := info.dstIp,
        remotePort := info.dstPort, localPort := info.srcPort }) ∧
  (∀ (it : NodeItem) (dst src : Addr) (rest : List Byte), it.bytes = addrBytes dst ++ addrBytes src ++ rest →
    itemSubjectDest it = it.flags.getLsbD 1 ∧ itemSubject it = if it.flags.getLsbD 1 then dst else src)

/-- The read requests change nothing but the link and return their items, or refuse an operand as stated (R96, R114,
R134, R157, R173, R177, R183). The model's own: which item takes how many bytes where no table says, the counts before
lists, READ PEER's 36 PULSE bytes (assumption log 26); which items have a presence byte, an absent descriptor and a
rule's absent matches as zeros (log 27); HELD while a pause is in force (log 53); a time rounded down to whole
milliseconds (log 58). -/
def Obligations.ReadRequestsReturnState : Prop :=
  (∀ (x : Submit) (s : State), requestTaken (lenIs 0) x s →
    exec (.readStatus x) s = .next { s with ml := mlDone 16 x .ok (statusBytes s) s } ∧
    exec (.readShare x) s = .next { s with ml := mlDone 20 x .ok (shareBytes s) s } ∧
    exec (.readFault x) s = .next { s with ml := mlDone 22 x .ok (faultBytes s.ie.fault) s }) ∧
  (∀ (x : Submit) (s : State), requestTaken (lenIs 1) x s →
    let n := field 0 1 (submitArgs x)
    let peer := fun (o : ReqOutcome) (r : List Byte) => exec (.readPeer x) s = .next { s with ml := mlDone 17 x o r s }
    let profile := fun (o : ReqOutcome) (r : List Byte) =>
      exec (.readProfile x) s = .next { s with ml := mlDone 21 x o r s }
    (n = 0 ∨ 8 < n → peer .outOfRange []) ∧ (1 ≤ n → n ≤ 8 → peer .ok (peerBytes (peerOf s n) s)) ∧
    (15 < n → profile .outOfRange []) ∧ (n ≤ 15 → profile .ok (profileBytes n s))) ∧
  (∀ (x : Submit) (s : State), requestTaken (lenIs 7) x s →
    let d := submitArgs x
    let client := fun (o : ReqOutcome) (r : List Byte) => exec (.readClient x) s = .next { s with ml := mlDone 18 x o r s }
    (1 < field 0 1 d → client .badField []) ∧
    (field 0 1 d = 0 → findClient s (addrAt 1 d) = none → client .notFound []) ∧
    (field 0 1 d = 1 → clientAt s (field 6 1 d) = none → client .notFound []) ∧
    (∀ i c, field 0 1 d = 0 → entryOf s (addrAt 1 d) i c → client .ok (clientBytes c s)) ∧
    (∀ c, field 0 1 d = 1 → clientAt s (field 6 1 d) = some c → client .ok (clientBytes c s))) ∧
  (∀ (x : Submit) (s : State), requestTaken (lenIs 3) x s →
    let k := field 0 1 (submitArgs x)
    let i := field 1 2 (submitArgs x)
    let flow := fun (o : ReqOutcome) (r : List Byte) => exec (.readFlow x) s = .next { s with ml := mlDone 19 x o r s }
    (1 < k → flow .badField []) ∧ ((k = 0 ∧ 511 < i) ∨ (k = 1 ∧ 31 < i) → flow .outOfRange []) ∧
    (k = 0 → i ≤ 511 → tabGet s.fc.flows i = none → flow .notFound []) ∧
    (∀ f, k = 0 → i ≤ 511 → tabGet s.fc.flows i = some f → flow .ok (flowBytes f s)) ∧
    (k = 1 → i ≤ 31 → (∀ r, tabGet s.fc.rules i = some r → r.valid = false) → flow .ok [0#8]) ∧
    (∀ r, k = 1 → i ≤ 31 → tabGet s.fc.rules i = some r → r.valid = true → flow .ok (1#8 :: ruleRecord r))) ∧
  (∀ s : State, (statusBytes s).length = 122 ∧
    (∀ p, (peerBytes (some p) s).length = 55) ∧ peerBytes none s = List.replicate 55 0#8 ∧
    (∀ f, (flowBytes f s).length = 39) ∧ (faultBytes s.ie.fault).length = 7) ∧
  (∀ (n : Nat) (p : Peer) (c : Client) (f : Flow) (w : Rule) (s : State),
    let flag := fun b : Bool => [if b then 1#8 else 0#8]
    let time := fun ns : Nat => toBE 4 (min (ns / 1000000) 4294967295)
    let left := fun d : Nat => time (d - s.now)
    let opt := fun o : Option (List Byte) => match o with
      | some d => 1#8 :: d
      | none => [0#8]
    let signed := fun v : Int => toBE 2 (v % 65536).toNat
    let four := fun (k : Nat) (q : Quad) => toBE k q.game ++ toBE k q.standard ++ toBE k q.bulk ++ toBE k q.update
    let three := fun q : Triple => toBE 4 q.standard ++ toBE 4 q.bulk ++ toBE 4 q.update
    let token := fun v : Int => toBE 4 (v % 4294967296).toNat
    let r := s.sc.result
    let record := fun w : ProfileRecord => toBE 1 w.windows.length ++
      w.windows.flatMap (fun v => v.mask :: toBE 2 v.start ++ toBE 2 v.stop ++ [if v.kind = .closed then 1#8 else 2#8]) ++
      toBE 2 w.budget ++ flag w.strict
    let q := profileOf s n
    let cause := match q.closed with
      | none => 0#8
      | some .pause => 1#8
      | some .strict => 2#8
      | some .window => 3#8
      | some .budget => 4#8
    let served := fun b : Bool => s.rc.clients.countP (fun e =>
      (e.2.role == .served || e.2.role == .handing) && e.2.profile == n && (b || e.2.verdict == some .blocked))
    (encodePulse p.adv).length = 36 ∧
    peerBytes (some p) s = toBE 1 (peerStateCode p.state) ++ toBE 6 p.addr.toNat ++ toBE 2 p.lastSeq.toNat ++
      flag p.lastFresh ++ toBE 1 p.quiet ++ toBE 1 p.run ++ flag p.heard ++ time (s.now - p.lastPulse) ++
      encodePulse p.adv ++ flag p.mismatch ++ flag p.skew ∧
    clientBytes c s = toBE 6 c.addr.toNat ++ toBE 1 (roleCode c.role) ++ toBE 1 c.serving ++ toBE 2 c.tenure.toNat ++
      opt (c.average.map (fun a => signed a.value)) ++ opt (c.average.map (fun a => time (s.now - a.since))) ++
      opt (c.best.map (fun b => signed b.value ++ toBE 1 b.node)) ++ opt (c.servingReading.map (fun a => signed a.value)) ++
      toBE 1 c.better ++ opt (c.claimNo.map (fun k => toBE 2 k.toNat)) ++ opt (c.claimant.map (fun k => toBE 1 k)) ++
      left (c.timer.getD 0) ++ left c.holddownEnds ++ toBE 1 c.profile ++ flag c.given ++ toBE 1 c.day ++ toBE 2 c.used ++
      toBE 2 c.extra ++ toBE 2 c.drawn ++ flag c.active ++ toBE 1 (verdictCode c.verdict) ++ toBE 1 c.games ++
      toBE 1 (c.refusal.getD 0) ++ time (s.now - c.lastActivity) ∧
    flowBytes f s = toBE 6 f.key.subject.toNat ++ toBE 1 f.key.version ++ toBE 1 (protoCode f.key.proto) ++
      toBE 16 f.key.remote ++ toBE 2 f.key.remotePort ++ toBE 2 f.key.localPort ++ toBE 1 (classCode f.cls) ++
      flag f.demoted ++ toBE 1 f.client ++ toBE 4 f.bytes ++ time (s.now - f.lastSeen) ∧
    shareBytes s = toBE 4 s.sc.epoch ++ flag s.sc.inFlight ++ toBE 4 r.epoch ++
      ([r.params.cap, r.params.gc, r.params.wS, r.params.wB, r.params.wU].flatMap (fun v => toBE 2 v)) ++
      toBE 1 r.parts.length ++
      r.parts.flatMap (fun a => toBE 1 a.node ++ four 2 a.demand ++ flag a.held ++ toBE 2 a.served) ++
      toBE 1 r.excluded.length ++ r.excluded.flatMap (fun e => toBE 1 e.1 ++ toBE 1 (shareReasonCode e.2)) ++
      toBE 4 r.g ++ toBE 4 r.gcap ++ r.gameGrants.flatMap (fun g => toBE 2 g.2) ++ toBE 4 r.gg ++ toBE 4 r.r ++
      three r.totals ++ toBE 2 r.w ++ three r.pools ++ three r.capped ++ three r.spilled ++ toBE 4 r.leftover ++
      toBE 4 r.remainder ++ four 2 r.grants ++ four 2 s.sc.loaded ++ toBE 4 s.sc.loadedEpoch ++
      token s.es.tokens.game ++ token s.es.tokens.standard ++ token s.es.tokens.bulk ++ token s.es.tokens.update ∧
    profileBytes n s = record q.record ++ flag q.paused ++ opt (q.staged.map record) ++ flag q.closed.isSome ++ [cause] ++
      toBE 2 (served true) ++ toBE 2 (served false) ++ toBE 1 (gradeCode s.su.clock.grade) ++
      toBE 2 s.su.clock.minute ++ toBE 2 s.su.clock.milli ++ (if n = 0 then flag s.su.maintenance else []) ∧
    (let queue := fun (limit : Nat) (l : List QEntry) =>
       toBE 2 limit ++ toBE 2 (l.map QEntry.cells).sum ++ toBE 2 l.length
     let l := s.sl.params
     let count := fun k : Nat => toBE 2 k
     statusBytes s =
       toBE 1 (partCode s.sl.part) ++ toBE 1 (causeOfReset s.sl.cause) ++ toBE 1 l.node ++ flag l.uplink ++
       toBE 2 l.pulsePeriod ++ toBE 2 l.sightPeriod ++
       toBE 1 (gradeCode s.su.clock.grade) ++ toBE 2 s.su.clock.minute ++ toBE 2 s.su.clock.milli ++
       [1, 2, 3, 4, 5, 6, 7, 8].flatMap (fun k => match peerOf s k with
         | some a => toBE 1 (peerStateCode a.state)
         | none => [0#8]) ++
       count (s.rc.clients.countP (fun e => e.2.role == .served || e.2.role == .handing)) ++ count s.rc.clients.length ++
       count s.fc.flows.length ++ count s.fc.gameCount ++ count s.es.free ++ queue l.limGame s.es.game ++
       queue l.limStandard s.es.standard ++ queue l.limBulk s.es.bulk ++ queue l.limUpdate s.es.update ++
       queue l.limNode s.es.node ++ flag s.es.pause.isSome ++ toBE 1 (classCode s.es.pointer) ++
       toBE 4 ((s.ie.activeDesc.map Desc.number).getD 0) ++ toBE 1 (incCode s.ie.inc) ++
       (match s.ie.incDesc with
        | some d => toBE 4 d.number ++ toBE 4 d.length ++ toBE 4 d.check ++ toBE 1 d.failed
        | none => List.replicate 13 0#8) ++
       count (s.ie.presence.countP (fun e => e.2 == .present)) ++ count s.ie.fetches.length ++ count s.ie.serves.length ++
       count s.ie.progs.length ++ toBE 1 (acCode s.ac.state) ++ toBE 1 s.ac.count ++ left (s.ac.drainTimer.getD 0) ++
       left (s.ac.lapseTimer.getD 0) ++ left s.ac.holdoffEnds ++ flag s.ac.activateNow ++
       flag (decide (s.ac.holdoffEnds ≤ s.now)) ++ flag (s.su.maintenance || s.ac.activateNow) ++
       flag (s.fc.gameCount == 0 && s.fc.quietSince.any (fun a => decide (a + 120000000000 ≤ s.now))) ++
       flag (s.su.clock.grade != .unset || s.ac.activateNow) ++ flag s.pins.supplyFail ++ toBE 4 s.sc.epoch ++
       toBE 1 s.ml.events.length ++ toBE 8 s.ml.mask.toNat) ∧
    faultBytes s.ie.fault = (match s.ie.fault with
      | some a => 1#8 :: toBE 1 (faultCode a.kind) ++ toBE 1 (slotCode a.slot) ++ toBE 2 a.block ++ toBE 2 a.chunk
      | none => List.replicate 7 0#8) ∧
    (let bit := fun (k : Nat) (b : Bool) => if b then 2 ^ k else 0
     let range := fun (k : Nat) (o : Option (Nat × Nat)) => match o with
       | some a => toBE k a.1 ++ toBE k a.2
       | none => List.replicate (2 * k) 0#8
     ruleRecord w =
       toBE 1 (bit 0 w.version.isSome + bit 1 w.proto.isSome + bit 2 w.remotePort.isSome + bit 3 w.localPort.isSome +
         bit 4 w.priority.isSome + bit 5 w.dscp.isSome + bit 6 w.profile.isSome) ++
       toBE 1 (w.version.getD 0) ++ (match w.proto with
         | some a => toBE 1 (protoCode a)
         | none => [0#8]) ++ range 2 w.remotePort ++ range 2 w.localPort ++ range 1 w.priority ++
       toBE 1 (w.dscp.getD 0) ++ toBE 1 (w.profile.getD 0) ++ toBE 1 (classCode w.action + 1))) ∧
  ([PartState.starting, .running, .isolated].map partCode = [0, 1, 2] ∧
    [ResetCause.power, .pin, .request].map causeOfReset = [1, 2, 3] ∧
    [PeerState.joining, .present, .silent].map peerStateCode = [1, 2, 3] ∧
    [Role.served, .handing, .remote, .claiming, .expecting, .orphan, .departed].map roleCode = [1, 2, 3, 4, 5, 6, 7] ∧
    [none, some Verdict.allowed, some .blocked].map verdictCode = [0, 1, 2] ∧
    [Grade.unset, .borrowed, .set].map gradeCode = [0, 1, 2] ∧
    [IncState.empty, .erasing, .filling, .checking, .ready, .rejected].map incCode = [0, 1, 2, 3, 4, 5] ∧
    [AcState.idle, .waiting, .wanting, .draining, .leaving, .swapping, .swapped].map acCode = [0, 1, 2, 3, 4, 5, 6] ∧
    [Sys2Proof.Machine.Class.game, .standard, .bulk, .update].map classCode = [0, 1, 2, 3] ∧
    [Proto.tcp, .udp, .other].map protoCode = [1, 2, 3] ∧ [FaultKind.programVerify, .slotFull].map faultCode = [1, 2] ∧
    [Slot.a, .b].map slotCode = [0, 1] ∧
    [ShareReason.joining, .silent, .period, .supply, .quiet].map shareReasonCode = [1, 2, 3, 4, 5])

/-- BLOCK RESET clears its target and keeps what the target's rules keep; another code is refused with BAD_FIELD (R21,
R32, R53, R65, R82, R99, R117, R135, R146, R156, R163, R176). Rests also on R43, R110, R158 and R182. The model's own:
every BLOCK RESET row acts by its target byte (assumption log 37), SHARE leaves the loaded grants' epoch at 0 (log
43), and while IMAGE waits for a sequence the slot's rules go on, with no fetch issued by the request itself (log 60).
That the result polled mark is clear while the request is PENDING is the model's choice (assumption log 62). -/
def Obligations.BlockResetsClearTheirTarget : Prop :=
  (∀ (c : Instr) (x : Submit) (s : State), submitOf c = some (25, x) → requestTaken (lenIs 1) x s → txWaits s = true →
    let k := field 0 1 (submitArgs x)
    let done := mlDone 25 x .ok [] s
    let emptied : Fc := { s.fc with
      flows := [], gameCount := 0, quietSince := if 0 < s.fc.gameCount then some s.now else s.fc.quietSince };
    (k = 1 → ∃ t, exec c s = .next t ∧ t.bu = { s.bu with peers := [] } ∧ t.ml.state = .done ∧ t.ml.outcome = some .ok ∧
      t.es = s.es ∧ t.sc = s.sc ∧ t.su = s.su ∧ t.flash = s.flash ∧ t.rc.noUplink = s.rc.noUplink ∧
      t.rc.claimCounter = s.rc.claimCounter ∧ fetchesFailedBack (fun n => (peerOf s n).isSome) s t ∧
      t.ie.fetches = s.ie.fetches.filter (fun f => (peerOf s f.peer).isNone) ∧
      (∀ n, (peerOf s n).isSome = true → tabGet t.ie.strikes n = none ∧ tabGet t.ie.skips n = none) ∧
      (∀ i o, clientAt s i = some o → ∃ e, clientAt t i = some e ∧ e.addr = o.addr ∧ e.tenure = o.tenure ∧
        e.profile = o.profile ∧ e.used = o.used ∧ e.extra = o.extra ∧ e.average = o.average ∧
        (o.role = .remote ∨ o.role = .claiming ∨ o.role = .expecting → (peerOf s o.serving).isSome = true →
          e.role = .orphan ∧ e.serving = 0 ∧ e.timer = some (s.now + 60000000000) ∧ e.claimNo = none ∧
          e.servingReading = none ∧ e.better = 0) ∧
        (∀ n, o.role = .handing → o.claimant = some n → (peerOf s n).isSome = true →
          e.role = .served ∧ e.serving = o.serving ∧ e.timer = none ∧ e.claimNo = none ∧ e.claimant = none ∧
          e.verdict = o.verdict) ∧
        (o.role = .served ∨ o.role = .departed ∨ o.role = .orphan →
          e.role = o.role ∧ e.serving = o.serving ∧ e.timer = o.timer ∧ e.verdict = o.verdict) ∧
        (∀ b, o.best = some b → e.best = if (peerOf s b.node).isSome then none else some b))) ∧
    (k = 2 → ∃ t, exec c s = .next t ∧ t.rc = { s.rc with clients := [], offers := [], lapsed := [] } ∧
      t.fc = emptied ∧ t.bu = s.bu ∧ t.es = s.es ∧ t.su = s.su ∧ t.ie = s.ie ∧ t.flash = s.flash ∧
      (acDraining s = false → t.ml = done) ∧
      (acDraining s = true → t.ac.state = .leaving ∧ t.ac.drainTimer = none ∧
        t.ac.lapseTimer = some (s.now + 600000000000))) ∧
    (k = 3 → ∃ t, exec c s = .next t ∧ t.fc = emptied ∧
      t.rc = { s.rc with clients := tabMap s.rc.clients (fun e => { e with games := 0 }) } ∧ t.ml = done ∧
      t.bu = s.bu ∧ t.es = s.es ∧ t.su = s.su ∧ t.ie = s.ie ∧ t.flash = s.flash) ∧
    (k = 4 → exec c s = .next { s with
      sc := { s.sc with inFlight := false, result := ShareResult.cleared, staged := Quad.zero, loaded := Quad.zero,
                        loadedEpoch := 0 }
      es := { s.es with tokens := IntQuad.zero }
      ml := done }) ∧
        (k = 5 → ∃ t, exec c s = .next t ∧ (∀ p, p < 16 → profileOf t p = Profile.blank) ∧ t.su.maintenance = false ∧
      t.su.clock = s.su.clock ∧ t.fc = { t.fc with rules := s.fc.rules, arrivals := s.fc.arrivals } ∧ t.bu = s.bu ∧
      t.es = s.es ∧ t.ie = s.ie ∧ t.ml.state = .done ∧ t.ml.outcome = some .ok ∧
      (∀ i e, clientAt s i = some e → e.profile < 16 → ∃ o, clientAt t i = some o ∧ o.role = e.role ∧
        o.profile = e.profile ∧ o.used = e.used ∧ o.extra = e.extra ∧
        (isServing e.role = true → o.verdict = some .allowed))) ∧
    (k = 6 → s.ac.state = .swapping ∨ s.ac.state = .swapped →
      exec c s = .next { s with ml := mlDone 25 x .wrongState [] s }) ∧
    (k = 6 → s.ac.state ≠ .swapping → s.ac.state ≠ .swapped →
      let waits := s.ie.inc ≠ .empty ∧ s.ie.inc ≠ .erasing ∧ ∃ sl pos p b, s.ie.op = some (.chunk sl pos p b);
      (waits → ∃ e : Ie, exec c s = .next { s with ie := e, ml := mlPending 25 x s } ∧
        e = { s.ie with fetches := [], serves := [], resetWaits := true, presence := e.presence } ∧
        (∀ j, tabGet s.ie.presence j = some .requested →
          (∃ f ∈ s.ie.fetches, inRun f j ∧ j ∉ f.received) → tabGet e.presence j = none) ∧
        (∀ j, tabGet s.ie.presence j ≠ some .requested ∨ (∀ f ∈ s.ie.fetches, inRun f j → j ∈ f.received) →
          tabGet e.presence j = tabGet s.ie.presence j)) ∧
      (¬ waits → ∃ t, exec c s = .next t ∧ t.ie.fetches = [] ∧ t.ie.serves = [] ∧ t.ac.state = .idle ∧
        t.flash = s.flash ∧ t.es = s.es ∧ t.bu = s.bu ∧ t.ie.strikes = s.ie.strikes ∧ t.ie.skips = s.ie.skips ∧
        t.ie.fault = s.ie.fault ∧ t.ie.activeSlot = s.ie.activeSlot ∧ t.ie.after = (if s.ie.inc = .empty then s.ie.after
          else .nothing) ∧
        (s.ie.inc = .empty → t.ie.inc = .empty ∧ t.ml = done) ∧
        (s.ie.inc ≠ .empty → t.ie.inc = .erasing ∧ t.ml = mlPending 25 x s))) ∧
    (k = 7 → exec c s = .next { s with ml := { done with events := [] } }) ∧
    (k = 0 ∨ 7 < k → exec c s = .next { s with ml := mlDone 25 x .badField [] s })) ∧
  (∀ (c : Instr) (x : Submit) (s : State), submitOf c = some (25, x) → live s = true → s.es.backhaulTx = none → s.es.pause = none → s.bu.control = [] →
    (∀ k, s.es.queue (queueName k) = [] ∨ s.es.tokens.at k ≤ 0) →
    let busy : State := { s with es := { s.es with backhaulTx := some { bytes := [], ends := s.now } } }
    ∃ t, exec c busy = .next t ∧ exec c s = exec .backhaulTxDone t)
end

