-- ==== Sys2Proof/Laws/State.lean ====
section
/-! SUPPORT. What each setter of State leaves in each field, true by definition. -/

namespace Sys2Proof.Machine

@[simp] theorem State.setBu_bu (s : State) (x : Bu) : (s.setBu x).bu = x := rfl
@[simp] theorem State.setBu_rc (s : State) (x : Bu) : (s.setBu x).rc = s.rc := rfl
@[simp] theorem State.setBu_fc (s : State) (x : Bu) : (s.setBu x).fc = s.fc := rfl
@[simp] theorem State.setBu_sc (s : State) (x : Bu) : (s.setBu x).sc = s.sc := rfl
@[simp] theorem State.setBu_es (s : State) (x : Bu) : (s.setBu x).es = s.es := rfl
@[simp] theorem State.setBu_su (s : State) (x : Bu) : (s.setBu x).su = s.su := rfl
@[simp] theorem State.setBu_flash (s : State) (x : Bu) : (s.setBu x).flash = s.flash := rfl
@[simp] theorem State.setBu_ie (s : State) (x : Bu) : (s.setBu x).ie = s.ie := rfl
@[simp] theorem State.setBu_ac (s : State) (x : Bu) : (s.setBu x).ac = s.ac := rfl
@[simp] theorem State.setBu_ml (s : State) (x : Bu) : (s.setBu x).ml = s.ml := rfl
@[simp] theorem State.setBu_sl (s : State) (x : Bu) : (s.setBu x).sl = s.sl := rfl
@[simp] theorem State.setBu_pins (s : State) (x : Bu) : (s.setBu x).pins = s.pins := rfl
@[simp] theorem State.setBu_now (s : State) (x : Bu) : (s.setBu x).now = s.now := rfl
@[simp] theorem State.setBu_free (s : State) (x : Bu) : (s.setBu x).free = s.free := rfl
@[simp] theorem State.setBu_pending (s : State) (x : Bu) : (s.setBu x).pending = s.pending := rfl

@[simp] theorem State.setRc_bu (s : State) (x : Rc) : (s.setRc x).bu = s.bu := rfl
@[simp] theorem State.setRc_rc (s : State) (x : Rc) : (s.setRc x).rc = x := rfl
@[simp] theorem State.setRc_fc (s : State) (x : Rc) : (s.setRc x).fc = s.fc := rfl
@[simp] theorem State.setRc_sc (s : State) (x : Rc) : (s.setRc x).sc = s.sc := rfl
@[simp] theorem State.setRc_es (s : State) (x : Rc) : (s.setRc x).es = s.es := rfl
@[simp] theorem State.setRc_su (s : State) (x : Rc) : (s.setRc x).su = s.su := rfl
@[simp] theorem State.setRc_flash (s : State) (x : Rc) : (s.setRc x).flash = s.flash := rfl
@[simp] theorem State.setRc_ie (s : State) (x : Rc) : (s.setRc x).ie = s.ie := rfl
@[simp] theorem State.setRc_ac (s : State) (x : Rc) : (s.setRc x).ac = s.ac := rfl
@[simp] theorem State.setRc_ml (s : State) (x : Rc) : (s.setRc x).ml = s.ml := rfl
@[simp] theorem State.setRc_sl (s : State) (x : Rc) : (s.setRc x).sl = s.sl := rfl
@[simp] theorem State.setRc_pins (s : State) (x : Rc) : (s.setRc x).pins = s.pins := rfl
@[simp] theorem State.setRc_now (s : State) (x : Rc) : (s.setRc x).now = s.now := rfl
@[simp] theorem State.setRc_free (s : State) (x : Rc) : (s.setRc x).free = s.free := rfl
@[simp] theorem State.setRc_pending (s : State) (x : Rc) : (s.setRc x).pending = s.pending := rfl

@[simp] theorem State.setFc_bu (s : State) (x : Fc) : (s.setFc x).bu = s.bu := rfl
@[simp] theorem State.setFc_rc (s : State) (x : Fc) : (s.setFc x).rc = s.rc := rfl
@[simp] theorem State.setFc_fc (s : State) (x : Fc) : (s.setFc x).fc = x := rfl
@[simp] theorem State.setFc_sc (s : State) (x : Fc) : (s.setFc x).sc = s.sc := rfl
@[simp] theorem State.setFc_es (s : State) (x : Fc) : (s.setFc x).es = s.es := rfl
@[simp] theorem State.setFc_su (s : State) (x : Fc) : (s.setFc x).su = s.su := rfl
@[simp] theorem State.setFc_flash (s : State) (x : Fc) : (s.setFc x).flash = s.flash := rfl
@[simp] theorem State.setFc_ie (s : State) (x : Fc) : (s.setFc x).ie = s.ie := rfl
@[simp] theorem State.setFc_ac (s : State) (x : Fc) : (s.setFc x).ac = s.ac := rfl
@[simp] theorem State.setFc_ml (s : State) (x : Fc) : (s.setFc x).ml = s.ml := rfl
@[simp] theorem State.setFc_sl (s : State) (x : Fc) : (s.setFc x).sl = s.sl := rfl
@[simp] theorem State.setFc_pins (s : State) (x : Fc) : (s.setFc x).pins = s.pins := rfl
@[simp] theorem State.setFc_now (s : State) (x : Fc) : (s.setFc x).now = s.now := rfl
@[simp] theorem State.setFc_free (s : State) (x : Fc) : (s.setFc x).free = s.free := rfl
@[simp] theorem State.setFc_pending (s : State) (x : Fc) : (s.setFc x).pending = s.pending := rfl

@[simp] theorem State.setSc_bu (s : State) (x : Sc) : (s.setSc x).bu = s.bu := rfl
@[simp] theorem State.setSc_rc (s : State) (x : Sc) : (s.setSc x).rc = s.rc := rfl
@[simp] theorem State.setSc_fc (s : State) (x : Sc) : (s.setSc x).fc = s.fc := rfl
@[simp] theorem State.setSc_sc (s : State) (x : Sc) : (s.setSc x).sc = x := rfl
@[simp] theorem State.setSc_es (s : State) (x : Sc) : (s.setSc x).es = s.es := rfl
@[simp] theorem State.setSc_su (s : State) (x : Sc) : (s.setSc x).su = s.su := rfl
@[simp] theorem State.setSc_flash (s : State) (x : Sc) : (s.setSc x).flash = s.flash := rfl
@[simp] theorem State.setSc_ie (s : State) (x : Sc) : (s.setSc x).ie = s.ie := rfl
@[simp] theorem State.setSc_ac (s : State) (x : Sc) : (s.setSc x).ac = s.ac := rfl
@[simp] theorem State.setSc_ml (s : State) (x : Sc) : (s.setSc x).ml = s.ml := rfl
@[simp] theorem State.setSc_sl (s : State) (x : Sc) : (s.setSc x).sl = s.sl := rfl
@[simp] theorem State.setSc_pins (s : State) (x : Sc) : (s.setSc x).pins = s.pins := rfl
@[simp] theorem State.setSc_now (s : State) (x : Sc) : (s.setSc x).now = s.now := rfl
@[simp] theorem State.setSc_free (s : State) (x : Sc) : (s.setSc x).free = s.free := rfl
@[simp] theorem State.setSc_pending (s : State) (x : Sc) : (s.setSc x).pending = s.pending := rfl

@[simp] theorem State.setEs_bu (s : State) (x : Es) : (s.setEs x).bu = s.bu := rfl
@[simp] theorem State.setEs_rc (s : State) (x : Es) : (s.setEs x).rc = s.rc := rfl
@[simp] theorem State.setEs_fc (s : State) (x : Es) : (s.setEs x).fc = s.fc := rfl
@[simp] theorem State.setEs_sc (s : State) (x : Es) : (s.setEs x).sc = s.sc := rfl
@[simp] theorem State.setEs_es (s : State) (x : Es) : (s.setEs x).es = x := rfl
@[simp] theorem State.setEs_su (s : State) (x : Es) : (s.setEs x).su = s.su := rfl
@[simp] theorem State.setEs_flash (s : State) (x : Es) : (s.setEs x).flash = s.flash := rfl
@[simp] theorem State.setEs_ie (s : State) (x : Es) : (s.setEs x).ie = s.ie := rfl
@[simp] theorem State.setEs_ac (s : State) (x : Es) : (s.setEs x).ac = s.ac := rfl
@[simp] theorem State.setEs_ml (s : State) (x : Es) : (s.setEs x).ml = s.ml := rfl
@[simp] theorem State.setEs_sl (s : State) (x : Es) : (s.setEs x).sl = s.sl := rfl
@[simp] theorem State.setEs_pins (s : State) (x : Es) : (s.setEs x).pins = s.pins := rfl
@[simp] theorem State.setEs_now (s : State) (x : Es) : (s.setEs x).now = s.now := rfl
@[simp] theorem State.setEs_free (s : State) (x : Es) : (s.setEs x).free = s.free := rfl
@[simp] theorem State.setEs_pending (s : State) (x : Es) : (s.setEs x).pending = s.pending := rfl

@[simp] theorem State.setSu_bu (s : State) (x : Su) : (s.setSu x).bu = s.bu := rfl
@[simp] theorem State.setSu_rc (s : State) (x : Su) : (s.setSu x).rc = s.rc := rfl
@[simp] theorem State.setSu_fc (s : State) (x : Su) : (s.setSu x).fc = s.fc := rfl
@[simp] theorem State.setSu_sc (s : State) (x : Su) : (s.setSu x).sc = s.sc := rfl
@[simp] theorem State.setSu_es (s : State) (x : Su) : (s.setSu x).es = s.es := rfl
@[simp] theorem State.setSu_su (s : State) (x : Su) : (s.setSu x).su = x := rfl
@[simp] theorem State.setSu_flash (s : State) (x : Su) : (s.setSu x).flash = s.flash := rfl
@[simp] theorem State.setSu_ie (s : State) (x : Su) : (s.setSu x).ie = s.ie := rfl
@[simp] theorem State.setSu_ac (s : State) (x : Su) : (s.setSu x).ac = s.ac := rfl
@[simp] theorem State.setSu_ml (s : State) (x : Su) : (s.setSu x).ml = s.ml := rfl
@[simp] theorem State.setSu_sl (s : State) (x : Su) : (s.setSu x).sl = s.sl := rfl
@[simp] theorem State.setSu_pins (s : State) (x : Su) : (s.setSu x).pins = s.pins := rfl
@[simp] theorem State.setSu_now (s : State) (x : Su) : (s.setSu x).now = s.now := rfl
@[simp] theorem State.setSu_free (s : State) (x : Su) : (s.setSu x).free = s.free := rfl
@[simp] theorem State.setSu_pending (s : State) (x : Su) : (s.setSu x).pending = s.pending := rfl

@[simp] theorem State.setFlash_bu (s : State) (x : Flash) : (s.setFlash x).bu = s.bu := rfl
@[simp] theorem State.setFlash_rc (s : State) (x : Flash) : (s.setFlash x).rc = s.rc := rfl
@[simp] theorem State.setFlash_fc (s : State) (x : Flash) : (s.setFlash x).fc = s.fc := rfl
@[simp] theorem State.setFlash_sc (s : State) (x : Flash) : (s.setFlash x).sc = s.sc := rfl
@[simp] theorem State.setFlash_es (s : State) (x : Flash) : (s.setFlash x).es = s.es := rfl
@[simp] theorem State.setFlash_su (s : State) (x : Flash) : (s.setFlash x).su = s.su := rfl
@[simp] theorem State.setFlash_flash (s : State) (x : Flash) : (s.setFlash x).flash = x := rfl
@[simp] theorem State.setFlash_ie (s : State) (x : Flash) : (s.setFlash x).ie = s.ie := rfl
@[simp] theorem State.setFlash_ac (s : State) (x : Flash) : (s.setFlash x).ac = s.ac := rfl
@[simp] theorem State.setFlash_ml (s : State) (x : Flash) : (s.setFlash x).ml = s.ml := rfl
@[simp] theorem State.setFlash_sl (s : State) (x : Flash) : (s.setFlash x).sl = s.sl := rfl
@[simp] theorem State.setFlash_pins (s : State) (x : Flash) : (s.setFlash x).pins = s.pins := rfl
@[simp] theorem State.setFlash_now (s : State) (x : Flash) : (s.setFlash x).now = s.now := rfl
@[simp] theorem State.setFlash_free (s : State) (x : Flash) : (s.setFlash x).free = s.free := rfl
@[simp] theorem State.setFlash_pending (s : State) (x : Flash) : (s.setFlash x).pending = s.pending := rfl

@[simp] theorem State.setIe_bu (s : State) (x : Ie) : (s.setIe x).bu = s.bu := rfl
@[simp] theorem State.setIe_rc (s : State) (x : Ie) : (s.setIe x).rc = s.rc := rfl
@[simp] theorem State.setIe_fc (s : State) (x : Ie) : (s.setIe x).fc = s.fc := rfl
@[simp] theorem State.setIe_sc (s : State) (x : Ie) : (s.setIe x).sc = s.sc := rfl
@[simp] theorem State.setIe_es (s : State) (x : Ie) : (s.setIe x).es = s.es := rfl
@[simp] theorem State.setIe_su (s : State) (x : Ie) : (s.setIe x).su = s.su := rfl
@[simp] theorem State.setIe_flash (s : State) (x : Ie) : (s.setIe x).flash = s.flash := rfl
@[simp] theorem State.setIe_ie (s : State) (x : Ie) : (s.setIe x).ie = x := rfl
@[simp] theorem State.setIe_ac (s : State) (x : Ie) : (s.setIe x).ac = s.ac := rfl
@[simp] theorem State.setIe_ml (s : State) (x : Ie) : (s.setIe x).ml = s.ml := rfl
@[simp] theorem State.setIe_sl (s : State) (x : Ie) : (s.setIe x).sl = s.sl := rfl
@[simp] theorem State.setIe_pins (s : State) (x : Ie) : (s.setIe x).pins = s.pins := rfl
@[simp] theorem State.setIe_now (s : State) (x : Ie) : (s.setIe x).now = s.now := rfl
@[simp] theorem State.setIe_free (s : State) (x : Ie) : (s.setIe x).free = s.free := rfl
@[simp] theorem State.setIe_pending (s : State) (x : Ie) : (s.setIe x).pending = s.pending := rfl

@[simp] theorem State.setAc_bu (s : State) (x : Ac) : (s.setAc x).bu = s.bu := rfl
@[simp] theorem State.setAc_rc (s : State) (x : Ac) : (s.setAc x).rc = s.rc := rfl
@[simp] theorem State.setAc_fc (s : State) (x : Ac) : (s.setAc x).fc = s.fc := rfl
@[simp] theorem State.setAc_sc (s : State) (x : Ac) : (s.setAc x).sc = s.sc := rfl
@[simp] theorem State.setAc_es (s : State) (x : Ac) : (s.setAc x).es = s.es := rfl
@[simp] theorem State.setAc_su (s : State) (x : Ac) : (s.setAc x).su = s.su := rfl
@[simp] theorem State.setAc_flash (s : State) (x : Ac) : (s.setAc x).flash = s.flash := rfl
@[simp] theorem State.setAc_ie (s : State) (x : Ac) : (s.setAc x).ie = s.ie := rfl
@[simp] theorem State.setAc_ac (s : State) (x : Ac) : (s.setAc x).ac = x := rfl
@[simp] theorem State.setAc_ml (s : State) (x : Ac) : (s.setAc x).ml = s.ml := rfl
@[simp] theorem State.setAc_sl (s : State) (x : Ac) : (s.setAc x).sl = s.sl := rfl
@[simp] theorem State.setAc_pins (s : State) (x : Ac) : (s.setAc x).pins = s.pins := rfl
@[simp] theorem State.setAc_now (s : State) (x : Ac) : (s.setAc x).now = s.now := rfl
@[simp] theorem State.setAc_free (s : State) (x : Ac) : (s.setAc x).free = s.free := rfl
@[simp] theorem State.setAc_pending (s : State) (x : Ac) : (s.setAc x).pending = s.pending := rfl

@[simp] theorem State.setMl_bu (s : State) (x : Ml) : (s.setMl x).bu = s.bu := rfl
@[simp] theorem State.setMl_rc (s : State) (x : Ml) : (s.setMl x).rc = s.rc := rfl
@[simp] theorem State.setMl_fc (s : State) (x : Ml) : (s.setMl x).fc = s.fc := rfl
@[simp] theorem State.setMl_sc (s : State) (x : Ml) : (s.setMl x).sc = s.sc := rfl
@[simp] theorem State.setMl_es (s : State) (x : Ml) : (s.setMl x).es = s.es := rfl
@[simp] theorem State.setMl_su (s : State) (x : Ml) : (s.setMl x).su = s.su := rfl
@[simp] theorem State.setMl_flash (s : State) (x : Ml) : (s.setMl x).flash = s.flash := rfl
@[simp] theorem State.setMl_ie (s : State) (x : Ml) : (s.setMl x).ie = s.ie := rfl
@[simp] theorem State.setMl_ac (s : State) (x : Ml) : (s.setMl x).ac = s.ac := rfl
@[simp] theorem State.setMl_ml (s : State) (x : Ml) : (s.setMl x).ml = x := rfl
@[simp] theorem State.setMl_sl (s : State) (x : Ml) : (s.setMl x).sl = s.sl := rfl
@[simp] theorem State.setMl_pins (s : State) (x : Ml) : (s.setMl x).pins = s.pins := rfl
@[simp] theorem State.setMl_now (s : State) (x : Ml) : (s.setMl x).now = s.now := rfl
@[simp] theorem State.setMl_free (s : State) (x : Ml) : (s.setMl x).free = s.free := rfl
@[simp] theorem State.setMl_pending (s : State) (x : Ml) : (s.setMl x).pending = s.pending := rfl

@[simp] theorem State.setSl_bu (s : State) (x : Sl) : (s.setSl x).bu = s.bu := rfl
@[simp] theorem State.setSl_rc (s : State) (x : Sl) : (s.setSl x).rc = s.rc := rfl
@[simp] theorem State.setSl_fc (s : State) (x : Sl) : (s.setSl x).fc = s.fc := rfl
@[simp] theorem State.setSl_sc (s : State) (x : Sl) : (s.setSl x).sc = s.sc := rfl
@[simp] theorem State.setSl_es (s : State) (x : Sl) : (s.setSl x).es = s.es := rfl
@[simp] theorem State.setSl_su (s : State) (x : Sl) : (s.setSl x).su = s.su := rfl
@[simp] theorem State.setSl_flash (s : State) (x : Sl) : (s.setSl x).flash = s.flash := rfl
@[simp] theorem State.setSl_ie (s : State) (x : Sl) : (s.setSl x).ie = s.ie := rfl
@[simp] theorem State.setSl_ac (s : State) (x : Sl) : (s.setSl x).ac = s.ac := rfl
@[simp] theorem State.setSl_ml (s : State) (x : Sl) : (s.setSl x).ml = s.ml := rfl
@[simp] theorem State.setSl_sl (s : State) (x : Sl) : (s.setSl x).sl = x := rfl
@[simp] theorem State.setSl_pins (s : State) (x : Sl) : (s.setSl x).pins = s.pins := rfl
@[simp] theorem State.setSl_now (s : State) (x : Sl) : (s.setSl x).now = s.now := rfl
@[simp] theorem State.setSl_free (s : State) (x : Sl) : (s.setSl x).free = s.free := rfl
@[simp] theorem State.setSl_pending (s : State) (x : Sl) : (s.setSl x).pending = s.pending := rfl

@[simp] theorem State.setPins_bu (s : State) (x : Pins) : (s.setPins x).bu = s.bu := rfl
@[simp] theorem State.setPins_rc (s : State) (x : Pins) : (s.setPins x).rc = s.rc := rfl
@[simp] theorem State.setPins_fc (s : State) (x : Pins) : (s.setPins x).fc = s.fc := rfl
@[simp] theorem State.setPins_sc (s : State) (x : Pins) : (s.setPins x).sc = s.sc := rfl
@[simp] theorem State.setPins_es (s : State) (x : Pins) : (s.setPins x).es = s.es := rfl
@[simp] theorem State.setPins_su (s : State) (x : Pins) : (s.setPins x).su = s.su := rfl
@[simp] theorem State.setPins_flash (s : State) (x : Pins) : (s.setPins x).flash = s.flash := rfl
@[simp] theorem State.setPins_ie (s : State) (x : Pins) : (s.setPins x).ie = s.ie := rfl
@[simp] theorem State.setPins_ac (s : State) (x : Pins) : (s.setPins x).ac = s.ac := rfl
@[simp] theorem State.setPins_ml (s : State) (x : Pins) : (s.setPins x).ml = s.ml := rfl
@[simp] theorem State.setPins_sl (s : State) (x : Pins) : (s.setPins x).sl = s.sl := rfl
@[simp] theorem State.setPins_pins (s : State) (x : Pins) : (s.setPins x).pins = x := rfl
@[simp] theorem State.setPins_now (s : State) (x : Pins) : (s.setPins x).now = s.now := rfl
@[simp] theorem State.setPins_free (s : State) (x : Pins) : (s.setPins x).free = s.free := rfl
@[simp] theorem State.setPins_pending (s : State) (x : Pins) : (s.setPins x).pending = s.pending := rfl

@[simp] theorem State.setNow_bu (s : State) (x : Nat) : (s.setNow x).bu = s.bu := rfl
@[simp] theorem State.setNow_rc (s : State) (x : Nat) : (s.setNow x).rc = s.rc := rfl
@[simp] theorem State.setNow_fc (s : State) (x : Nat) : (s.setNow x).fc = s.fc := rfl
@[simp] theorem State.setNow_sc (s : State) (x : Nat) : (s.setNow x).sc = s.sc := rfl
@[simp] theorem State.setNow_es (s : State) (x : Nat) : (s.setNow x).es = s.es := rfl
@[simp] theorem State.setNow_su (s : State) (x : Nat) : (s.setNow x).su = s.su := rfl
@[simp] theorem State.setNow_flash (s : State) (x : Nat) : (s.setNow x).flash = s.flash := rfl
@[simp] theorem State.setNow_ie (s : State) (x : Nat) : (s.setNow x).ie = s.ie := rfl
@[simp] theorem State.setNow_ac (s : State) (x : Nat) : (s.setNow x).ac = s.ac := rfl
@[simp] theorem State.setNow_ml (s : State) (x : Nat) : (s.setNow x).ml = s.ml := rfl
@[simp] theorem State.setNow_sl (s : State) (x : Nat) : (s.setNow x).sl = s.sl := rfl
@[simp] theorem State.setNow_pins (s : State) (x : Nat) : (s.setNow x).pins = s.pins := rfl
@[simp] theorem State.setNow_now (s : State) (x : Nat) : (s.setNow x).now = x := rfl
@[simp] theorem State.setNow_free (s : State) (x : Nat) : (s.setNow x).free = s.free := rfl
@[simp] theorem State.setNow_pending (s : State) (x : Nat) : (s.setNow x).pending = s.pending := rfl

@[simp] theorem State.setFree_bu (s : State) (x : Nat) : (s.setFree x).bu = s.bu := rfl
@[simp] theorem State.setFree_rc (s : State) (x : Nat) : (s.setFree x).rc = s.rc := rfl
@[simp] theorem State.setFree_fc (s : State) (x : Nat) : (s.setFree x).fc = s.fc := rfl
@[simp] theorem State.setFree_sc (s : State) (x : Nat) : (s.setFree x).sc = s.sc := rfl
@[simp] theorem State.setFree_es (s : State) (x : Nat) : (s.setFree x).es = s.es := rfl
@[simp] theorem State.setFree_su (s : State) (x : Nat) : (s.setFree x).su = s.su := rfl
@[simp] theorem State.setFree_flash (s : State) (x : Nat) : (s.setFree x).flash = s.flash := rfl
@[simp] theorem State.setFree_ie (s : State) (x : Nat) : (s.setFree x).ie = s.ie := rfl
@[simp] theorem State.setFree_ac (s : State) (x : Nat) : (s.setFree x).ac = s.ac := rfl
@[simp] theorem State.setFree_ml (s : State) (x : Nat) : (s.setFree x).ml = s.ml := rfl
@[simp] theorem State.setFree_sl (s : State) (x : Nat) : (s.setFree x).sl = s.sl := rfl
@[simp] theorem State.setFree_pins (s : State) (x : Nat) : (s.setFree x).pins = s.pins := rfl
@[simp] theorem State.setFree_now (s : State) (x : Nat) : (s.setFree x).now = s.now := rfl
@[simp] theorem State.setFree_free (s : State) (x : Nat) : (s.setFree x).free = x := rfl
@[simp] theorem State.setFree_pending (s : State) (x : Nat) : (s.setFree x).pending = s.pending := rfl

@[simp] theorem State.setPending_bu (s : State) (x : List Instr) : (s.setPending x).bu = s.bu := rfl
@[simp] theorem State.setPending_rc (s : State) (x : List Instr) : (s.setPending x).rc = s.rc := rfl
@[simp] theorem State.setPending_fc (s : State) (x : List Instr) : (s.setPending x).fc = s.fc := rfl
@[simp] theorem State.setPending_sc (s : State) (x : List Instr) : (s.setPending x).sc = s.sc := rfl
@[simp] theorem State.setPending_es (s : State) (x : List Instr) : (s.setPending x).es = s.es := rfl
@[simp] theorem State.setPending_su (s : State) (x : List Instr) : (s.setPending x).su = s.su := rfl
@[simp] theorem State.setPending_flash (s : State) (x : List Instr) : (s.setPending x).flash = s.flash := rfl
@[simp] theorem State.setPending_ie (s : State) (x : List Instr) : (s.setPending x).ie = s.ie := rfl
@[simp] theorem State.setPending_ac (s : State) (x : List Instr) : (s.setPending x).ac = s.ac := rfl
@[simp] theorem State.setPending_ml (s : State) (x : List Instr) : (s.setPending x).ml = s.ml := rfl
@[simp] theorem State.setPending_sl (s : State) (x : List Instr) : (s.setPending x).sl = s.sl := rfl
@[simp] theorem State.setPending_pins (s : State) (x : List Instr) : (s.setPending x).pins = s.pins := rfl
@[simp] theorem State.setPending_now (s : State) (x : List Instr) : (s.setPending x).now = s.now := rfl
@[simp] theorem State.setPending_free (s : State) (x : List Instr) : (s.setPending x).free = s.free := rfl
@[simp] theorem State.setPending_pending (s : State) (x : List Instr) : (s.setPending x).pending = x := rfl

end Sys2Proof.Machine
end

