-- ==== Sys2Proof/Laws/FramesOps.lean ====
section
/-! SUPPORT. Frames: which top-level fields of State each operation of the shared operations on tables, queues and flash leaves as they were. -/

namespace Sys2Proof.Machine

/-- A fold keeps what each of its steps keeps. -/
theorem foldl_keeps {α β γ : Type} (g : α → γ) (f : α → β → α) (h : ∀ a b, g (f a b) = g a) (l : List β) (a : α) :
    g (l.foldl f a) = g a := by
  induction l generalizing a with
  | nil => rfl
  | cons b r ih => simp [ih, h]

/-- Work over the entries in use keeps what the work on each entry keeps. -/
theorem forClients_keeps {γ : Type} (g : State → γ) (f : Nat → State → State) (h : ∀ i t, g (f i t) = g t) (s : State) :
    g (forClients f s) = g s := foldl_keeps g _ (fun a b => h b a) _ s

/-- Making room leaves the state as it was, or removes one entry. -/
theorem makeRoom_frame {roles : List Role} {s t : State} {i : Nat} (h : makeRoom roles s = some (i, t)) :
    t = s ∨ t = removeClient i s := by
  unfold makeRoom at h; split at h
  · simp at h; exact .inl h.2.symm
  · split at h <;> simp at h; obtain ⟨rfl, rfl⟩ := h; exact .inr rfl

@[simp] theorem runTo_frame (d : Nat) (s : State) :
    (runTo d s).bu = s.bu ∧ (runTo d s).rc = s.rc ∧ (runTo d s).fc = s.fc ∧ (runTo d s).sc = s.sc ∧
    (runTo d s).es = s.es ∧ (runTo d s).flash = s.flash ∧ (runTo d s).ie = s.ie ∧ (runTo d s).ac = s.ac ∧
    (runTo d s).ml = s.ml ∧ (runTo d s).sl = s.sl ∧ (runTo d s).pins = s.pins ∧ (runTo d s).free = s.free ∧
    (runTo d s).pending = s.pending := by
  unfold runTo; split <;> simp


@[simp] theorem raise_frame (e : Event) (s : State) :
    (raise e s).bu = s.bu ∧ (raise e s).rc = s.rc ∧ (raise e s).fc = s.fc ∧ (raise e s).sc = s.sc ∧
    (raise e s).es = s.es ∧ (raise e s).su = s.su ∧ (raise e s).flash = s.flash ∧ (raise e s).ie = s.ie ∧
    (raise e s).ac = s.ac ∧ (raise e s).sl = s.sl ∧ (raise e s).pins = s.pins ∧ (raise e s).now = s.now ∧
    (raise e s).free = s.free ∧ (raise e s).pending = s.pending := by
  simp [raise]


@[simp] theorem complete_frame (o : ReqOutcome) (result : List Byte) (s : State) :
    (complete o result s).bu = s.bu ∧ (complete o result s).rc = s.rc ∧ (complete o result s).fc = s.fc ∧
    (complete o result s).sc = s.sc ∧ (complete o result s).es = s.es ∧ (complete o result s).su = s.su ∧
    (complete o result s).flash = s.flash ∧ (complete o result s).ie = s.ie ∧ (complete o result s).ac = s.ac ∧
    (complete o result s).sl = s.sl ∧ (complete o result s).pins = s.pins ∧ (complete o result s).now = s.now ∧
    (complete o result s).free = s.free ∧ (complete o result s).pending = s.pending := by
  simp [complete]


@[simp] theorem completePending_frame (code : Nat) (o : ReqOutcome) (result : List Byte) (s : State) :
    (completePending code o result s).bu = s.bu ∧ (completePending code o result s).rc = s.rc ∧
    (completePending code o result s).fc = s.fc ∧ (completePending code o result s).sc = s.sc ∧
    (completePending code o result s).es = s.es ∧ (completePending code o result s).su = s.su ∧
    (completePending code o result s).flash = s.flash ∧ (completePending code o result s).ie = s.ie ∧
    (completePending code o result s).ac = s.ac ∧ (completePending code o result s).sl = s.sl ∧
    (completePending code o result s).pins = s.pins ∧ (completePending code o result s).now = s.now ∧
    (completePending code o result s).free = s.free ∧ (completePending code o result s).pending = s.pending := by
  unfold completePending; split <;> simp


@[simp] theorem queueControl_frame (c : Control) (s : State) :
    (queueControl c s).rc = s.rc ∧ (queueControl c s).fc = s.fc ∧ (queueControl c s).sc = s.sc ∧
    (queueControl c s).es = s.es ∧ (queueControl c s).su = s.su ∧ (queueControl c s).flash = s.flash ∧
    (queueControl c s).ie = s.ie ∧ (queueControl c s).ac = s.ac ∧ (queueControl c s).ml = s.ml ∧
    (queueControl c s).sl = s.sl ∧ (queueControl c s).pins = s.pins ∧ (queueControl c s).now = s.now ∧
    (queueControl c s).free = s.free ∧ (queueControl c s).pending = s.pending ∧
    (queueControl c s).bu.peers = s.bu.peers := by
  unfold queueControl; split <;> simp


@[simp] theorem sendBulletin_frame (target : Nat) (b : Body) (s : State) :
    (sendBulletin target b s).rc = s.rc ∧ (sendBulletin target b s).fc = s.fc ∧
    (sendBulletin target b s).sc = s.sc ∧ (sendBulletin target b s).es = s.es ∧
    (sendBulletin target b s).su = s.su ∧ (sendBulletin target b s).flash = s.flash ∧
    (sendBulletin target b s).ie = s.ie ∧ (sendBulletin target b s).ac = s.ac ∧
    (sendBulletin target b s).ml = s.ml ∧ (sendBulletin target b s).sl = s.sl ∧
    (sendBulletin target b s).pins = s.pins ∧ (sendBulletin target b s).now = s.now ∧
    (sendBulletin target b s).free = s.free ∧ (sendBulletin target b s).pending = s.pending ∧
    (sendBulletin target b s).bu.peers = s.bu.peers := by
  simp [sendBulletin]


@[simp] theorem announcePulse_frame (s : State) :
    (announcePulse s).rc = s.rc ∧ (announcePulse s).fc = s.fc ∧ (announcePulse s).sc = s.sc ∧
    (announcePulse s).es = s.es ∧ (announcePulse s).su = s.su ∧ (announcePulse s).flash = s.flash ∧
    (announcePulse s).ie = s.ie ∧ (announcePulse s).ac = s.ac ∧ (announcePulse s).ml = s.ml ∧
    (announcePulse s).sl = s.sl ∧ (announcePulse s).pins = s.pins ∧ (announcePulse s).now = s.now ∧
    (announcePulse s).free = s.free ∧ (announcePulse s).pending = s.pending ∧
    (announcePulse s).bu.peers = s.bu.peers := by
  unfold announcePulse; split <;> simp


@[simp] theorem setPeers_frame (p : Table Peer) (s : State) :
    (setPeers p s).rc = s.rc ∧ (setPeers p s).fc = s.fc ∧ (setPeers p s).sc = s.sc ∧ (setPeers p s).es = s.es ∧
    (setPeers p s).su = s.su ∧ (setPeers p s).flash = s.flash ∧ (setPeers p s).ie = s.ie ∧
    (setPeers p s).ac = s.ac ∧ (setPeers p s).ml = s.ml ∧ (setPeers p s).sl = s.sl ∧ (setPeers p s).pins = s.pins ∧
    (setPeers p s).now = s.now ∧ (setPeers p s).free = s.free ∧ (setPeers p s).pending = s.pending := by
  simp [setPeers]


@[simp] theorem setClients_frame (t : Table Client) (s : State) :
    (setClients t s).bu = s.bu ∧ (setClients t s).fc = s.fc ∧ (setClients t s).sc = s.sc ∧
    (setClients t s).es = s.es ∧ (setClients t s).su = s.su ∧ (setClients t s).flash = s.flash ∧
    (setClients t s).ie = s.ie ∧ (setClients t s).ac = s.ac ∧ (setClients t s).ml = s.ml ∧
    (setClients t s).sl = s.sl ∧ (setClients t s).pins = s.pins ∧ (setClients t s).now = s.now ∧
    (setClients t s).free = s.free ∧ (setClients t s).pending = s.pending := by
  simp [setClients]


@[simp] theorem putClient_frame (i : Nat) (c : Client) (s : State) :
    (putClient i c s).bu = s.bu ∧ (putClient i c s).fc = s.fc ∧ (putClient i c s).sc = s.sc ∧
    (putClient i c s).es = s.es ∧ (putClient i c s).su = s.su ∧ (putClient i c s).flash = s.flash ∧
    (putClient i c s).ie = s.ie ∧ (putClient i c s).ac = s.ac ∧ (putClient i c s).ml = s.ml ∧
    (putClient i c s).sl = s.sl ∧ (putClient i c s).pins = s.pins ∧ (putClient i c s).now = s.now ∧
    (putClient i c s).free = s.free ∧ (putClient i c s).pending = s.pending := by
  simp [putClient]


@[simp] theorem modClient_frame (i : Nat) (f : Client → Client) (s : State) :
    (modClient i f s).bu = s.bu ∧ (modClient i f s).fc = s.fc ∧ (modClient i f s).sc = s.sc ∧
    (modClient i f s).es = s.es ∧ (modClient i f s).su = s.su ∧ (modClient i f s).flash = s.flash ∧
    (modClient i f s).ie = s.ie ∧ (modClient i f s).ac = s.ac ∧ (modClient i f s).ml = s.ml ∧
    (modClient i f s).sl = s.sl ∧ (modClient i f s).pins = s.pins ∧ (modClient i f s).now = s.now ∧
    (modClient i f s).free = s.free ∧ (modClient i f s).pending = s.pending := by
  unfold modClient; split <;> simp


@[simp] theorem touch_frame (i : Nat) (s : State) :
    (touch i s).bu = s.bu ∧ (touch i s).fc = s.fc ∧ (touch i s).sc = s.sc ∧ (touch i s).es = s.es ∧
    (touch i s).su = s.su ∧ (touch i s).flash = s.flash ∧ (touch i s).ie = s.ie ∧ (touch i s).ac = s.ac ∧
    (touch i s).ml = s.ml ∧ (touch i s).sl = s.sl ∧ (touch i s).pins = s.pins ∧ (touch i s).now = s.now ∧
    (touch i s).free = s.free ∧ (touch i s).pending = s.pending := by
  simp [touch]


@[simp] theorem removeFlowsOf_frame (i : Nat) (s : State) :
    (removeFlowsOf i s).bu = s.bu ∧ (removeFlowsOf i s).sc = s.sc ∧ (removeFlowsOf i s).es = s.es ∧
    (removeFlowsOf i s).su = s.su ∧ (removeFlowsOf i s).flash = s.flash ∧ (removeFlowsOf i s).ie = s.ie ∧
    (removeFlowsOf i s).ac = s.ac ∧ (removeFlowsOf i s).ml = s.ml ∧ (removeFlowsOf i s).sl = s.sl ∧
    (removeFlowsOf i s).pins = s.pins ∧ (removeFlowsOf i s).now = s.now ∧ (removeFlowsOf i s).free = s.free ∧
    (removeFlowsOf i s).pending = s.pending := by
  simp [removeFlowsOf]


@[simp] theorem emptyFlows_frame (s : State) :
    (emptyFlows s).bu = s.bu ∧ (emptyFlows s).sc = s.sc ∧ (emptyFlows s).es = s.es ∧ (emptyFlows s).su = s.su ∧
    (emptyFlows s).flash = s.flash ∧ (emptyFlows s).ie = s.ie ∧ (emptyFlows s).ac = s.ac ∧
    (emptyFlows s).ml = s.ml ∧ (emptyFlows s).sl = s.sl ∧ (emptyFlows s).pins = s.pins ∧
    (emptyFlows s).now = s.now ∧ (emptyFlows s).free = s.free ∧ (emptyFlows s).pending = s.pending := by
  simp [emptyFlows]


@[simp] theorem removeClient_frame (i : Nat) (s : State) :
    (removeClient i s).bu = s.bu ∧ (removeClient i s).sc = s.sc ∧ (removeClient i s).es = s.es ∧
    (removeClient i s).su = s.su ∧ (removeClient i s).flash = s.flash ∧ (removeClient i s).ie = s.ie ∧
    (removeClient i s).ac = s.ac ∧ (removeClient i s).ml = s.ml ∧ (removeClient i s).sl = s.sl ∧
    (removeClient i s).pins = s.pins ∧ (removeClient i s).now = s.now ∧ (removeClient i s).free = s.free ∧
    (removeClient i s).pending = s.pending := by
  simp [removeClient]


@[simp] theorem dropOffersOf_frame (i : Nat) (s : State) :
    (dropOffersOf i s).bu = s.bu ∧ (dropOffersOf i s).fc = s.fc ∧ (dropOffersOf i s).sc = s.sc ∧
    (dropOffersOf i s).es = s.es ∧ (dropOffersOf i s).su = s.su ∧ (dropOffersOf i s).flash = s.flash ∧
    (dropOffersOf i s).ie = s.ie ∧ (dropOffersOf i s).ac = s.ac ∧ (dropOffersOf i s).ml = s.ml ∧
    (dropOffersOf i s).sl = s.sl ∧ (dropOffersOf i s).pins = s.pins ∧ (dropOffersOf i s).now = s.now ∧
    (dropOffersOf i s).free = s.free ∧ (dropOffersOf i s).pending = s.pending ∧
    (dropOffersOf i s).rc.clients = s.rc.clients := by
  simp [dropOffersOf]


@[simp] theorem toRole_frame (i : Nat) (r : Role) (f : Client → Client) (s : State) :
    (toRole i r f s).bu = s.bu ∧ (toRole i r f s).fc = s.fc ∧ (toRole i r f s).sc = s.sc ∧
    (toRole i r f s).es = s.es ∧ (toRole i r f s).su = s.su ∧ (toRole i r f s).flash = s.flash ∧
    (toRole i r f s).ie = s.ie ∧ (toRole i r f s).ac = s.ac ∧ (toRole i r f s).ml = s.ml ∧
    (toRole i r f s).sl = s.sl ∧ (toRole i r f s).pins = s.pins ∧ (toRole i r f s).now = s.now ∧
    (toRole i r f s).free = s.free ∧ (toRole i r f s).pending = s.pending := by
  unfold toRole; split <;> simp


@[simp] theorem offerOne_frame (s : State) :
    (offerOne s).fc = s.fc ∧ (offerOne s).sc = s.sc ∧ (offerOne s).es = s.es ∧ (offerOne s).su = s.su ∧
    (offerOne s).flash = s.flash ∧ (offerOne s).ie = s.ie ∧ (offerOne s).ac = s.ac ∧ (offerOne s).ml = s.ml ∧
    (offerOne s).sl = s.sl ∧ (offerOne s).pins = s.pins ∧ (offerOne s).now = s.now ∧ (offerOne s).free = s.free ∧
    (offerOne s).pending = s.pending ∧ (offerOne s).bu.peers = s.bu.peers ∧ (offerOne s).rc.clients = s.rc.clients := by
  unfold offerOne; (repeat' split) <;> simp


@[simp] theorem offerLoop_frame (n : Nat) (s : State) :
    (offerLoop n s).fc = s.fc ∧ (offerLoop n s).sc = s.sc ∧ (offerLoop n s).es = s.es ∧ (offerLoop n s).su = s.su ∧
    (offerLoop n s).flash = s.flash ∧ (offerLoop n s).ie = s.ie ∧ (offerLoop n s).ac = s.ac ∧
    (offerLoop n s).ml = s.ml ∧ (offerLoop n s).sl = s.sl ∧ (offerLoop n s).pins = s.pins ∧
    (offerLoop n s).now = s.now ∧ (offerLoop n s).free = s.free ∧ (offerLoop n s).pending = s.pending ∧
    (offerLoop n s).bu.peers = s.bu.peers ∧ (offerLoop n s).rc.clients = s.rc.clients := by
  induction n generalizing s with
  | zero => simp [offerLoop]
  | succ n ih => simp only [offerLoop]; split <;> simp [ih]



@[simp] theorem offerFill_frame (s : State) :
    (offerFill s).fc = s.fc ∧ (offerFill s).sc = s.sc ∧ (offerFill s).es = s.es ∧ (offerFill s).su = s.su ∧
    (offerFill s).flash = s.flash ∧ (offerFill s).ie = s.ie ∧ (offerFill s).ac = s.ac ∧ (offerFill s).ml = s.ml ∧
    (offerFill s).sl = s.sl ∧ (offerFill s).pins = s.pins ∧ (offerFill s).now = s.now ∧
    (offerFill s).free = s.free ∧ (offerFill s).pending = s.pending ∧ (offerFill s).bu.peers = s.bu.peers ∧
    (offerFill s).rc.clients = s.rc.clients := by
  unfold offerFill; split <;> simp


@[simp] theorem clearOffers_frame (s : State) :
    (clearOffers s).bu = s.bu ∧ (clearOffers s).fc = s.fc ∧ (clearOffers s).sc = s.sc ∧ (clearOffers s).es = s.es ∧
    (clearOffers s).su = s.su ∧ (clearOffers s).flash = s.flash ∧ (clearOffers s).ie = s.ie ∧
    (clearOffers s).ac = s.ac ∧ (clearOffers s).ml = s.ml ∧ (clearOffers s).sl = s.sl ∧
    (clearOffers s).pins = s.pins ∧ (clearOffers s).now = s.now ∧ (clearOffers s).free = s.free ∧
    (clearOffers s).pending = s.pending ∧ (clearOffers s).rc.clients = s.rc.clients := by
  simp [clearOffers]


@[simp] theorem orphanOne_frame (n i : Nat) (s : State) :
    (orphanOne n i s).bu = s.bu ∧ (orphanOne n i s).fc = s.fc ∧ (orphanOne n i s).sc = s.sc ∧
    (orphanOne n i s).es = s.es ∧ (orphanOne n i s).su = s.su ∧ (orphanOne n i s).flash = s.flash ∧
    (orphanOne n i s).ie = s.ie ∧ (orphanOne n i s).ac = s.ac ∧ (orphanOne n i s).sl = s.sl ∧
    (orphanOne n i s).pins = s.pins ∧ (orphanOne n i s).now = s.now ∧ (orphanOne n i s).free = s.free ∧
    (orphanOne n i s).pending = s.pending := by
  unfold orphanOne; (repeat' split) <;> simp


@[simp] theorem handBackOne_frame (n i : Nat) (s : State) :
    (handBackOne n i s).bu = s.bu ∧ (handBackOne n i s).fc = s.fc ∧ (handBackOne n i s).sc = s.sc ∧
    (handBackOne n i s).es = s.es ∧ (handBackOne n i s).su = s.su ∧ (handBackOne n i s).flash = s.flash ∧
    (handBackOne n i s).ie = s.ie ∧ (handBackOne n i s).ac = s.ac ∧ (handBackOne n i s).sl = s.sl ∧
    (handBackOne n i s).pins = s.pins ∧ (handBackOne n i s).now = s.now ∧ (handBackOne n i s).free = s.free ∧
    (handBackOne n i s).pending = s.pending := by
  unfold handBackOne; (repeat' split) <;> simp


@[simp] theorem loseClients_frame (n : Nat) (s : State) :
    (loseClients n s).bu = s.bu ∧ (loseClients n s).fc = s.fc ∧ (loseClients n s).sc = s.sc ∧
    (loseClients n s).es = s.es ∧ (loseClients n s).su = s.su ∧ (loseClients n s).flash = s.flash ∧
    (loseClients n s).ie = s.ie ∧ (loseClients n s).ac = s.ac ∧ (loseClients n s).sl = s.sl ∧
    (loseClients n s).pins = s.pins ∧ (loseClients n s).now = s.now ∧ (loseClients n s).free = s.free ∧
    (loseClients n s).pending = s.pending := by
  have h (m : Nat) (u : State) := forClients_keeps (fun x : State => (x.bu, x.fc, x.sc, x.es, x.su, x.flash, x.ie, x.ac, x.sl, x.pins, x.now, x.free, x.pending)) (handBackOne m) (fun i t => by simp) u
  have k (m : Nat) (u : State) := forClients_keeps (fun x : State => (x.bu, x.fc, x.sc, x.es, x.su, x.flash, x.ie, x.ac, x.sl, x.pins, x.now, x.free, x.pending)) (orphanOne m) (fun i t => by simp) u
  simp only [Prod.mk.injEq] at h k
  simp [loseClients, h, k]



@[simp] theorem sendClaim_frame (i : Nat) (s : State) :
    (sendClaim i s).fc = s.fc ∧ (sendClaim i s).sc = s.sc ∧ (sendClaim i s).es = s.es ∧ (sendClaim i s).su = s.su ∧
    (sendClaim i s).flash = s.flash ∧ (sendClaim i s).ie = s.ie ∧ (sendClaim i s).ac = s.ac ∧
    (sendClaim i s).ml = s.ml ∧ (sendClaim i s).sl = s.sl ∧ (sendClaim i s).pins = s.pins ∧
    (sendClaim i s).now = s.now ∧ (sendClaim i s).free = s.free ∧ (sendClaim i s).pending = s.pending ∧
    (sendClaim i s).bu.peers = s.bu.peers := by
  unfold sendClaim; (repeat' split) <;> simp


@[simp] theorem evaluateClaim_frame (i n : Nat) (reading : Int) (s : State) :
    (evaluateClaim i n reading s).fc = s.fc ∧ (evaluateClaim i n reading s).sc = s.sc ∧
    (evaluateClaim i n reading s).es = s.es ∧ (evaluateClaim i n reading s).su = s.su ∧
    (evaluateClaim i n reading s).flash = s.flash ∧ (evaluateClaim i n reading s).ie = s.ie ∧
    (evaluateClaim i n reading s).ac = s.ac ∧ (evaluateClaim i n reading s).ml = s.ml ∧
    (evaluateClaim i n reading s).sl = s.sl ∧ (evaluateClaim i n reading s).pins = s.pins ∧
    (evaluateClaim i n reading s).now = s.now ∧ (evaluateClaim i n reading s).free = s.free ∧
    (evaluateClaim i n reading s).pending = s.pending ∧ (evaluateClaim i n reading s).bu.peers = s.bu.peers := by
  unfold evaluateClaim; (repeat' split) <;> simp


@[simp] theorem sendContext_frame (c : Client) (n : Nat) (t : BitVec 16) (s : State) :
    (sendContext c n t s).rc = s.rc ∧ (sendContext c n t s).fc = s.fc ∧ (sendContext c n t s).sc = s.sc ∧
    (sendContext c n t s).es = s.es ∧ (sendContext c n t s).su = s.su ∧ (sendContext c n t s).flash = s.flash ∧
    (sendContext c n t s).ie = s.ie ∧ (sendContext c n t s).ac = s.ac ∧ (sendContext c n t s).ml = s.ml ∧
    (sendContext c n t s).sl = s.sl ∧ (sendContext c n t s).pins = s.pins ∧ (sendContext c n t s).now = s.now ∧
    (sendContext c n t s).free = s.free ∧ (sendContext c n t s).pending = s.pending ∧
    (sendContext c n t s).bu.peers = s.bu.peers := by
  simp [sendContext]


@[simp] theorem takeSample_frame (a : Addr) (sample : Int) (s : State) :
    (takeSample a sample s).bu = s.bu ∧ (takeSample a sample s).fc = s.fc ∧ (takeSample a sample s).sc = s.sc ∧
    (takeSample a sample s).es = s.es ∧ (takeSample a sample s).su = s.su ∧
    (takeSample a sample s).flash = s.flash ∧ (takeSample a sample s).ie = s.ie ∧
    (takeSample a sample s).ac = s.ac ∧ (takeSample a sample s).ml = s.ml ∧ (takeSample a sample s).sl = s.sl ∧
    (takeSample a sample s).pins = s.pins ∧ (takeSample a sample s).now = s.now ∧
    (takeSample a sample s).free = s.free ∧ (takeSample a sample s).pending = s.pending := by
  unfold takeSample; split <;> simp


@[simp] theorem offer_frame (q : QName) (x : QEntry) (s : State) :
    (offer q x s).1.bu = s.bu ∧ (offer q x s).1.rc = s.rc ∧ (offer q x s).1.fc = s.fc ∧ (offer q x s).1.sc = s.sc ∧
    (offer q x s).1.su = s.su ∧ (offer q x s).1.flash = s.flash ∧ (offer q x s).1.ie = s.ie ∧
    (offer q x s).1.ac = s.ac ∧ (offer q x s).1.ml = s.ml ∧ (offer q x s).1.sl = s.sl ∧
    (offer q x s).1.pins = s.pins ∧ (offer q x s).1.now = s.now ∧ (offer q x s).1.free = s.free ∧
    (offer q x s).1.pending = s.pending := by
  unfold offer; split <;> simp


@[simp] theorem countArrival_frame (c : Class) (len : Nat) (s : State) :
    (countArrival c len s).bu = s.bu ∧ (countArrival c len s).rc = s.rc ∧ (countArrival c len s).sc = s.sc ∧
    (countArrival c len s).es = s.es ∧ (countArrival c len s).su = s.su ∧ (countArrival c len s).flash = s.flash ∧
    (countArrival c len s).ie = s.ie ∧ (countArrival c len s).ac = s.ac ∧ (countArrival c len s).ml = s.ml ∧
    (countArrival c len s).sl = s.sl ∧ (countArrival c len s).pins = s.pins ∧ (countArrival c len s).now = s.now ∧
    (countArrival c len s).free = s.free ∧ (countArrival c len s).pending = s.pending := by
  simp [countArrival]


@[simp] theorem offerClass_frame (c : Class) (x : QEntry) (s : State) :
    (offerClass c x s).1.bu = s.bu ∧ (offerClass c x s).1.rc = s.rc ∧ (offerClass c x s).1.sc = s.sc ∧
    (offerClass c x s).1.su = s.su ∧ (offerClass c x s).1.flash = s.flash ∧ (offerClass c x s).1.ie = s.ie ∧
    (offerClass c x s).1.ac = s.ac ∧ (offerClass c x s).1.ml = s.ml ∧ (offerClass c x s).1.sl = s.sl ∧
    (offerClass c x s).1.pins = s.pins ∧ (offerClass c x s).1.now = s.now ∧ (offerClass c x s).1.free = s.free ∧
    (offerClass c x s).1.pending = s.pending := by
  unfold offerClass; dsimp only; split <;> simp


@[simp] theorem createFlow_frame (i : Nat) (c : Client) (j : Nat) (k : FlowKey) (result : Class) (s : State) :
    (createFlow i c j k result s).1.bu = s.bu ∧ (createFlow i c j k result s).1.sc = s.sc ∧
    (createFlow i c j k result s).1.es = s.es ∧ (createFlow i c j k result s).1.su = s.su ∧
    (createFlow i c j k result s).1.flash = s.flash ∧ (createFlow i c j k result s).1.ie = s.ie ∧
    (createFlow i c j k result s).1.ac = s.ac ∧ (createFlow i c j k result s).1.ml = s.ml ∧
    (createFlow i c j k result s).1.sl = s.sl ∧ (createFlow i c j k result s).1.pins = s.pins ∧
    (createFlow i c j k result s).1.now = s.now ∧ (createFlow i c j k result s).1.free = s.free ∧
    (createFlow i c j k result s).1.pending = s.pending := by
  unfold createFlow; dsimp only; (repeat' split) <;> simp


@[simp] theorem flowMiss_frame (k : FlowKey) (f : FrameInfo) (s : State) :
    (flowMiss k f s).1.bu = s.bu ∧ (flowMiss k f s).1.sc = s.sc ∧ (flowMiss k f s).1.es = s.es ∧
    (flowMiss k f s).1.su = s.su ∧ (flowMiss k f s).1.flash = s.flash ∧ (flowMiss k f s).1.ie = s.ie ∧
    (flowMiss k f s).1.ac = s.ac ∧ (flowMiss k f s).1.ml = s.ml ∧ (flowMiss k f s).1.sl = s.sl ∧
    (flowMiss k f s).1.pins = s.pins ∧ (flowMiss k f s).1.now = s.now ∧ (flowMiss k f s).1.free = s.free ∧
    (flowMiss k f s).1.pending = s.pending := by
  unfold flowMiss; (repeat' split) <;> simp


@[simp] theorem classify_frame (subject : Addr) (subjectDest : Bool) (frame : List Byte) (s : State) :
    (classify subject subjectDest frame s).1.bu = s.bu ∧ (classify subject subjectDest frame s).1.sc = s.sc ∧
    (classify subject subjectDest frame s).1.es = s.es ∧ (classify subject subjectDest frame s).1.su = s.su ∧
    (classify subject subjectDest frame s).1.flash = s.flash ∧ (classify subject subjectDest frame s).1.ie = s.ie ∧
    (classify subject subjectDest frame s).1.ac = s.ac ∧ (classify subject subjectDest frame s).1.ml = s.ml ∧
    (classify subject subjectDest frame s).1.sl = s.sl ∧ (classify subject subjectDest frame s).1.pins = s.pins ∧
    (classify subject subjectDest frame s).1.now = s.now ∧ (classify subject subjectDest frame s).1.free = s.free ∧
    (classify subject subjectDest frame s).1.pending = s.pending := by
  unfold classify; dsimp only; (repeat' split) <;> simp


@[simp] theorem countFlow_frame (j : Option Nat) (len : Nat) (s : State) :
    (countFlow j len s).bu = s.bu ∧ (countFlow j len s).rc = s.rc ∧ (countFlow j len s).sc = s.sc ∧
    (countFlow j len s).es = s.es ∧ (countFlow j len s).su = s.su ∧ (countFlow j len s).flash = s.flash ∧
    (countFlow j len s).ie = s.ie ∧ (countFlow j len s).ac = s.ac ∧ (countFlow j len s).ml = s.ml ∧
    (countFlow j len s).sl = s.sl ∧ (countFlow j len s).pins = s.pins ∧ (countFlow j len s).now = s.now ∧
    (countFlow j len s).free = s.free ∧ (countFlow j len s).pending = s.pending := by
  unfold countFlow; (repeat' split) <;> simp


@[simp] theorem markActive_frame (a : Addr) (s : State) :
    (markActive a s).bu = s.bu ∧ (markActive a s).fc = s.fc ∧ (markActive a s).sc = s.sc ∧
    (markActive a s).es = s.es ∧ (markActive a s).su = s.su ∧ (markActive a s).flash = s.flash ∧
    (markActive a s).ie = s.ie ∧ (markActive a s).ac = s.ac ∧ (markActive a s).ml = s.ml ∧
    (markActive a s).sl = s.sl ∧ (markActive a s).pins = s.pins ∧ (markActive a s).now = s.now ∧
    (markActive a s).free = s.free ∧ (markActive a s).pending = s.pending := by
  unfold markActive; (repeat' split) <;> simp


@[simp] theorem offerFrame_frame (d : Dest) (cls : Class) (reForwarded : Bool) (frame : List Byte) (s : State) :
    (offerFrame d cls reForwarded frame s).1.bu = s.bu ∧ (offerFrame d cls reForwarded frame s).1.rc = s.rc ∧
    (offerFrame d cls reForwarded frame s).1.sc = s.sc ∧ (offerFrame d cls reForwarded frame s).1.su = s.su ∧
    (offerFrame d cls reForwarded frame s).1.flash = s.flash ∧ (offerFrame d cls reForwarded frame s).1.ie = s.ie ∧
    (offerFrame d cls reForwarded frame s).1.ac = s.ac ∧ (offerFrame d cls reForwarded frame s).1.ml = s.ml ∧
    (offerFrame d cls reForwarded frame s).1.sl = s.sl ∧ (offerFrame d cls reForwarded frame s).1.pins = s.pins ∧
    (offerFrame d cls reForwarded frame s).1.now = s.now ∧ (offerFrame d cls reForwarded frame s).1.free = s.free ∧
    (offerFrame d cls reForwarded frame s).1.pending = s.pending := by
  unfold offerFrame; split <;> simp


@[simp] theorem noUplink_frame (s : State) :
    (noUplink s).bu = s.bu ∧ (noUplink s).fc = s.fc ∧ (noUplink s).sc = s.sc ∧ (noUplink s).es = s.es ∧
    (noUplink s).su = s.su ∧ (noUplink s).flash = s.flash ∧ (noUplink s).ie = s.ie ∧ (noUplink s).ac = s.ac ∧
    (noUplink s).sl = s.sl ∧ (noUplink s).pins = s.pins ∧ (noUplink s).now = s.now ∧ (noUplink s).free = s.free ∧
    (noUplink s).pending = s.pending ∧ (noUplink s).rc.clients = s.rc.clients := by
  unfold noUplink; split <;> simp


@[simp] theorem setIe_frame (s : State) (f : Ie → Ie) :
    (setIe s f).bu = s.bu ∧ (setIe s f).rc = s.rc ∧ (setIe s f).fc = s.fc ∧ (setIe s f).sc = s.sc ∧
    (setIe s f).es = s.es ∧ (setIe s f).su = s.su ∧ (setIe s f).flash = s.flash ∧ (setIe s f).ac = s.ac ∧
    (setIe s f).ml = s.ml ∧ (setIe s f).sl = s.sl ∧ (setIe s f).pins = s.pins ∧ (setIe s f).now = s.now ∧
    (setIe s f).free = s.free ∧ (setIe s f).pending = s.pending := by
  simp [setIe]


@[simp] theorem requestHeader_frame (w : HeaderWork) (s : State) :
    (requestHeader w s).bu = s.bu ∧ (requestHeader w s).rc = s.rc ∧ (requestHeader w s).fc = s.fc ∧
    (requestHeader w s).sc = s.sc ∧ (requestHeader w s).es = s.es ∧ (requestHeader w s).su = s.su ∧
    (requestHeader w s).flash = s.flash ∧ (requestHeader w s).ac = s.ac ∧ (requestHeader w s).ml = s.ml ∧
    (requestHeader w s).sl = s.sl ∧ (requestHeader w s).pins = s.pins ∧ (requestHeader w s).now = s.now ∧
    (requestHeader w s).free = s.free ∧ (requestHeader w s).pending = s.pending := by
  simp [requestHeader]


@[simp] theorem startFlash_frame (s : State) :
    (startFlash s).bu = s.bu ∧ (startFlash s).rc = s.rc ∧ (startFlash s).fc = s.fc ∧ (startFlash s).sc = s.sc ∧
    (startFlash s).es = s.es ∧ (startFlash s).su = s.su ∧ (startFlash s).flash = s.flash ∧
    (startFlash s).ac = s.ac ∧ (startFlash s).ml = s.ml ∧ (startFlash s).sl = s.sl ∧ (startFlash s).pins = s.pins ∧
    (startFlash s).now = s.now ∧ (startFlash s).free = s.free ∧ (startFlash s).pending = s.pending := by
  unfold startFlash; (repeat' split) <;> simp


/-- Failing fetches back changes the fetch list and the presence map alone (R146). -/
theorem foldl_failFetch_eq (l : List Fetch) (e : Ie) : l.foldl (fun x f => failFetch f x) e =
    { e with fetches := (l.foldl (fun x f => failFetch f x) e).fetches,
             presence := (l.foldl (fun x f => failFetch f x) e).presence } := by
  induction l generalizing e with
  | nil => rfl
  | cons f l ih => rw [List.foldl_cons, ih]; rfl


/-- An emptied fetch list changes the presence map beside, and nothing else (R146). -/
theorem emptyFetches_eq (e : Ie) :
    emptyFetches e = { e with fetches := [], presence := (emptyFetches e).presence } := by
  unfold emptyFetches; rw [foldl_failFetch_eq]


@[simp] theorem beginErase_frame (after : After) (s : State) :
    (beginErase after s).bu = s.bu ∧ (beginErase after s).rc = s.rc ∧ (beginErase after s).fc = s.fc ∧
    (beginErase after s).sc = s.sc ∧ (beginErase after s).es = s.es ∧ (beginErase after s).su = s.su ∧
    (beginErase after s).flash = s.flash ∧ (beginErase after s).ac = s.ac ∧ (beginErase after s).sl = s.sl ∧
    (beginErase after s).pins = s.pins ∧ (beginErase after s).now = s.now ∧ (beginErase after s).free = s.free ∧
    (beginErase after s).pending = s.pending := by
  unfold beginErase; dsimp only; split <;> simp


@[simp] theorem beginFilling_frame (d : Desc) (s : State) :
    (beginFilling d s).bu = s.bu ∧ (beginFilling d s).rc = s.rc ∧ (beginFilling d s).fc = s.fc ∧
    (beginFilling d s).sc = s.sc ∧ (beginFilling d s).es = s.es ∧ (beginFilling d s).su = s.su ∧
    (beginFilling d s).flash = s.flash ∧ (beginFilling d s).ac = s.ac ∧ (beginFilling d s).ml = s.ml ∧
    (beginFilling d s).sl = s.sl ∧ (beginFilling d s).pins = s.pins ∧ (beginFilling d s).now = s.now ∧
    (beginFilling d s).free = s.free ∧ (beginFilling d s).pending = s.pending := by
  simp [beginFilling]


@[simp] theorem takeImage_frame (d : Desc) (s : State) :
    (takeImage d s).bu = s.bu ∧ (takeImage d s).rc = s.rc ∧ (takeImage d s).fc = s.fc ∧ (takeImage d s).sc = s.sc ∧
    (takeImage d s).es = s.es ∧ (takeImage d s).su = s.su ∧ (takeImage d s).flash = s.flash ∧
    (takeImage d s).ac = s.ac ∧ (takeImage d s).sl = s.sl ∧ (takeImage d s).pins = s.pins ∧
    (takeImage d s).now = s.now ∧ (takeImage d s).free = s.free ∧ (takeImage d s).pending = s.pending := by
  unfold takeImage; split <;> simp


@[simp] theorem endErase_frame (s : State) :
    (endErase s).bu = s.bu ∧ (endErase s).rc = s.rc ∧ (endErase s).fc = s.fc ∧ (endErase s).sc = s.sc ∧
    (endErase s).es = s.es ∧ (endErase s).su = s.su ∧ (endErase s).flash = s.flash ∧ (endErase s).ac = s.ac ∧
    (endErase s).sl = s.sl ∧ (endErase s).pins = s.pins ∧ (endErase s).now = s.now ∧ (endErase s).free = s.free ∧
    (endErase s).pending = s.pending := by
  unfold endErase; dsimp only; split <;> simp


@[simp] theorem noteConflicts_frame (from_ number length check : Nat) (s : State) :
    (noteConflicts from_ number length check s).bu = s.bu ∧ (noteConflicts from_ number length check s).rc = s.rc ∧
    (noteConflicts from_ number length check s).fc = s.fc ∧ (noteConflicts from_ number length check s).sc = s.sc ∧
    (noteConflicts from_ number length check s).es = s.es ∧ (noteConflicts from_ number length check s).su = s.su ∧
    (noteConflicts from_ number length check s).flash = s.flash ∧
    (noteConflicts from_ number length check s).ac = s.ac ∧ (noteConflicts from_ number length check s).sl = s.sl ∧
    (noteConflicts from_ number length check s).pins = s.pins ∧
    (noteConflicts from_ number length check s).now = s.now ∧
    (noteConflicts from_ number length check s).free = s.free ∧
    (noteConflicts from_ number length check s).pending = s.pending := by
  unfold noteConflicts; dsimp only; (repeat' split) <;> simp


@[simp] theorem lookForImage_frame (n : Nat) (b : PulseBody) (s : State) :
    (lookForImage n b s).bu = s.bu ∧ (lookForImage n b s).rc = s.rc ∧ (lookForImage n b s).fc = s.fc ∧
    (lookForImage n b s).sc = s.sc ∧ (lookForImage n b s).es = s.es ∧ (lookForImage n b s).su = s.su ∧
    (lookForImage n b s).flash = s.flash ∧ (lookForImage n b s).ac = s.ac ∧ (lookForImage n b s).sl = s.sl ∧
    (lookForImage n b s).pins = s.pins ∧ (lookForImage n b s).now = s.now ∧ (lookForImage n b s).free = s.free ∧
    (lookForImage n b s).pending = s.pending := by
  unfold lookForImage; split <;> simp


@[simp] theorem fetchOne_frame (s : State) :
    (fetchOne s).rc = s.rc ∧ (fetchOne s).fc = s.fc ∧ (fetchOne s).sc = s.sc ∧ (fetchOne s).es = s.es ∧
    (fetchOne s).su = s.su ∧ (fetchOne s).flash = s.flash ∧ (fetchOne s).ac = s.ac ∧ (fetchOne s).ml = s.ml ∧
    (fetchOne s).sl = s.sl ∧ (fetchOne s).pins = s.pins ∧ (fetchOne s).now = s.now ∧ (fetchOne s).free = s.free ∧
    (fetchOne s).pending = s.pending ∧ (fetchOne s).bu.peers = s.bu.peers := by
  unfold fetchOne; (repeat' split) <;> simp


@[simp] theorem fetchLoop_frame (n : Nat) (s : State) :
    (fetchLoop n s).rc = s.rc ∧ (fetchLoop n s).fc = s.fc ∧ (fetchLoop n s).sc = s.sc ∧ (fetchLoop n s).es = s.es ∧
    (fetchLoop n s).su = s.su ∧ (fetchLoop n s).flash = s.flash ∧ (fetchLoop n s).ac = s.ac ∧
    (fetchLoop n s).ml = s.ml ∧ (fetchLoop n s).sl = s.sl ∧ (fetchLoop n s).pins = s.pins ∧
    (fetchLoop n s).now = s.now ∧ (fetchLoop n s).free = s.free ∧ (fetchLoop n s).pending = s.pending ∧
    (fetchLoop n s).bu.peers = s.bu.peers := by
  induction n generalizing s with
  | zero => simp [fetchLoop]
  | succ n ih => simp only [fetchLoop]; split <;> simp [ih]



@[simp] theorem issueFetches_frame (s : State) :
    (issueFetches s).rc = s.rc ∧ (issueFetches s).fc = s.fc ∧ (issueFetches s).sc = s.sc ∧
    (issueFetches s).es = s.es ∧ (issueFetches s).su = s.su ∧ (issueFetches s).flash = s.flash ∧
    (issueFetches s).ac = s.ac ∧ (issueFetches s).ml = s.ml ∧ (issueFetches s).sl = s.sl ∧
    (issueFetches s).pins = s.pins ∧ (issueFetches s).now = s.now ∧ (issueFetches s).free = s.free ∧
    (issueFetches s).pending = s.pending ∧ (issueFetches s).bu.peers = s.bu.peers := by
  unfold issueFetches; split <;> simp


@[simp] theorem acTo_frame (a : AcState) (s : State) :
    (acTo a s).bu = s.bu ∧ (acTo a s).fc = s.fc ∧ (acTo a s).sc = s.sc ∧ (acTo a s).es = s.es ∧
    (acTo a s).su = s.su ∧ (acTo a s).flash = s.flash ∧ (acTo a s).ie = s.ie ∧ (acTo a s).ml = s.ml ∧
    (acTo a s).sl = s.sl ∧ (acTo a s).pins = s.pins ∧ (acTo a s).now = s.now ∧ (acTo a s).free = s.free ∧
    (acTo a s).pending = s.pending ∧ (acTo a s).rc.clients = s.rc.clients := by
  unfold acTo; split <;> simp


@[simp] theorem acStopTimers_frame (s : State) :
    (acStopTimers s).bu = s.bu ∧ (acStopTimers s).rc = s.rc ∧ (acStopTimers s).fc = s.fc ∧
    (acStopTimers s).sc = s.sc ∧ (acStopTimers s).es = s.es ∧ (acStopTimers s).su = s.su ∧
    (acStopTimers s).flash = s.flash ∧ (acStopTimers s).ie = s.ie ∧ (acStopTimers s).ml = s.ml ∧
    (acStopTimers s).sl = s.sl ∧ (acStopTimers s).pins = s.pins ∧ (acStopTimers s).now = s.now ∧
    (acStopTimers s).free = s.free ∧ (acStopTimers s).pending = s.pending := by
  simp [acStopTimers]


@[simp] theorem acToIdle_frame (s : State) :
    (acToIdle s).bu = s.bu ∧ (acToIdle s).fc = s.fc ∧ (acToIdle s).sc = s.sc ∧ (acToIdle s).es = s.es ∧
    (acToIdle s).su = s.su ∧ (acToIdle s).flash = s.flash ∧ (acToIdle s).ie = s.ie ∧ (acToIdle s).ml = s.ml ∧
    (acToIdle s).sl = s.sl ∧ (acToIdle s).pins = s.pins ∧ (acToIdle s).now = s.now ∧ (acToIdle s).free = s.free ∧
    (acToIdle s).pending = s.pending ∧ (acToIdle s).rc.clients = s.rc.clients := by
  simp [acToIdle]


@[simp] theorem setHoldoff_frame (s : State) :
    (setHoldoff s).bu = s.bu ∧ (setHoldoff s).rc = s.rc ∧ (setHoldoff s).fc = s.fc ∧ (setHoldoff s).sc = s.sc ∧
    (setHoldoff s).es = s.es ∧ (setHoldoff s).su = s.su ∧ (setHoldoff s).flash = s.flash ∧
    (setHoldoff s).ie = s.ie ∧ (setHoldoff s).ml = s.ml ∧ (setHoldoff s).sl = s.sl ∧ (setHoldoff s).pins = s.pins ∧
    (setHoldoff s).now = s.now ∧ (setHoldoff s).free = s.free ∧ (setHoldoff s).pending = s.pending := by
  simp [setHoldoff]


@[simp] theorem enterLeaving_frame (limit : Bool) (s : State) :
    (enterLeaving limit s).bu = s.bu ∧ (enterLeaving limit s).fc = s.fc ∧ (enterLeaving limit s).sc = s.sc ∧
    (enterLeaving limit s).es = s.es ∧ (enterLeaving limit s).su = s.su ∧ (enterLeaving limit s).flash = s.flash ∧
    (enterLeaving limit s).ie = s.ie ∧ (enterLeaving limit s).sl = s.sl ∧ (enterLeaving limit s).pins = s.pins ∧
    (enterLeaving limit s).now = s.now ∧ (enterLeaving limit s).free = s.free ∧
    (enterLeaving limit s).pending = s.pending ∧ (enterLeaving limit s).rc.clients = s.rc.clients := by
  simp [enterLeaving]


@[simp] theorem acDrained_frame (s : State) :
    (acDrained s).bu = s.bu ∧ (acDrained s).fc = s.fc ∧ (acDrained s).sc = s.sc ∧ (acDrained s).es = s.es ∧
    (acDrained s).su = s.su ∧ (acDrained s).flash = s.flash ∧ (acDrained s).ie = s.ie ∧ (acDrained s).sl = s.sl ∧
    (acDrained s).pins = s.pins ∧ (acDrained s).now = s.now ∧ (acDrained s).free = s.free ∧
    (acDrained s).pending = s.pending ∧ (acDrained s).rc.clients = s.rc.clients := by
  unfold acDrained; split <;> simp


@[simp] theorem enterDraining_frame (s : State) :
    (enterDraining s).fc = s.fc ∧ (enterDraining s).sc = s.sc ∧ (enterDraining s).es = s.es ∧
    (enterDraining s).su = s.su ∧ (enterDraining s).flash = s.flash ∧ (enterDraining s).ie = s.ie ∧
    (enterDraining s).sl = s.sl ∧ (enterDraining s).pins = s.pins ∧ (enterDraining s).now = s.now ∧
    (enterDraining s).free = s.free ∧ (enterDraining s).pending = s.pending ∧
    (enterDraining s).bu.peers = s.bu.peers ∧ (enterDraining s).rc.clients = s.rc.clients := by
  simp [enterDraining]


@[simp] theorem acDue_frame (s : State) :
    (acDue s).bu = s.bu ∧ (acDue s).fc = s.fc ∧ (acDue s).sc = s.sc ∧ (acDue s).es = s.es ∧ (acDue s).su = s.su ∧
    (acDue s).flash = s.flash ∧ (acDue s).ie = s.ie ∧ (acDue s).ml = s.ml ∧ (acDue s).sl = s.sl ∧
    (acDue s).pins = s.pins ∧ (acDue s).now = s.now ∧ (acDue s).free = s.free ∧ (acDue s).pending = s.pending ∧
    (acDue s).rc.clients = s.rc.clients := by
  unfold acDue; (repeat' split) <;> simp


@[simp] theorem acConditions_frame (s : State) :
    (acConditions s).bu = s.bu ∧ (acConditions s).fc = s.fc ∧ (acConditions s).sc = s.sc ∧
    (acConditions s).es = s.es ∧ (acConditions s).su = s.su ∧ (acConditions s).flash = s.flash ∧
    (acConditions s).ie = s.ie ∧ (acConditions s).ml = s.ml ∧ (acConditions s).sl = s.sl ∧
    (acConditions s).pins = s.pins ∧ (acConditions s).now = s.now ∧ (acConditions s).free = s.free ∧
    (acConditions s).pending = s.pending ∧ (acConditions s).rc.clients = s.rc.clients := by
  unfold acConditions; (repeat' split) <;> simp


@[simp] theorem acSettle_frame (s : State) :
    (acSettle s).fc = s.fc ∧ (acSettle s).sc = s.sc ∧ (acSettle s).es = s.es ∧ (acSettle s).su = s.su ∧
    (acSettle s).flash = s.flash ∧ (acSettle s).ie = s.ie ∧ (acSettle s).sl = s.sl ∧ (acSettle s).pins = s.pins ∧
    (acSettle s).now = s.now ∧ (acSettle s).free = s.free ∧ (acSettle s).pending = s.pending ∧
    (acSettle s).bu.peers = s.bu.peers ∧ (acSettle s).rc.clients = s.rc.clients := by
  simp [acSettle]


@[simp] theorem drainSettle_frame (s : State) :
    (drainSettle s).fc = s.fc ∧ (drainSettle s).sc = s.sc ∧ (drainSettle s).es = s.es ∧ (drainSettle s).su = s.su ∧
    (drainSettle s).flash = s.flash ∧ (drainSettle s).ie = s.ie ∧ (drainSettle s).sl = s.sl ∧
    (drainSettle s).pins = s.pins ∧ (drainSettle s).now = s.now ∧ (drainSettle s).free = s.free ∧
    (drainSettle s).pending = s.pending ∧ (drainSettle s).bu.peers = s.bu.peers ∧
    (drainSettle s).rc.clients = s.rc.clients := by
  simp [drainSettle]


@[simp] theorem acEdge_frame (s : State) :
    (acEdge s).fc = s.fc ∧ (acEdge s).sc = s.sc ∧ (acEdge s).es = s.es ∧ (acEdge s).su = s.su ∧
    (acEdge s).flash = s.flash ∧ (acEdge s).ie = s.ie ∧ (acEdge s).sl = s.sl ∧ (acEdge s).pins = s.pins ∧
    (acEdge s).now = s.now ∧ (acEdge s).free = s.free ∧ (acEdge s).pending = s.pending ∧
    (acEdge s).bu.peers = s.bu.peers ∧ (acEdge s).rc.clients = s.rc.clients := by
  unfold acEdge; (repeat' split) <;> simp


@[simp] theorem acPulse_frame (n : Nat) (b : PulseBody) (s : State) :
    (acPulse n b s).bu = s.bu ∧ (acPulse n b s).fc = s.fc ∧ (acPulse n b s).sc = s.sc ∧ (acPulse n b s).es = s.es ∧
    (acPulse n b s).su = s.su ∧ (acPulse n b s).flash = s.flash ∧ (acPulse n b s).ie = s.ie ∧
    (acPulse n b s).ml = s.ml ∧ (acPulse n b s).sl = s.sl ∧ (acPulse n b s).pins = s.pins ∧
    (acPulse n b s).now = s.now ∧ (acPulse n b s).free = s.free ∧ (acPulse n b s).pending = s.pending ∧
    (acPulse n b s).rc.clients = s.rc.clients := by
  unfold acPulse; (repeat' split) <;> simp


@[simp] theorem acIsolated_frame (s : State) :
    (acIsolated s).bu = s.bu ∧ (acIsolated s).fc = s.fc ∧ (acIsolated s).sc = s.sc ∧ (acIsolated s).es = s.es ∧
    (acIsolated s).su = s.su ∧ (acIsolated s).flash = s.flash ∧ (acIsolated s).ie = s.ie ∧
    (acIsolated s).ml = s.ml ∧ (acIsolated s).sl = s.sl ∧ (acIsolated s).pins = s.pins ∧
    (acIsolated s).now = s.now ∧ (acIsolated s).free = s.free ∧ (acIsolated s).pending = s.pending ∧
    (acIsolated s).rc.clients = s.rc.clients := by
  unfold acIsolated; split <;> simp


end Sys2Proof.Machine
end

