-- ==== Sys2Proof/Laws/FramesEdge.lean ====
section
/-! SUPPORT. Frames: which top-level fields of State each operation of the epoch edge, the schedules, start-up and reception leaves as they were. -/

namespace Sys2Proof.Machine

@[simp] theorem putProfile_frame (p : Nat) (x : Profile) (s : State) :
    (putProfile p x s).bu = s.bu ∧ (putProfile p x s).rc = s.rc ∧ (putProfile p x s).fc = s.fc ∧
    (putProfile p x s).sc = s.sc ∧ (putProfile p x s).es = s.es ∧ (putProfile p x s).flash = s.flash ∧
    (putProfile p x s).ie = s.ie ∧ (putProfile p x s).ac = s.ac ∧ (putProfile p x s).ml = s.ml ∧
    (putProfile p x s).sl = s.sl ∧ (putProfile p x s).pins = s.pins ∧ (putProfile p x s).now = s.now ∧
    (putProfile p x s).free = s.free ∧ (putProfile p x s).pending = s.pending ∧
    (putProfile p x s).su.clock = s.su.clock := by
  simp [putProfile]


@[simp] theorem evalProfile_frame (p : Nat) (s : State) :
    (evalProfile p s).bu = s.bu ∧ (evalProfile p s).rc = s.rc ∧ (evalProfile p s).fc = s.fc ∧
    (evalProfile p s).sc = s.sc ∧ (evalProfile p s).es = s.es ∧ (evalProfile p s).flash = s.flash ∧
    (evalProfile p s).ie = s.ie ∧ (evalProfile p s).ac = s.ac ∧ (evalProfile p s).sl = s.sl ∧
    (evalProfile p s).pins = s.pins ∧ (evalProfile p s).now = s.now ∧ (evalProfile p s).free = s.free ∧
    (evalProfile p s).pending = s.pending ∧ (evalProfile p s).su.clock = s.su.clock := by
  unfold evalProfile; dsimp only; (repeat' split) <;> simp


@[simp] theorem evalProfiles_frame (s : State) :
    (evalProfiles s).bu = s.bu ∧ (evalProfiles s).rc = s.rc ∧ (evalProfiles s).fc = s.fc ∧
    (evalProfiles s).sc = s.sc ∧ (evalProfiles s).es = s.es ∧ (evalProfiles s).flash = s.flash ∧
    (evalProfiles s).ie = s.ie ∧ (evalProfiles s).ac = s.ac ∧ (evalProfiles s).sl = s.sl ∧
    (evalProfiles s).pins = s.pins ∧ (evalProfiles s).now = s.now ∧ (evalProfiles s).free = s.free ∧
    (evalProfiles s).pending = s.pending ∧ (evalProfiles s).su.clock = s.su.clock := by
  have key := foldl_keeps (fun x : State => (x.bu, x.rc, x.fc, x.sc, x.es, x.flash, x.ie, x.ac, x.sl, x.pins, x.now, x.free, x.pending, x.su.clock)) (fun t p => evalProfile p t)
    (fun a b => by simp) (List.range Config.profiles) s
  simp only [Prod.mk.injEq] at key
  unfold evalProfiles
  exact key



@[simp] theorem evalMaintenance_frame (s : State) :
    (evalMaintenance s).bu = s.bu ∧ (evalMaintenance s).rc = s.rc ∧ (evalMaintenance s).fc = s.fc ∧
    (evalMaintenance s).sc = s.sc ∧ (evalMaintenance s).es = s.es ∧ (evalMaintenance s).flash = s.flash ∧
    (evalMaintenance s).ie = s.ie ∧ (evalMaintenance s).ac = s.ac ∧ (evalMaintenance s).ml = s.ml ∧
    (evalMaintenance s).sl = s.sl ∧ (evalMaintenance s).pins = s.pins ∧ (evalMaintenance s).now = s.now ∧
    (evalMaintenance s).free = s.free ∧ (evalMaintenance s).pending = s.pending ∧
    (evalMaintenance s).su.clock = s.su.clock := by
  simp [evalMaintenance]


@[simp] theorem evalVerdict_frame (i : Nat) (s : State) :
    (evalVerdict i s).bu = s.bu ∧ (evalVerdict i s).sc = s.sc ∧ (evalVerdict i s).es = s.es ∧
    (evalVerdict i s).su = s.su ∧ (evalVerdict i s).flash = s.flash ∧ (evalVerdict i s).ie = s.ie ∧
    (evalVerdict i s).ac = s.ac ∧ (evalVerdict i s).sl = s.sl ∧ (evalVerdict i s).pins = s.pins ∧
    (evalVerdict i s).now = s.now ∧ (evalVerdict i s).free = s.free ∧ (evalVerdict i s).pending = s.pending := by
  unfold evalVerdict; (repeat' split) <;> simp


@[simp] theorem evalVerdicts_frame (s : State) :
    (evalVerdicts s).bu = s.bu ∧ (evalVerdicts s).sc = s.sc ∧ (evalVerdicts s).es = s.es ∧
    (evalVerdicts s).su = s.su ∧ (evalVerdicts s).flash = s.flash ∧ (evalVerdicts s).ie = s.ie ∧
    (evalVerdicts s).ac = s.ac ∧ (evalVerdicts s).sl = s.sl ∧ (evalVerdicts s).pins = s.pins ∧
    (evalVerdicts s).now = s.now ∧ (evalVerdicts s).free = s.free ∧ (evalVerdicts s).pending = s.pending := by
  have key := forClients_keeps (fun x : State => (x.bu, x.sc, x.es, x.su, x.flash, x.ie, x.ac, x.sl, x.pins, x.now, x.free, x.pending)) (evalVerdict) (fun i t => by simp) s
  simp only [Prod.mk.injEq] at key
  unfold evalVerdicts
  exact key



@[simp] theorem evalVerdictsOf_frame (p : Nat) (s : State) :
    (evalVerdictsOf p s).bu = s.bu ∧ (evalVerdictsOf p s).sc = s.sc ∧ (evalVerdictsOf p s).es = s.es ∧
    (evalVerdictsOf p s).su = s.su ∧ (evalVerdictsOf p s).flash = s.flash ∧ (evalVerdictsOf p s).ie = s.ie ∧
    (evalVerdictsOf p s).ac = s.ac ∧ (evalVerdictsOf p s).sl = s.sl ∧ (evalVerdictsOf p s).pins = s.pins ∧
    (evalVerdictsOf p s).now = s.now ∧ (evalVerdictsOf p s).free = s.free ∧ (evalVerdictsOf p s).pending = s.pending := by
  have key := forClients_keeps (fun x : State => (x.bu, x.sc, x.es, x.su, x.flash, x.ie, x.ac, x.sl, x.pins, x.now, x.free, x.pending)) (fun i t => match clientAt t i with
      | some c => if c.profile = p then evalVerdict i t else t
      | none => t) (fun i t => by (repeat' split) <;> simp) s
  simp only [Prod.mk.injEq] at key
  unfold evalVerdictsOf
  exact key



@[simp] theorem rollover_frame (s : State) :
    (rollover s).bu = s.bu ∧ (rollover s).fc = s.fc ∧ (rollover s).sc = s.sc ∧ (rollover s).es = s.es ∧
    (rollover s).su = s.su ∧ (rollover s).flash = s.flash ∧ (rollover s).ie = s.ie ∧ (rollover s).ac = s.ac ∧
    (rollover s).ml = s.ml ∧ (rollover s).sl = s.sl ∧ (rollover s).pins = s.pins ∧ (rollover s).now = s.now ∧
    (rollover s).free = s.free ∧ (rollover s).pending = s.pending := by
  simp [rollover]


@[simp] theorem rolloverFrom_frame (oldDay : Nat) (s : State) :
    (rolloverFrom oldDay s).bu = s.bu ∧ (rolloverFrom oldDay s).fc = s.fc ∧ (rolloverFrom oldDay s).sc = s.sc ∧
    (rolloverFrom oldDay s).es = s.es ∧ (rolloverFrom oldDay s).su = s.su ∧
    (rolloverFrom oldDay s).flash = s.flash ∧ (rolloverFrom oldDay s).ie = s.ie ∧
    (rolloverFrom oldDay s).ac = s.ac ∧ (rolloverFrom oldDay s).ml = s.ml ∧ (rolloverFrom oldDay s).sl = s.sl ∧
    (rolloverFrom oldDay s).pins = s.pins ∧ (rolloverFrom oldDay s).now = s.now ∧
    (rolloverFrom oldDay s).free = s.free ∧ (rolloverFrom oldDay s).pending = s.pending := by
  unfold rolloverFrom; split <;> simp


@[simp] theorem setClock_frame (c : Clock) (s : State) :
    (setClock c s).bu = s.bu ∧ (setClock c s).rc = s.rc ∧ (setClock c s).fc = s.fc ∧ (setClock c s).sc = s.sc ∧
    (setClock c s).es = s.es ∧ (setClock c s).flash = s.flash ∧ (setClock c s).ie = s.ie ∧
    (setClock c s).ac = s.ac ∧ (setClock c s).ml = s.ml ∧ (setClock c s).sl = s.sl ∧ (setClock c s).pins = s.pins ∧
    (setClock c s).now = s.now ∧ (setClock c s).free = s.free ∧ (setClock c s).pending = s.pending := by
  simp [setClock]


@[simp] theorem newClockValue_frame (g : Grade) (minute milli : Nat) (s : State) :
    (newClockValue g minute milli s).bu = s.bu ∧ (newClockValue g minute milli s).sc = s.sc ∧
    (newClockValue g minute milli s).es = s.es ∧ (newClockValue g minute milli s).flash = s.flash ∧
    (newClockValue g minute milli s).ie = s.ie ∧ (newClockValue g minute milli s).ac = s.ac ∧
    (newClockValue g minute milli s).sl = s.sl ∧ (newClockValue g minute milli s).pins = s.pins ∧
    (newClockValue g minute milli s).now = s.now ∧ (newClockValue g minute milli s).free = s.free ∧
    (newClockValue g minute milli s).pending = s.pending := by
  simp [newClockValue]


@[simp] theorem accountMinute_frame (s : State) :
    (accountMinute s).bu = s.bu ∧ (accountMinute s).fc = s.fc ∧ (accountMinute s).sc = s.sc ∧
    (accountMinute s).es = s.es ∧ (accountMinute s).su = s.su ∧ (accountMinute s).flash = s.flash ∧
    (accountMinute s).ie = s.ie ∧ (accountMinute s).ac = s.ac ∧ (accountMinute s).ml = s.ml ∧
    (accountMinute s).sl = s.sl ∧ (accountMinute s).pins = s.pins ∧ (accountMinute s).now = s.now ∧
    (accountMinute s).free = s.free ∧ (accountMinute s).pending = s.pending := by
  simp [accountMinute]


@[simp] theorem applyRecord_frame (p : Nat) (r : ProfileRecord) (s : State) :
    (applyRecord p r s).bu = s.bu ∧ (applyRecord p r s).rc = s.rc ∧ (applyRecord p r s).fc = s.fc ∧
    (applyRecord p r s).sc = s.sc ∧ (applyRecord p r s).es = s.es ∧ (applyRecord p r s).flash = s.flash ∧
    (applyRecord p r s).ie = s.ie ∧ (applyRecord p r s).ac = s.ac ∧ (applyRecord p r s).ml = s.ml ∧
    (applyRecord p r s).sl = s.sl ∧ (applyRecord p r s).pins = s.pins ∧ (applyRecord p r s).now = s.now ∧
    (applyRecord p r s).free = s.free ∧ (applyRecord p r s).pending = s.pending ∧
    (applyRecord p r s).su.clock = s.su.clock := by
  simp [applyRecord]


@[simp] theorem applyStagedOf_frame (p : Nat) (s : State) :
    (applyStagedOf p s).bu = s.bu ∧ (applyStagedOf p s).rc = s.rc ∧ (applyStagedOf p s).fc = s.fc ∧
    (applyStagedOf p s).sc = s.sc ∧ (applyStagedOf p s).es = s.es ∧ (applyStagedOf p s).flash = s.flash ∧
    (applyStagedOf p s).ie = s.ie ∧ (applyStagedOf p s).ac = s.ac ∧ (applyStagedOf p s).ml = s.ml ∧
    (applyStagedOf p s).sl = s.sl ∧ (applyStagedOf p s).pins = s.pins ∧ (applyStagedOf p s).now = s.now ∧
    (applyStagedOf p s).free = s.free ∧ (applyStagedOf p s).pending = s.pending ∧
    (applyStagedOf p s).su.clock = s.su.clock := by
  unfold applyStagedOf; split <;> simp


@[simp] theorem applyStaged_frame (s : State) :
    (applyStaged s).bu = s.bu ∧ (applyStaged s).rc = s.rc ∧ (applyStaged s).fc = s.fc ∧ (applyStaged s).sc = s.sc ∧
    (applyStaged s).es = s.es ∧ (applyStaged s).flash = s.flash ∧ (applyStaged s).ie = s.ie ∧
    (applyStaged s).ac = s.ac ∧ (applyStaged s).ml = s.ml ∧ (applyStaged s).sl = s.sl ∧
    (applyStaged s).pins = s.pins ∧ (applyStaged s).now = s.now ∧ (applyStaged s).free = s.free ∧
    (applyStaged s).pending = s.pending ∧ (applyStaged s).su.clock = s.su.clock := by
  have key := foldl_keeps (fun x : State => (x.bu, x.rc, x.fc, x.sc, x.es, x.flash, x.ie, x.ac, x.ml, x.sl, x.pins, x.now, x.free, x.pending, x.su.clock)) (fun t p => applyStagedOf p t)
    (fun a b => by simp) (List.range Config.profiles) s
  simp only [Prod.mk.injEq] at key
  unfold applyStaged
  exact key



@[simp] theorem minuteWork_frame (s : State) :
    (minuteWork s).bu = s.bu ∧ (minuteWork s).sc = s.sc ∧ (minuteWork s).es = s.es ∧
    (minuteWork s).flash = s.flash ∧ (minuteWork s).ie = s.ie ∧ (minuteWork s).ac = s.ac ∧
    (minuteWork s).sl = s.sl ∧ (minuteWork s).pins = s.pins ∧ (minuteWork s).now = s.now ∧
    (minuteWork s).free = s.free ∧ (minuteWork s).pending = s.pending := by
  simp [minuteWork]


@[simp] theorem losePeer_frame (n : Nat) (s : State) :
    (losePeer n s).bu = s.bu ∧ (losePeer n s).fc = s.fc ∧ (losePeer n s).sc = s.sc ∧ (losePeer n s).es = s.es ∧
    (losePeer n s).su = s.su ∧ (losePeer n s).flash = s.flash ∧ (losePeer n s).ac = s.ac ∧
    (losePeer n s).sl = s.sl ∧ (losePeer n s).pins = s.pins ∧ (losePeer n s).now = s.now ∧
    (losePeer n s).free = s.free ∧ (losePeer n s).pending = s.pending := by
  simp [losePeer]


@[simp] theorem peerAbsent_frame (n : Nat) (s : State) :
    (peerAbsent n s).fc = s.fc ∧ (peerAbsent n s).sc = s.sc ∧ (peerAbsent n s).es = s.es ∧
    (peerAbsent n s).su = s.su ∧ (peerAbsent n s).flash = s.flash ∧ (peerAbsent n s).ac = s.ac ∧
    (peerAbsent n s).sl = s.sl ∧ (peerAbsent n s).pins = s.pins ∧ (peerAbsent n s).now = s.now ∧
    (peerAbsent n s).free = s.free ∧ (peerAbsent n s).pending = s.pending := by
  simp [peerAbsent]


@[simp] theorem allPeersAbsent_frame (s : State) :
    (allPeersAbsent s).fc = s.fc ∧ (allPeersAbsent s).sc = s.sc ∧ (allPeersAbsent s).es = s.es ∧
    (allPeersAbsent s).su = s.su ∧ (allPeersAbsent s).flash = s.flash ∧ (allPeersAbsent s).ac = s.ac ∧
    (allPeersAbsent s).sl = s.sl ∧ (allPeersAbsent s).pins = s.pins ∧ (allPeersAbsent s).now = s.now ∧
    (allPeersAbsent s).free = s.free ∧ (allPeersAbsent s).pending = s.pending := by
  have key := foldl_keeps (fun x : State => (x.fc, x.sc, x.es, x.su, x.flash, x.ac, x.sl, x.pins, x.now, x.free, x.pending)) (fun t n => peerAbsent n t)
    (fun a b => by simp) (tabKeys s.bu.peers) (setPeers [] s)
  simp only [Prod.mk.injEq] at key
  unfold allPeersAbsent
  exact key



@[simp] theorem sendFrame_frame (bytes : List Byte) (s : State) :
    (sendFrame bytes s).bu = s.bu ∧ (sendFrame bytes s).rc = s.rc ∧ (sendFrame bytes s).fc = s.fc ∧
    (sendFrame bytes s).sc = s.sc ∧ (sendFrame bytes s).su = s.su ∧ (sendFrame bytes s).flash = s.flash ∧
    (sendFrame bytes s).ie = s.ie ∧ (sendFrame bytes s).ac = s.ac ∧ (sendFrame bytes s).ml = s.ml ∧
    (sendFrame bytes s).sl = s.sl ∧ (sendFrame bytes s).pins = s.pins ∧ (sendFrame bytes s).now = s.now ∧
    (sendFrame bytes s).free = s.free ∧ (sendFrame bytes s).pending = s.pending := by
  simp [sendFrame]


@[simp] theorem txBulletin_frame (target : Nat) (b : Body) (s : State) :
    (txBulletin target b s).rc = s.rc ∧ (txBulletin target b s).fc = s.fc ∧ (txBulletin target b s).sc = s.sc ∧
    (txBulletin target b s).su = s.su ∧ (txBulletin target b s).flash = s.flash ∧
    (txBulletin target b s).ie = s.ie ∧ (txBulletin target b s).ac = s.ac ∧ (txBulletin target b s).ml = s.ml ∧
    (txBulletin target b s).sl = s.sl ∧ (txBulletin target b s).pins = s.pins ∧
    (txBulletin target b s).now = s.now ∧ (txBulletin target b s).free = s.free ∧
    (txBulletin target b s).pending = s.pending ∧ (txBulletin target b s).bu.peers = s.bu.peers := by
  simp [txBulletin]


@[simp] theorem liveness_frame (n : Nat) (s : State) :
    (liveness n s).fc = s.fc ∧ (liveness n s).sc = s.sc ∧ (liveness n s).es = s.es ∧ (liveness n s).su = s.su ∧
    (liveness n s).flash = s.flash ∧ (liveness n s).ac = s.ac ∧ (liveness n s).sl = s.sl ∧
    (liveness n s).pins = s.pins ∧ (liveness n s).now = s.now ∧ (liveness n s).free = s.free ∧
    (liveness n s).pending = s.pending := by
  unfold liveness; dsimp only; (repeat' split) <;> simp


@[simp] theorem livenessAll_frame (s : State) :
    (livenessAll s).fc = s.fc ∧ (livenessAll s).sc = s.sc ∧ (livenessAll s).es = s.es ∧ (livenessAll s).su = s.su ∧
    (livenessAll s).flash = s.flash ∧ (livenessAll s).ac = s.ac ∧ (livenessAll s).sl = s.sl ∧
    (livenessAll s).pins = s.pins ∧ (livenessAll s).now = s.now ∧ (livenessAll s).free = s.free ∧
    (livenessAll s).pending = s.pending := by
  have key := foldl_keeps (fun x : State => (x.fc, x.sc, x.es, x.su, x.flash, x.ac, x.sl, x.pins, x.now, x.free, x.pending)) (fun t n => liveness n t)
    (fun a b => by simp) nodes s
  simp only [Prod.mk.injEq] at key
  unfold livenessAll
  exact key



@[simp] theorem edgeShare_frame (d : Quad) (s : State) :
    (edgeShare d s).bu = s.bu ∧ (edgeShare d s).rc = s.rc ∧ (edgeShare d s).fc = s.fc ∧ (edgeShare d s).su = s.su ∧
    (edgeShare d s).flash = s.flash ∧ (edgeShare d s).ie = s.ie ∧ (edgeShare d s).ac = s.ac ∧
    (edgeShare d s).ml = s.ml ∧ (edgeShare d s).sl = s.sl ∧ (edgeShare d s).pins = s.pins ∧
    (edgeShare d s).now = s.now ∧ (edgeShare d s).free = s.free ∧ (edgeShare d s).pending = s.pending := by
  simp [edgeShare]


@[simp] theorem epochEdge_frame (d : Quad) (s : State) :
    (epochEdge d s).su = s.su ∧ (epochEdge d s).flash = s.flash ∧ (epochEdge d s).sl = s.sl ∧
    (epochEdge d s).pins = s.pins ∧ (epochEdge d s).now = s.now ∧ (epochEdge d s).free = s.free ∧
    (epochEdge d s).pending = s.pending := by
  unfold epochEdge; dsimp only; split <;> simp


@[simp] theorem takePulse_frame (timed : Bool) (s : State) :
    (takePulse timed s).su = s.su ∧ (takePulse timed s).flash = s.flash ∧ (takePulse timed s).sl = s.sl ∧
    (takePulse timed s).pins = s.pins ∧ (takePulse timed s).now = s.now ∧ (takePulse timed s).free = s.free ∧
    (takePulse timed s).pending = s.pending := by
  unfold takePulse; split <;> simp


@[simp] theorem sendEntry_frame (x : QEntry) (s : State) :
    (sendEntry x s).rc = s.rc ∧ (sendEntry x s).fc = s.fc ∧ (sendEntry x s).sc = s.sc ∧ (sendEntry x s).su = s.su ∧
    (sendEntry x s).flash = s.flash ∧ (sendEntry x s).ie = s.ie ∧ (sendEntry x s).ac = s.ac ∧
    (sendEntry x s).ml = s.ml ∧ (sendEntry x s).sl = s.sl ∧ (sendEntry x s).pins = s.pins ∧
    (sendEntry x s).now = s.now ∧ (sendEntry x s).free = s.free ∧ (sendEntry x s).pending = s.pending ∧
    (sendEntry x s).bu.peers = s.bu.peers := by
  unfold sendEntry; split <;> simp


@[simp] theorem takeClass_frame (c : Class) (s : State) :
    (takeClass c s).rc = s.rc ∧ (takeClass c s).fc = s.fc ∧ (takeClass c s).sc = s.sc ∧ (takeClass c s).su = s.su ∧
    (takeClass c s).flash = s.flash ∧ (takeClass c s).ie = s.ie ∧ (takeClass c s).ac = s.ac ∧
    (takeClass c s).ml = s.ml ∧ (takeClass c s).sl = s.sl ∧ (takeClass c s).pins = s.pins ∧
    (takeClass c s).now = s.now ∧ (takeClass c s).free = s.free ∧ (takeClass c s).pending = s.pending ∧
    (takeClass c s).bu.peers = s.bu.peers := by
  unfold takeClass; split <;> simp


@[simp] theorem wake_frame (s : State) :
    (wake s).su = s.su ∧ (wake s).flash = s.flash ∧ (wake s).sl = s.sl ∧ (wake s).pins = s.pins ∧
    (wake s).now = s.now ∧ (wake s).free = s.free ∧ (wake s).pending = s.pending := by
  unfold wake; (repeat' split) <;> simp


@[simp] theorem nodePump_frame (s : State) :
    (nodePump s).bu = s.bu ∧ (nodePump s).rc = s.rc ∧ (nodePump s).fc = s.fc ∧ (nodePump s).sc = s.sc ∧
    (nodePump s).su = s.su ∧ (nodePump s).flash = s.flash ∧ (nodePump s).ie = s.ie ∧ (nodePump s).ac = s.ac ∧
    (nodePump s).ml = s.ml ∧ (nodePump s).sl = s.sl ∧ (nodePump s).pins = s.pins ∧ (nodePump s).now = s.now ∧
    (nodePump s).free = s.free ∧ (nodePump s).pending = s.pending := by
  unfold nodePump; (repeat' split) <;> simp


@[simp] theorem raiseClamps_frame (items : List (Nat × Nat)) (s : State) :
    (raiseClamps items s).bu = s.bu ∧ (raiseClamps items s).rc = s.rc ∧ (raiseClamps items s).fc = s.fc ∧
    (raiseClamps items s).sc = s.sc ∧ (raiseClamps items s).es = s.es ∧ (raiseClamps items s).su = s.su ∧
    (raiseClamps items s).flash = s.flash ∧ (raiseClamps items s).ie = s.ie ∧ (raiseClamps items s).ac = s.ac ∧
    (raiseClamps items s).sl = s.sl ∧ (raiseClamps items s).pins = s.pins ∧ (raiseClamps items s).now = s.now ∧
    (raiseClamps items s).free = s.free ∧ (raiseClamps items s).pending = s.pending := by
  have key := foldl_keeps (fun x : State => (x.bu, x.rc, x.fc, x.sc, x.es, x.su, x.flash, x.ie, x.ac, x.sl, x.pins, x.now, x.free, x.pending)) (fun t e => raise e t)
    (fun a b => by simp) (items.filterMap clampEvent) s
  simp only [Prod.mk.injEq] at key
  unfold raiseClamps
  exact key



@[simp] theorem loading_frame (s : State) :
    (loading s).bu = s.bu ∧ (loading s).rc = s.rc ∧ (loading s).fc = s.fc ∧ (loading s).sc = s.sc ∧
    (loading s).es = s.es ∧ (loading s).su = s.su ∧ (loading s).flash = s.flash ∧ (loading s).ie = s.ie ∧
    (loading s).ac = s.ac ∧ (loading s).pins = s.pins ∧ (loading s).now = s.now ∧ (loading s).free = s.free ∧
    (loading s).pending = s.pending := by
  unfold loading; split <;> simp


@[simp] theorem cutFlash_frame (s : State) :
    (cutFlash s).bu = s.bu ∧ (cutFlash s).rc = s.rc ∧ (cutFlash s).fc = s.fc ∧ (cutFlash s).sc = s.sc ∧
    (cutFlash s).es = s.es ∧ (cutFlash s).su = s.su ∧ (cutFlash s).ie = s.ie ∧ (cutFlash s).ac = s.ac ∧
    (cutFlash s).ml = s.ml ∧ (cutFlash s).sl = s.sl ∧ (cutFlash s).pins = s.pins ∧ (cutFlash s).now = s.now ∧
    (cutFlash s).pending = s.pending := by
  unfold cutFlash; split <;> simp


@[simp] theorem resetNow_frame (c : ResetCause) (s : State) :
    (resetNow c s).pins = s.pins ∧ (resetNow c s).now = s.now ∧ (resetNow c s).pending = s.pending := by
  simp [resetNow, fullReset]



@[simp] theorem enterRunning_frame (s : State) :
    (enterRunning s).es = s.es ∧ (enterRunning s).su = s.su ∧ (enterRunning s).flash = s.flash ∧
    (enterRunning s).ie = s.ie ∧ (enterRunning s).pins = s.pins ∧ (enterRunning s).now = s.now ∧
    (enterRunning s).free = s.free ∧ (enterRunning s).pending = s.pending ∧
    (enterRunning s).bu.peers = s.bu.peers ∧ (enterRunning s).rc.clients = s.rc.clients := by
  simp [enterRunning]


@[simp] theorem enterIsolated_frame (s : State) :
    (enterIsolated s).su = s.su ∧ (enterIsolated s).flash = s.flash ∧ (enterIsolated s).pins = s.pins ∧
    (enterIsolated s).now = s.now ∧ (enterIsolated s).free = s.free ∧ (enterIsolated s).pending = s.pending := by
  simp [enterIsolated]


@[simp] theorem finishStart_frame (s : State) :
    (finishStart s).es = s.es ∧ (finishStart s).su = s.su ∧ (finishStart s).flash = s.flash ∧
    (finishStart s).pins = s.pins ∧ (finishStart s).now = s.now ∧ (finishStart s).free = s.free ∧
    (finishStart s).pending = s.pending ∧ (finishStart s).bu.peers = s.bu.peers ∧
    (finishStart s).rc.clients = s.rc.clients := by
  unfold finishStart; dsimp only; (repeat' split) <;> simp


@[simp] theorem applyParams_frame (p : Params) (l : Sl) (s : State) :
    (applyParams p l s).bu = s.bu ∧ (applyParams p l s).sc = s.sc ∧ (applyParams p l s).su = s.su ∧
    (applyParams p l s).flash = s.flash ∧ (applyParams p l s).ie = s.ie ∧ (applyParams p l s).ac = s.ac ∧
    (applyParams p l s).ml = s.ml ∧ (applyParams p l s).pins = s.pins ∧ (applyParams p l s).now = s.now ∧
    (applyParams p l s).free = s.free ∧ (applyParams p l s).pending = s.pending ∧
    (applyParams p l s).sl = l := by
  unfold applyParams; (repeat' split) <;> simp


@[simp] theorem restartParams_frame (p : Params) (s : State) :
    (restartParams p s).bu = s.bu ∧ (restartParams p s).sc = s.sc ∧ (restartParams p s).su = s.su ∧
    (restartParams p s).flash = s.flash ∧ (restartParams p s).ie = s.ie ∧ (restartParams p s).ac = s.ac ∧
    (restartParams p s).ml = s.ml ∧ (restartParams p s).pins = s.pins ∧ (restartParams p s).now = s.now ∧
    (restartParams p s).free = s.free ∧ (restartParams p s).pending = s.pending ∧
    (restartParams p s).sl = replaceParams p s.sl := by
  simp [restartParams]


@[simp] theorem reloadPart_frame (p : Option Params) (s : State) :
    (reloadPart p s).su = s.su ∧ (reloadPart p s).flash = s.flash ∧ (reloadPart p s).pins = s.pins ∧
    (reloadPart p s).now = s.now ∧ (reloadPart p s).free = s.free ∧ (reloadPart p s).pending = s.pending := by
  unfold reloadPart; (repeat' split) <;> simp


@[simp] theorem reload_frame (s : State) :
    (reload s).1.su = s.su ∧ (reload s).1.flash = s.flash ∧ (reload s).1.pins = s.pins ∧ (reload s).1.now = s.now ∧
    (reload s).1.free = s.free ∧ (reload s).1.pending = s.pending := by
  unfold reload; split <;> simp


@[simp] theorem nodeClash_frame (n : Nat) (a : Addr) (s : State) :
    (nodeClash n a s).rc = s.rc ∧ (nodeClash n a s).fc = s.fc ∧ (nodeClash n a s).sc = s.sc ∧
    (nodeClash n a s).es = s.es ∧ (nodeClash n a s).su = s.su ∧ (nodeClash n a s).flash = s.flash ∧
    (nodeClash n a s).ie = s.ie ∧ (nodeClash n a s).ac = s.ac ∧ (nodeClash n a s).sl = s.sl ∧
    (nodeClash n a s).pins = s.pins ∧ (nodeClash n a s).now = s.now ∧ (nodeClash n a s).free = s.free ∧
    (nodeClash n a s).pending = s.pending ∧ (nodeClash n a s).bu.peers = s.bu.peers := by
  unfold nodeClash; split <;> simp


@[simp] theorem setLastSeq_frame (n : Nat) (p : Peer) (q : BitVec 16) (s : State) :
    (setLastSeq n p q s).rc = s.rc ∧ (setLastSeq n p q s).fc = s.fc ∧ (setLastSeq n p q s).sc = s.sc ∧
    (setLastSeq n p q s).es = s.es ∧ (setLastSeq n p q s).su = s.su ∧ (setLastSeq n p q s).flash = s.flash ∧
    (setLastSeq n p q s).ie = s.ie ∧ (setLastSeq n p q s).ac = s.ac ∧ (setLastSeq n p q s).ml = s.ml ∧
    (setLastSeq n p q s).sl = s.sl ∧ (setLastSeq n p q s).pins = s.pins ∧ (setLastSeq n p q s).now = s.now ∧
    (setLastSeq n p q s).free = s.free ∧ (setLastSeq n p q s).pending = s.pending := by
  simp [setLastSeq]


@[simp] theorem periodTest_frame (n : Nat) (b : PulseBody) (s : State) :
    (periodTest n b s).rc = s.rc ∧ (periodTest n b s).fc = s.fc ∧ (periodTest n b s).sc = s.sc ∧
    (periodTest n b s).es = s.es ∧ (periodTest n b s).su = s.su ∧ (periodTest n b s).flash = s.flash ∧
    (periodTest n b s).ie = s.ie ∧ (periodTest n b s).ac = s.ac ∧ (periodTest n b s).sl = s.sl ∧
    (periodTest n b s).pins = s.pins ∧ (periodTest n b s).now = s.now ∧ (periodTest n b s).free = s.free ∧
    (periodTest n b s).pending = s.pending := by
  unfold periodTest; dsimp only; (repeat' split) <;> simp


@[simp] theorem skewTest_frame (n : Nat) (b : PulseBody) (s : State) :
    (skewTest n b s).rc = s.rc ∧ (skewTest n b s).fc = s.fc ∧ (skewTest n b s).sc = s.sc ∧
    (skewTest n b s).es = s.es ∧ (skewTest n b s).su = s.su ∧ (skewTest n b s).flash = s.flash ∧
    (skewTest n b s).ie = s.ie ∧ (skewTest n b s).ac = s.ac ∧ (skewTest n b s).sl = s.sl ∧
    (skewTest n b s).pins = s.pins ∧ (skewTest n b s).now = s.now ∧ (skewTest n b s).free = s.free ∧
    (skewTest n b s).pending = s.pending := by
  unfold skewTest; dsimp only; (repeat' split) <;> simp


@[simp] theorem timeTest_frame (n : Nat) (b : PulseBody) (s : State) :
    (timeTest n b s).sc = s.sc ∧ (timeTest n b s).es = s.es ∧ (timeTest n b s).flash = s.flash ∧
    (timeTest n b s).ie = s.ie ∧ (timeTest n b s).ac = s.ac ∧ (timeTest n b s).sl = s.sl ∧
    (timeTest n b s).pins = s.pins ∧ (timeTest n b s).now = s.now ∧ (timeTest n b s).free = s.free ∧
    (timeTest n b s).pending = s.pending := by
  unfold timeTest; (repeat' split) <;> simp


@[simp] theorem acceptPulse_frame (n : Nat) (f : MeshFrame) (b : PulseBody) (o : Option Peer) (s : State) :
    (acceptPulse n f b o s).sc = s.sc ∧ (acceptPulse n f b o s).es = s.es ∧
    (acceptPulse n f b o s).flash = s.flash ∧ (acceptPulse n f b o s).ac = s.ac ∧
    (acceptPulse n f b o s).sl = s.sl ∧ (acceptPulse n f b o s).pins = s.pins ∧
    (acceptPulse n f b o s).now = s.now ∧ (acceptPulse n f b o s).free = s.free ∧
    (acceptPulse n f b o s).pending = s.pending := by
  unfold acceptPulse; (repeat' split) <;> simp


end Sys2Proof.Machine
end

