-- ==== Sys2Proof/Laws/FramesCommands.lean ====
section
/-! SUPPORT. Frames: which top-level fields of State each operation of the commands' own work leaves as they were. -/

namespace Sys2Proof.Machine

@[simp] theorem pulseFollow_frame (n : Nat) (b : PulseBody) (s : State) :
    (pulseFollow n b s).su = s.su ∧ (pulseFollow n b s).flash = s.flash ∧ (pulseFollow n b s).sl = s.sl ∧
    (pulseFollow n b s).pins = s.pins ∧ (pulseFollow n b s).now = s.now ∧ (pulseFollow n b s).free = s.free ∧
    (pulseFollow n b s).pending = s.pending := by
  simp [pulseFollow]


@[simp] theorem learn_frame (n : Nat) (e : Listing) (s : State) :
    (learn n e s).bu = s.bu ∧ (learn n e s).sc = s.sc ∧ (learn n e s).es = s.es ∧ (learn n e s).su = s.su ∧
    (learn n e s).flash = s.flash ∧ (learn n e s).ie = s.ie ∧ (learn n e s).ac = s.ac ∧ (learn n e s).ml = s.ml ∧
    (learn n e s).sl = s.sl ∧ (learn n e s).pins = s.pins ∧ (learn n e s).now = s.now ∧
    (learn n e s).free = s.free ∧ (learn n e s).pending = s.pending := by
  unfold learn; split
  · rename_i i t h
    obtain rfl | rfl := makeRoom_frame h <;> simp
  · simp



@[simp] theorem doubleServe_frame (i : Nat) (c : Client) (n : Nat) (t : BitVec 16) (s : State) :
    (doubleServe i c n t s).fc = s.fc ∧ (doubleServe i c n t s).sc = s.sc ∧ (doubleServe i c n t s).es = s.es ∧
    (doubleServe i c n t s).su = s.su ∧ (doubleServe i c n t s).flash = s.flash ∧
    (doubleServe i c n t s).ie = s.ie ∧ (doubleServe i c n t s).ac = s.ac ∧ (doubleServe i c n t s).sl = s.sl ∧
    (doubleServe i c n t s).pins = s.pins ∧ (doubleServe i c n t s).now = s.now ∧
    (doubleServe i c n t s).free = s.free ∧ (doubleServe i c n t s).pending = s.pending ∧
    (doubleServe i c n t s).bu.peers = s.bu.peers := by
  unfold doubleServe; dsimp only; split <;> simp


@[simp] theorem roleEffect_frame (n : Nat) (e : Listing) (s : State) :
    (roleEffect n e s).sc = s.sc ∧ (roleEffect n e s).es = s.es ∧ (roleEffect n e s).su = s.su ∧
    (roleEffect n e s).flash = s.flash ∧ (roleEffect n e s).ie = s.ie ∧ (roleEffect n e s).ac = s.ac ∧
    (roleEffect n e s).sl = s.sl ∧ (roleEffect n e s).pins = s.pins ∧ (roleEffect n e s).now = s.now ∧
    (roleEffect n e s).free = s.free ∧ (roleEffect n e s).pending = s.pending ∧
    (roleEffect n e s).bu.peers = s.bu.peers := by
  unfold roleEffect; (repeat' split) <;> simp


@[simp] theorem listingReading_frame (n : Nat) (e : Listing) (s : State) :
    (listingReading n e s).fc = s.fc ∧ (listingReading n e s).sc = s.sc ∧ (listingReading n e s).es = s.es ∧
    (listingReading n e s).su = s.su ∧ (listingReading n e s).flash = s.flash ∧ (listingReading n e s).ie = s.ie ∧
    (listingReading n e s).ac = s.ac ∧ (listingReading n e s).ml = s.ml ∧ (listingReading n e s).sl = s.sl ∧
    (listingReading n e s).pins = s.pins ∧ (listingReading n e s).now = s.now ∧
    (listingReading n e s).free = s.free ∧ (listingReading n e s).pending = s.pending ∧
    (listingReading n e s).bu.peers = s.bu.peers := by
  unfold listingReading; split <;> simp


@[simp] theorem takeListing_frame (n : Nat) (s : State) (e : Listing) :
    (takeListing n s e).sc = s.sc ∧ (takeListing n s e).es = s.es ∧ (takeListing n s e).su = s.su ∧
    (takeListing n s e).flash = s.flash ∧ (takeListing n s e).ie = s.ie ∧ (takeListing n s e).sl = s.sl ∧
    (takeListing n s e).pins = s.pins ∧ (takeListing n s e).now = s.now ∧ (takeListing n s e).free = s.free ∧
    (takeListing n s e).pending = s.pending ∧ (takeListing n s e).bu.peers = s.bu.peers := by
  unfold takeListing; (repeat' split) <;> simp


@[simp] theorem takeSighting_frame (n : Nat) (b : Body) (s : State) :
    (takeSighting n b s).su = s.su ∧ (takeSighting n b s).flash = s.flash ∧ (takeSighting n b s).sl = s.sl ∧
    (takeSighting n b s).pins = s.pins ∧ (takeSighting n b s).now = s.now ∧ (takeSighting n b s).free = s.free ∧
    (takeSighting n b s).pending = s.pending := by
  unfold takeSighting; split
  · have key := foldl_keeps (fun x : State => (x.su, x.flash, x.sl, x.pins, x.now, x.free, x.pending)) (takeListing n) (fun a e => by simp) (by assumption) s
    simp only [Prod.mk.injEq] at key
    simp [key]
  · simp



@[simp] theorem dropOffer_frame (i n : Nat) (s : State) :
    (dropOffer i n s).bu = s.bu ∧ (dropOffer i n s).fc = s.fc ∧ (dropOffer i n s).sc = s.sc ∧
    (dropOffer i n s).es = s.es ∧ (dropOffer i n s).su = s.su ∧ (dropOffer i n s).flash = s.flash ∧
    (dropOffer i n s).ie = s.ie ∧ (dropOffer i n s).ac = s.ac ∧ (dropOffer i n s).ml = s.ml ∧
    (dropOffer i n s).sl = s.sl ∧ (dropOffer i n s).pins = s.pins ∧ (dropOffer i n s).now = s.now ∧
    (dropOffer i n s).free = s.free ∧ (dropOffer i n s).pending = s.pending ∧
    (dropOffer i n s).rc.clients = s.rc.clients := by
  simp [dropOffer]


@[simp] theorem grantClaim_frame (i : Nat) (c : Client) (n : Nat) (number : BitVec 16) (s : State) :
    (grantClaim i c n number s).fc = s.fc ∧ (grantClaim i c n number s).sc = s.sc ∧
    (grantClaim i c n number s).es = s.es ∧ (grantClaim i c n number s).su = s.su ∧
    (grantClaim i c n number s).flash = s.flash ∧ (grantClaim i c n number s).ie = s.ie ∧
    (grantClaim i c n number s).ac = s.ac ∧ (grantClaim i c n number s).sl = s.sl ∧
    (grantClaim i c n number s).pins = s.pins ∧ (grantClaim i c n number s).now = s.now ∧
    (grantClaim i c n number s).free = s.free ∧ (grantClaim i c n number s).pending = s.pending ∧
    (grantClaim i c n number s).bu.peers = s.bu.peers := by
  simp [grantClaim]


@[simp] theorem answerClaim_frame (n : Nat) (a : Addr) (number : BitVec 16) (reading : Int) (s : State) :
    (answerClaim n a number reading s).fc = s.fc ∧ (answerClaim n a number reading s).sc = s.sc ∧
    (answerClaim n a number reading s).es = s.es ∧ (answerClaim n a number reading s).su = s.su ∧
    (answerClaim n a number reading s).flash = s.flash ∧ (answerClaim n a number reading s).ie = s.ie ∧
    (answerClaim n a number reading s).ac = s.ac ∧ (answerClaim n a number reading s).sl = s.sl ∧
    (answerClaim n a number reading s).pins = s.pins ∧ (answerClaim n a number reading s).now = s.now ∧
    (answerClaim n a number reading s).free = s.free ∧ (answerClaim n a number reading s).pending = s.pending ∧
    (answerClaim n a number reading s).bu.peers = s.bu.peers := by
  unfold answerClaim; (repeat' split) <;> simp


@[simp] theorem takeClaim_frame (n : Nat) (b : Body) (s : State) :
    (takeClaim n b s).su = s.su ∧ (takeClaim n b s).flash = s.flash ∧ (takeClaim n b s).sl = s.sl ∧
    (takeClaim n b s).pins = s.pins ∧ (takeClaim n b s).now = s.now ∧ (takeClaim n b s).free = s.free ∧
    (takeClaim n b s).pending = s.pending := by
  unfold takeClaim; split <;> simp


@[simp] theorem takeGrant_frame (n : Nat) (b : Body) (s : State) :
    (takeGrant n b s).su = s.su ∧ (takeGrant n b s).flash = s.flash ∧ (takeGrant n b s).sl = s.sl ∧
    (takeGrant n b s).pins = s.pins ∧ (takeGrant n b s).now = s.now ∧ (takeGrant n b s).free = s.free ∧
    (takeGrant n b s).pending = s.pending := by
  unfold takeGrant; (repeat' split) <;> simp


@[simp] theorem takeRefuse_frame (n : Nat) (b : Body) (s : State) :
    (takeRefuse n b s).bu = s.bu ∧ (takeRefuse n b s).fc = s.fc ∧ (takeRefuse n b s).sc = s.sc ∧
    (takeRefuse n b s).es = s.es ∧ (takeRefuse n b s).su = s.su ∧ (takeRefuse n b s).flash = s.flash ∧
    (takeRefuse n b s).ie = s.ie ∧ (takeRefuse n b s).ac = s.ac ∧ (takeRefuse n b s).ml = s.ml ∧
    (takeRefuse n b s).sl = s.sl ∧ (takeRefuse n b s).pins = s.pins ∧ (takeRefuse n b s).now = s.now ∧
    (takeRefuse n b s).free = s.free ∧ (takeRefuse n b s).pending = s.pending := by
  unfold takeRefuse; (repeat' split) <;> simp


@[simp] theorem takeWithdraw_frame (n : Nat) (b : Body) (s : State) :
    (takeWithdraw n b s).su = s.su ∧ (takeWithdraw n b s).flash = s.flash ∧ (takeWithdraw n b s).sl = s.sl ∧
    (takeWithdraw n b s).pins = s.pins ∧ (takeWithdraw n b s).now = s.now ∧ (takeWithdraw n b s).free = s.free ∧
    (takeWithdraw n b s).pending = s.pending := by
  unfold takeWithdraw; (repeat' split) <;> simp


@[simp] theorem arrivedEntry_frame (i : Nat) (c : Client) (n : Nat) (t : BitVec 16) (s : State) :
    (arrivedEntry i c n t s).fc = s.fc ∧ (arrivedEntry i c n t s).sc = s.sc ∧ (arrivedEntry i c n t s).es = s.es ∧
    (arrivedEntry i c n t s).su = s.su ∧ (arrivedEntry i c n t s).flash = s.flash ∧
    (arrivedEntry i c n t s).ie = s.ie ∧ (arrivedEntry i c n t s).ac = s.ac ∧ (arrivedEntry i c n t s).sl = s.sl ∧
    (arrivedEntry i c n t s).pins = s.pins ∧ (arrivedEntry i c n t s).now = s.now ∧
    (arrivedEntry i c n t s).free = s.free ∧ (arrivedEntry i c n t s).pending = s.pending ∧
    (arrivedEntry i c n t s).bu.peers = s.bu.peers := by
  unfold arrivedEntry; split <;> simp


@[simp] theorem takeArrived_frame (n : Nat) (b : Body) (s : State) :
    (takeArrived n b s).su = s.su ∧ (takeArrived n b s).flash = s.flash ∧ (takeArrived n b s).sl = s.sl ∧
    (takeArrived n b s).pins = s.pins ∧ (takeArrived n b s).now = s.now ∧ (takeArrived n b s).free = s.free ∧
    (takeArrived n b s).pending = s.pending := by
  unfold takeArrived; (repeat' split) <;> simp


@[simp] theorem takeContext_frame (_n : Nat) (b : Body) (s : State) :
    (takeContext _n b s).bu = s.bu ∧ (takeContext _n b s).sc = s.sc ∧ (takeContext _n b s).es = s.es ∧
    (takeContext _n b s).su = s.su ∧ (takeContext _n b s).flash = s.flash ∧ (takeContext _n b s).ie = s.ie ∧
    (takeContext _n b s).ac = s.ac ∧ (takeContext _n b s).sl = s.sl ∧ (takeContext _n b s).pins = s.pins ∧
    (takeContext _n b s).now = s.now ∧ (takeContext _n b s).free = s.free ∧ (takeContext _n b s).pending = s.pending := by
  unfold takeContext; (repeat' split) <;> simp


@[simp] theorem takeOffer_frame (n : Nat) (b : Body) (s : State) :
    (takeOffer n b s).su = s.su ∧ (takeOffer n b s).flash = s.flash ∧ (takeOffer n b s).sl = s.sl ∧
    (takeOffer n b s).pins = s.pins ∧ (takeOffer n b s).now = s.now ∧ (takeOffer n b s).free = s.free ∧
    (takeOffer n b s).pending = s.pending := by
  unfold takeOffer; (repeat' split) <;> simp


@[simp] theorem takeFetch_frame (n : Nat) (b : Body) (s : State) :
    (takeFetch n b s).bu = s.bu ∧ (takeFetch n b s).rc = s.rc ∧ (takeFetch n b s).fc = s.fc ∧
    (takeFetch n b s).sc = s.sc ∧ (takeFetch n b s).es = s.es ∧ (takeFetch n b s).su = s.su ∧
    (takeFetch n b s).flash = s.flash ∧ (takeFetch n b s).ac = s.ac ∧ (takeFetch n b s).ml = s.ml ∧
    (takeFetch n b s).sl = s.sl ∧ (takeFetch n b s).pins = s.pins ∧ (takeFetch n b s).now = s.now ∧
    (takeFetch n b s).free = s.free ∧ (takeFetch n b s).pending = s.pending := by
  unfold takeFetch; (repeat' split) <;> simp


@[simp] theorem takeChunk_frame (n : Nat) (b : Body) (s : State) :
    (takeChunk n b s).su = s.su ∧ (takeChunk n b s).flash = s.flash ∧ (takeChunk n b s).sl = s.sl ∧
    (takeChunk n b s).pins = s.pins ∧ (takeChunk n b s).now = s.now ∧ (takeChunk n b s).free = s.free ∧
    (takeChunk n b s).pending = s.pending := by
  unfold takeChunk; dsimp only; (repeat' split) <;> simp


@[simp] theorem uplinkDelivery_frame (c : Class) (frame : List Byte) (s : State) :
    (uplinkDelivery c frame s).bu = s.bu ∧ (uplinkDelivery c frame s).rc = s.rc ∧
    (uplinkDelivery c frame s).sc = s.sc ∧ (uplinkDelivery c frame s).su = s.su ∧
    (uplinkDelivery c frame s).flash = s.flash ∧ (uplinkDelivery c frame s).ie = s.ie ∧
    (uplinkDelivery c frame s).ac = s.ac ∧ (uplinkDelivery c frame s).ml = s.ml ∧
    (uplinkDelivery c frame s).sl = s.sl ∧ (uplinkDelivery c frame s).pins = s.pins ∧
    (uplinkDelivery c frame s).now = s.now ∧ (uplinkDelivery c frame s).free = s.free ∧
    (uplinkDelivery c frame s).pending = s.pending := by
  unfold uplinkDelivery; split <;> simp


@[simp] theorem takeCarried_frame (f : CarriedFrame) (c : Class) (frame : List Byte) (s : State) :
    (takeCarried f c frame s).su = s.su ∧ (takeCarried f c frame s).flash = s.flash ∧
    (takeCarried f c frame s).sl = s.sl ∧ (takeCarried f c frame s).pins = s.pins ∧
    (takeCarried f c frame s).now = s.now ∧ (takeCarried f c frame s).free = s.free ∧
    (takeCarried f c frame s).pending = s.pending := by
  unfold takeCarried; dsimp only; (repeat' split) <;> simp


@[simp] theorem itemSample_frame (it : NodeItem) (s : State) :
    (itemSample it s).bu = s.bu ∧ (itemSample it s).fc = s.fc ∧ (itemSample it s).sc = s.sc ∧
    (itemSample it s).es = s.es ∧ (itemSample it s).su = s.su ∧ (itemSample it s).flash = s.flash ∧
    (itemSample it s).ie = s.ie ∧ (itemSample it s).ac = s.ac ∧ (itemSample it s).ml = s.ml ∧
    (itemSample it s).sl = s.sl ∧ (itemSample it s).pins = s.pins ∧ (itemSample it s).now = s.now ∧
    (itemSample it s).free = s.free ∧ (itemSample it s).pending = s.pending := by
  unfold itemSample; split <;> simp


@[simp] theorem touchSubject_frame (a : Addr) (s : State) :
    (touchSubject a s).bu = s.bu ∧ (touchSubject a s).fc = s.fc ∧ (touchSubject a s).sc = s.sc ∧
    (touchSubject a s).es = s.es ∧ (touchSubject a s).su = s.su ∧ (touchSubject a s).flash = s.flash ∧
    (touchSubject a s).ie = s.ie ∧ (touchSubject a s).ac = s.ac ∧ (touchSubject a s).ml = s.ml ∧
    (touchSubject a s).sl = s.sl ∧ (touchSubject a s).pins = s.pins ∧ (touchSubject a s).now = s.now ∧
    (touchSubject a s).free = s.free ∧ (touchSubject a s).pending = s.pending := by
  unfold touchSubject; split <;> simp


@[simp] theorem forward_frame (it : NodeItem) (cls : Class) (flow : Option Nat) (s : State) :
    (forward it cls flow s).su = s.su ∧ (forward it cls flow s).flash = s.flash ∧
    (forward it cls flow s).sl = s.sl ∧ (forward it cls flow s).pins = s.pins ∧
    (forward it cls flow s).now = s.now ∧ (forward it cls flow s).free = s.free ∧
    (forward it cls flow s).pending = s.pending := by
  unfold forward; dsimp only; (repeat' split) <;> simp


@[simp] theorem takeItem_frame (it : NodeItem) (s : State) :
    (takeItem it s).su = s.su ∧ (takeItem it s).flash = s.flash ∧ (takeItem it s).sl = s.sl ∧
    (takeItem it s).pins = s.pins ∧ (takeItem it s).now = s.now ∧ (takeItem it s).free = s.free ∧
    (takeItem it s).pending = s.pending := by
  unfold takeItem; dsimp only; (repeat' split) <;> simp


@[simp] theorem supplyFailed_frame (s : State) :
    (supplyFailed s).su = s.su ∧ (supplyFailed s).flash = s.flash ∧ (supplyFailed s).sl = s.sl ∧
    (supplyFailed s).pins = s.pins ∧ (supplyFailed s).now = s.now ∧ (supplyFailed s).free = s.free ∧
    (supplyFailed s).pending = s.pending := by
  unfold supplyFailed; dsimp only; (repeat' split) <;> simp


@[simp] theorem supplyEdge_frame (level : Bool) (e : Event) (s : State) :
    (supplyEdge level e s).bu = s.bu ∧ (supplyEdge level e s).rc = s.rc ∧ (supplyEdge level e s).fc = s.fc ∧
    (supplyEdge level e s).sc = s.sc ∧ (supplyEdge level e s).es = s.es ∧ (supplyEdge level e s).su = s.su ∧
    (supplyEdge level e s).flash = s.flash ∧ (supplyEdge level e s).ie = s.ie ∧
    (supplyEdge level e s).ac = s.ac ∧ (supplyEdge level e s).sl = s.sl ∧ (supplyEdge level e s).now = s.now ∧
    (supplyEdge level e s).free = s.free ∧ (supplyEdge level e s).pending = s.pending ∧
    (supplyEdge level e s).pins = { s.pins with supplyFail := level } := by
  unfold supplyEdge; dsimp only; split <;> simp


@[simp] theorem markPeriod_frame (n : Nat) (s : State) :
    (markPeriod n s).rc = s.rc ∧ (markPeriod n s).fc = s.fc ∧ (markPeriod n s).sc = s.sc ∧
    (markPeriod n s).es = s.es ∧ (markPeriod n s).su = s.su ∧ (markPeriod n s).flash = s.flash ∧
    (markPeriod n s).ie = s.ie ∧ (markPeriod n s).ac = s.ac ∧ (markPeriod n s).sl = s.sl ∧
    (markPeriod n s).pins = s.pins ∧ (markPeriod n s).now = s.now ∧ (markPeriod n s).free = s.free ∧
    (markPeriod n s).pending = s.pending ∧ (markPeriod n s).bu.control = s.bu.control ∧
    (markPeriod n s).bu.seq = s.bu.seq := by
  unfold markPeriod; (repeat' split) <;> simp [setPeers]


@[simp] theorem adoptPulsePeriod_frame (s : State) :
    (adoptPulsePeriod s).rc = s.rc ∧ (adoptPulsePeriod s).fc = s.fc ∧ (adoptPulsePeriod s).sc = s.sc ∧
    (adoptPulsePeriod s).es = s.es ∧ (adoptPulsePeriod s).su = s.su ∧ (adoptPulsePeriod s).flash = s.flash ∧
    (adoptPulsePeriod s).ie = s.ie ∧ (adoptPulsePeriod s).ac = s.ac ∧ (adoptPulsePeriod s).pins = s.pins ∧
    (adoptPulsePeriod s).now = s.now ∧ (adoptPulsePeriod s).free = s.free ∧
    (adoptPulsePeriod s).pending = s.pending ∧ (adoptPulsePeriod s).bu.control = s.bu.control ∧
    (adoptPulsePeriod s).bu.seq = s.bu.seq := by
  have key := fun u : State => foldl_keeps
    (fun x : State => (x.rc, x.fc, x.sc, x.es, x.su, x.flash, x.ie, x.ac, x.pins, x.now, x.free, x.pending,
      x.bu.control, x.bu.seq)) (fun t n => markPeriod n t) (fun a b => by simp) nodes u
  simp only [Prod.mk.injEq] at key
  unfold adoptPulsePeriod
  split
  · exact key _
  · simp


@[simp] theorem restartPulse_frame (d : Nat) (s : State) :
    (restartPulse d s).rc = s.rc ∧ (restartPulse d s).fc = s.fc ∧ (restartPulse d s).sc = s.sc ∧
    (restartPulse d s).es = s.es ∧ (restartPulse d s).su = s.su ∧ (restartPulse d s).flash = s.flash ∧
    (restartPulse d s).ie = s.ie ∧ (restartPulse d s).ac = s.ac ∧ (restartPulse d s).ml = s.ml ∧
    (restartPulse d s).sl = s.sl ∧ (restartPulse d s).pins = s.pins ∧ (restartPulse d s).now = s.now ∧
    (restartPulse d s).free = s.free ∧ (restartPulse d s).pending = s.pending ∧
    (restartPulse d s).bu.peers = s.bu.peers := by
  simp [restartPulse]


@[simp] theorem restartSight_frame (d : Nat) (s : State) :
    (restartSight d s).rc = s.rc ∧ (restartSight d s).fc = s.fc ∧ (restartSight d s).sc = s.sc ∧
    (restartSight d s).es = s.es ∧ (restartSight d s).su = s.su ∧ (restartSight d s).flash = s.flash ∧
    (restartSight d s).ie = s.ie ∧ (restartSight d s).ac = s.ac ∧ (restartSight d s).ml = s.ml ∧
    (restartSight d s).sl = s.sl ∧ (restartSight d s).pins = s.pins ∧ (restartSight d s).now = s.now ∧
    (restartSight d s).free = s.free ∧ (restartSight d s).pending = s.pending ∧
    (restartSight d s).bu.peers = s.bu.peers := by
  simp [restartSight]


@[simp] theorem adoptSightPeriod_frame (s : State) :
    (adoptSightPeriod s).bu = s.bu ∧ (adoptSightPeriod s).rc = s.rc ∧ (adoptSightPeriod s).fc = s.fc ∧
    (adoptSightPeriod s).sc = s.sc ∧ (adoptSightPeriod s).es = s.es ∧ (adoptSightPeriod s).su = s.su ∧
    (adoptSightPeriod s).flash = s.flash ∧ (adoptSightPeriod s).ie = s.ie ∧ (adoptSightPeriod s).ac = s.ac ∧
    (adoptSightPeriod s).ml = s.ml ∧ (adoptSightPeriod s).pins = s.pins ∧ (adoptSightPeriod s).now = s.now ∧
    (adoptSightPeriod s).free = s.free ∧ (adoptSightPeriod s).pending = s.pending := by
  unfold adoptSightPeriod; split <;> simp


@[simp] theorem timedPulse_frame (s : State) :
    (timedPulse s).rc = s.rc ∧ (timedPulse s).fc = s.fc ∧ (timedPulse s).sc = s.sc ∧ (timedPulse s).es = s.es ∧
    (timedPulse s).su = s.su ∧ (timedPulse s).flash = s.flash ∧ (timedPulse s).ie = s.ie ∧
    (timedPulse s).ac = s.ac ∧ (timedPulse s).ml = s.ml ∧ (timedPulse s).sl = s.sl ∧ (timedPulse s).pins = s.pins ∧
    (timedPulse s).now = s.now ∧ (timedPulse s).free = s.free ∧ (timedPulse s).pending = s.pending ∧
    (timedPulse s).bu.peers = s.bu.peers := by
  unfold timedPulse; split <;> simp


@[simp] theorem sendSightings_frame (s : State) :
    (sendSightings s).rc = s.rc ∧ (sendSightings s).fc = s.fc ∧ (sendSightings s).sc = s.sc ∧
    (sendSightings s).es = s.es ∧ (sendSightings s).su = s.su ∧ (sendSightings s).flash = s.flash ∧
    (sendSightings s).ie = s.ie ∧ (sendSightings s).ac = s.ac ∧ (sendSightings s).ml = s.ml ∧
    (sendSightings s).sl = s.sl ∧ (sendSightings s).pins = s.pins ∧ (sendSightings s).now = s.now ∧
    (sendSightings s).free = s.free ∧ (sendSightings s).pending = s.pending ∧
    (sendSightings s).bu.peers = s.bu.peers := by
  have key := foldl_keeps (fun x : State => (x.rc, x.fc, x.sc, x.es, x.su, x.flash, x.ie, x.ac, x.ml, x.sl, x.pins, x.now, x.free, x.pending, x.bu.peers)) (fun t l => sendBulletin 0 (.sighting l) t)
    (fun a b => by simp) (piecesOf 6 (sightingList s)) s
  simp only [Prod.mk.injEq] at key
  unfold sendSightings
  exact key



@[simp] theorem lapseOffer_frame (i : Nat) (s : State) :
    (lapseOffer i s).bu = s.bu ∧ (lapseOffer i s).fc = s.fc ∧ (lapseOffer i s).sc = s.sc ∧
    (lapseOffer i s).es = s.es ∧ (lapseOffer i s).su = s.su ∧ (lapseOffer i s).flash = s.flash ∧
    (lapseOffer i s).ie = s.ie ∧ (lapseOffer i s).ac = s.ac ∧ (lapseOffer i s).ml = s.ml ∧
    (lapseOffer i s).sl = s.sl ∧ (lapseOffer i s).pins = s.pins ∧ (lapseOffer i s).now = s.now ∧
    (lapseOffer i s).free = s.free ∧ (lapseOffer i s).pending = s.pending ∧
    (lapseOffer i s).rc.clients = s.rc.clients := by
  simp [lapseOffer]


@[simp] theorem removeFlow_frame (j : Nat) (f : Flow) (s : State) :
    (removeFlow j f s).bu = s.bu ∧ (removeFlow j f s).sc = s.sc ∧ (removeFlow j f s).es = s.es ∧
    (removeFlow j f s).su = s.su ∧ (removeFlow j f s).flash = s.flash ∧ (removeFlow j f s).ie = s.ie ∧
    (removeFlow j f s).ac = s.ac ∧ (removeFlow j f s).ml = s.ml ∧ (removeFlow j f s).sl = s.sl ∧
    (removeFlow j f s).pins = s.pins ∧ (removeFlow j f s).now = s.now ∧ (removeFlow j f s).free = s.free ∧
    (removeFlow j f s).pending = s.pending := by
  unfold removeFlow; split <;> simp


@[simp] theorem lapseActivation_frame (s : State) :
    (lapseActivation s).bu = s.bu ∧ (lapseActivation s).fc = s.fc ∧ (lapseActivation s).sc = s.sc ∧
    (lapseActivation s).es = s.es ∧ (lapseActivation s).su = s.su ∧ (lapseActivation s).flash = s.flash ∧
    (lapseActivation s).ie = s.ie ∧ (lapseActivation s).sl = s.sl ∧ (lapseActivation s).pins = s.pins ∧
    (lapseActivation s).now = s.now ∧ (lapseActivation s).free = s.free ∧ (lapseActivation s).pending = s.pending ∧
    (lapseActivation s).rc.clients = s.rc.clients := by
  simp [lapseActivation]


@[simp] theorem opDone_frame (s : State) :
    (opDone s).bu = s.bu ∧ (opDone s).rc = s.rc ∧ (opDone s).fc = s.fc ∧ (opDone s).sc = s.sc ∧
    (opDone s).es = s.es ∧ (opDone s).su = s.su ∧ (opDone s).flash = s.flash ∧ (opDone s).ac = s.ac ∧
    (opDone s).ml = s.ml ∧ (opDone s).sl = s.sl ∧ (opDone s).pins = s.pins ∧ (opDone s).now = s.now ∧
    (opDone s).free = s.free ∧ (opDone s).pending = s.pending := by
  simp [opDone]


@[simp] theorem afterOp_frame (s : State) :
    (afterOp s).su = s.su ∧ (afterOp s).flash = s.flash ∧ (afterOp s).sl = s.sl ∧ (afterOp s).pins = s.pins ∧
    (afterOp s).now = s.now ∧ (afterOp s).free = s.free ∧ (afterOp s).pending = s.pending := by
  simp [afterOp]


@[simp] theorem recordFault_frame (f : FaultRec) (s : State) :
    (recordFault f s).bu = s.bu ∧ (recordFault f s).rc = s.rc ∧ (recordFault f s).fc = s.fc ∧
    (recordFault f s).sc = s.sc ∧ (recordFault f s).es = s.es ∧ (recordFault f s).su = s.su ∧
    (recordFault f s).flash = s.flash ∧ (recordFault f s).ac = s.ac ∧ (recordFault f s).sl = s.sl ∧
    (recordFault f s).pins = s.pins ∧ (recordFault f s).now = s.now ∧ (recordFault f s).free = s.free ∧
    (recordFault f s).pending = s.pending := by
  simp [recordFault]


@[simp] theorem secondFault_frame (f : FaultRec) (page : Nat) (s : State) :
    (secondFault f page s).bu = s.bu ∧ (secondFault f page s).rc = s.rc ∧ (secondFault f page s).fc = s.fc ∧
    (secondFault f page s).sc = s.sc ∧ (secondFault f page s).es = s.es ∧ (secondFault f page s).su = s.su ∧
    (secondFault f page s).flash = s.flash ∧ (secondFault f page s).ac = s.ac ∧ (secondFault f page s).sl = s.sl ∧
    (secondFault f page s).pins = s.pins ∧ (secondFault f page s).now = s.now ∧
    (secondFault f page s).free = s.free ∧ (secondFault f page s).pending = s.pending := by
  unfold secondFault; dsimp only; (repeat' split) <;> simp


@[simp] theorem pageFault_frame (f : FaultRec) (page : Nat) (s : State) :
    (pageFault f page s).bu = s.bu ∧ (pageFault f page s).rc = s.rc ∧ (pageFault f page s).fc = s.fc ∧
    (pageFault f page s).sc = s.sc ∧ (pageFault f page s).es = s.es ∧ (pageFault f page s).su = s.su ∧
    (pageFault f page s).flash = s.flash ∧ (pageFault f page s).ac = s.ac ∧ (pageFault f page s).sl = s.sl ∧
    (pageFault f page s).pins = s.pins ∧ (pageFault f page s).now = s.now ∧ (pageFault f page s).free = s.free ∧
    (pageFault f page s).pending = s.pending := by
  unfold pageFault; split <;> simp


@[simp] theorem endProg_frame (p : Prog) (o : Option ChunkState) (s : State) :
    (endProg p o s).bu = s.bu ∧ (endProg p o s).rc = s.rc ∧ (endProg p o s).fc = s.fc ∧ (endProg p o s).sc = s.sc ∧
    (endProg p o s).es = s.es ∧ (endProg p o s).su = s.su ∧ (endProg p o s).flash = s.flash ∧
    (endProg p o s).ac = s.ac ∧ (endProg p o s).ml = s.ml ∧ (endProg p o s).sl = s.sl ∧
    (endProg p o s).pins = s.pins ∧ (endProg p o s).now = s.now ∧ (endProg p o s).free = s.free ∧
    (endProg p o s).pending = s.pending := by
  simp [endProg]


@[simp] theorem startCheck_frame (s : State) :
    (startCheck s).bu = s.bu ∧ (startCheck s).rc = s.rc ∧ (startCheck s).fc = s.fc ∧ (startCheck s).sc = s.sc ∧
    (startCheck s).es = s.es ∧ (startCheck s).su = s.su ∧ (startCheck s).flash = s.flash ∧
    (startCheck s).ac = s.ac ∧ (startCheck s).ml = s.ml ∧ (startCheck s).sl = s.sl ∧ (startCheck s).pins = s.pins ∧
    (startCheck s).now = s.now ∧ (startCheck s).free = s.free ∧ (startCheck s).pending = s.pending := by
  unfold startCheck; split <;> simp


@[simp] theorem bringToEmpty_frame (s : State) :
    (bringToEmpty s).fc = s.fc ∧ (bringToEmpty s).sc = s.sc ∧ (bringToEmpty s).es = s.es ∧
    (bringToEmpty s).su = s.su ∧ (bringToEmpty s).flash = s.flash ∧ (bringToEmpty s).sl = s.sl ∧
    (bringToEmpty s).pins = s.pins ∧ (bringToEmpty s).now = s.now ∧ (bringToEmpty s).free = s.free ∧
    (bringToEmpty s).pending = s.pending ∧ (bringToEmpty s).bu.peers = s.bu.peers ∧
    (bringToEmpty s).rc.clients = s.rc.clients := by
  unfold bringToEmpty; split <;> simp


@[simp] theorem endWait_frame (waited : Bool) (s : State) :
    (endWait waited s).fc = s.fc ∧ (endWait waited s).sc = s.sc ∧ (endWait waited s).es = s.es ∧
    (endWait waited s).su = s.su ∧ (endWait waited s).flash = s.flash ∧ (endWait waited s).sl = s.sl ∧
    (endWait waited s).pins = s.pins ∧ (endWait waited s).now = s.now ∧ (endWait waited s).free = s.free ∧
    (endWait waited s).pending = s.pending ∧ (endWait waited s).bu.peers = s.bu.peers ∧
    (endWait waited s).rc.clients = s.rc.clients := by
  unfold endWait; split <;> simp


@[simp] theorem chunkGood_frame (sl : Slot) (pos : Nat) (p : Prog) (live : Bool) (s : State) :
    (chunkGood sl pos p live s).bu = s.bu ∧ (chunkGood sl pos p live s).rc = s.rc ∧
    (chunkGood sl pos p live s).fc = s.fc ∧ (chunkGood sl pos p live s).sc = s.sc ∧
    (chunkGood sl pos p live s).es = s.es ∧ (chunkGood sl pos p live s).su = s.su ∧
    (chunkGood sl pos p live s).ac = s.ac ∧ (chunkGood sl pos p live s).sl = s.sl ∧
    (chunkGood sl pos p live s).pins = s.pins ∧ (chunkGood sl pos p live s).now = s.now ∧
    (chunkGood sl pos p live s).free = s.free ∧ (chunkGood sl pos p live s).pending = s.pending := by
  unfold chunkGood; (repeat' split) <;> simp


@[simp] theorem chunkBad_frame (sl : Slot) (pos : Nat) (p : Prog) (live : Bool) (s : State) :
    (chunkBad sl pos p live s).bu = s.bu ∧ (chunkBad sl pos p live s).rc = s.rc ∧
    (chunkBad sl pos p live s).fc = s.fc ∧ (chunkBad sl pos p live s).sc = s.sc ∧
    (chunkBad sl pos p live s).es = s.es ∧ (chunkBad sl pos p live s).su = s.su ∧
    (chunkBad sl pos p live s).flash = s.flash ∧ (chunkBad sl pos p live s).ac = s.ac ∧
    (chunkBad sl pos p live s).sl = s.sl ∧ (chunkBad sl pos p live s).pins = s.pins ∧
    (chunkBad sl pos p live s).now = s.now ∧ (chunkBad sl pos p live s).free = s.free ∧
    (chunkBad sl pos p live s).pending = s.pending := by
  unfold chunkBad; (repeat' split) <;> simp


@[simp] theorem markHeader_frame (sl : Slot) (m : Mark) (s : State) :
    (markHeader sl m s).bu = s.bu ∧ (markHeader sl m s).rc = s.rc ∧ (markHeader sl m s).fc = s.fc ∧
    (markHeader sl m s).sc = s.sc ∧ (markHeader sl m s).es = s.es ∧ (markHeader sl m s).su = s.su ∧
    (markHeader sl m s).ie = s.ie ∧ (markHeader sl m s).ac = s.ac ∧ (markHeader sl m s).ml = s.ml ∧
    (markHeader sl m s).sl = s.sl ∧ (markHeader sl m s).pins = s.pins ∧ (markHeader sl m s).now = s.now ∧
    (markHeader sl m s).free = s.free ∧ (markHeader sl m s).pending = s.pending := by
  simp [markHeader]


@[simp] theorem swapDone_frame (s : State) :
    (swapDone s).bu = s.bu ∧ (swapDone s).fc = s.fc ∧ (swapDone s).sc = s.sc ∧ (swapDone s).es = s.es ∧
    (swapDone s).su = s.su ∧ (swapDone s).flash = s.flash ∧ (swapDone s).ie = s.ie ∧ (swapDone s).sl = s.sl ∧
    (swapDone s).pins = s.pins ∧ (swapDone s).now = s.now ∧ (swapDone s).free = s.free ∧
    (swapDone s).pending = s.pending ∧ (swapDone s).rc.clients = s.rc.clients := by
  simp [swapDone]


@[simp] theorem checkPassed_frame (d : Desc) (s : State) :
    (checkPassed d s).bu = s.bu ∧ (checkPassed d s).rc = s.rc ∧ (checkPassed d s).fc = s.fc ∧
    (checkPassed d s).sc = s.sc ∧ (checkPassed d s).es = s.es ∧ (checkPassed d s).su = s.su ∧
    (checkPassed d s).flash = s.flash ∧ (checkPassed d s).ac = s.ac ∧ (checkPassed d s).sl = s.sl ∧
    (checkPassed d s).pins = s.pins ∧ (checkPassed d s).now = s.now ∧ (checkPassed d s).free = s.free ∧
    (checkPassed d s).pending = s.pending := by
  simp [checkPassed]


@[simp] theorem checkFailed_frame (d : Desc) (s : State) :
    (checkFailed d s).bu = s.bu ∧ (checkFailed d s).rc = s.rc ∧ (checkFailed d s).fc = s.fc ∧
    (checkFailed d s).sc = s.sc ∧ (checkFailed d s).es = s.es ∧ (checkFailed d s).su = s.su ∧
    (checkFailed d s).flash = s.flash ∧ (checkFailed d s).ac = s.ac ∧ (checkFailed d s).sl = s.sl ∧
    (checkFailed d s).pins = s.pins ∧ (checkFailed d s).now = s.now ∧ (checkFailed d s).free = s.free ∧
    (checkFailed d s).pending = s.pending := by
  unfold checkFailed; dsimp only; split <;> simp


@[simp] theorem checkRead_frame (d : Desc) (c : Check) (s : State) :
    (checkRead d c s).bu = s.bu ∧ (checkRead d c s).rc = s.rc ∧ (checkRead d c s).fc = s.fc ∧
    (checkRead d c s).sc = s.sc ∧ (checkRead d c s).es = s.es ∧ (checkRead d c s).su = s.su ∧
    (checkRead d c s).flash = s.flash ∧ (checkRead d c s).ac = s.ac ∧ (checkRead d c s).sl = s.sl ∧
    (checkRead d c s).pins = s.pins ∧ (checkRead d c s).now = s.now ∧ (checkRead d c s).free = s.free ∧
    (checkRead d c s).pending = s.pending := by
  unfold checkRead; dsimp only; (repeat' split) <;> simp


@[simp] theorem serveChunk_frame (e : Serve) (rest : List Serve) (s : State) :
    (serveChunk e rest s).bu = s.bu ∧ (serveChunk e rest s).rc = s.rc ∧ (serveChunk e rest s).sc = s.sc ∧
    (serveChunk e rest s).su = s.su ∧ (serveChunk e rest s).flash = s.flash ∧ (serveChunk e rest s).ac = s.ac ∧
    (serveChunk e rest s).ml = s.ml ∧ (serveChunk e rest s).sl = s.sl ∧ (serveChunk e rest s).pins = s.pins ∧
    (serveChunk e rest s).now = s.now ∧ (serveChunk e rest s).free = s.free ∧
    (serveChunk e rest s).pending = s.pending := by
  unfold serveChunk; split <;> simp


@[simp] theorem imageReadOne_frame (r : ImageRead) (s : State) :
    (imageReadOne r s).bu = s.bu ∧ (imageReadOne r s).rc = s.rc ∧ (imageReadOne r s).fc = s.fc ∧
    (imageReadOne r s).sc = s.sc ∧ (imageReadOne r s).es = s.es ∧ (imageReadOne r s).su = s.su ∧
    (imageReadOne r s).flash = s.flash ∧ (imageReadOne r s).ac = s.ac ∧ (imageReadOne r s).sl = s.sl ∧
    (imageReadOne r s).pins = s.pins ∧ (imageReadOne r s).now = s.now ∧ (imageReadOne r s).free = s.free ∧
    (imageReadOne r s).pending = s.pending := by
  unfold imageReadOne; dsimp only; split <;> simp


@[simp] theorem startWritten_frame (bytes readBack : List Byte) (s : State) :
    (startWritten bytes readBack s).su = s.su ∧ (startWritten bytes readBack s).pins = s.pins ∧
    (startWritten bytes readBack s).now = s.now ∧ (startWritten bytes readBack s).free = s.free ∧
    (startWritten bytes readBack s).pending = s.pending := by
  simp [startWritten]


@[simp] theorem shiftOut_frame (n : Nat) (d : List Byte) (s : State) :
    (shiftOut n d s).bu = s.bu ∧ (shiftOut n d s).rc = s.rc ∧ (shiftOut n d s).fc = s.fc ∧
    (shiftOut n d s).sc = s.sc ∧ (shiftOut n d s).es = s.es ∧ (shiftOut n d s).su = s.su ∧
    (shiftOut n d s).flash = s.flash ∧ (shiftOut n d s).ie = s.ie ∧ (shiftOut n d s).ac = s.ac ∧
    (shiftOut n d s).sl = s.sl ∧ (shiftOut n d s).pins = s.pins ∧ (shiftOut n d s).now = s.now ∧
    (shiftOut n d s).free = s.free ∧ (shiftOut n d s).pending = s.pending := by
  simp [shiftOut]


@[simp] theorem takeSubmit_frame (code : Nat) (tag : Byte) (s : State) :
    (takeSubmit code tag s).bu = s.bu ∧ (takeSubmit code tag s).rc = s.rc ∧ (takeSubmit code tag s).fc = s.fc ∧
    (takeSubmit code tag s).sc = s.sc ∧ (takeSubmit code tag s).es = s.es ∧ (takeSubmit code tag s).su = s.su ∧
    (takeSubmit code tag s).flash = s.flash ∧ (takeSubmit code tag s).ie = s.ie ∧
    (takeSubmit code tag s).ac = s.ac ∧ (takeSubmit code tag s).sl = s.sl ∧ (takeSubmit code tag s).pins = s.pins ∧
    (takeSubmit code tag s).now = s.now ∧ (takeSubmit code tag s).free = s.free ∧
    (takeSubmit code tag s).pending = s.pending := by
  simp [takeSubmit]


@[simp] theorem runEventMask_frame (d : List Byte) (s : State) :
    (runEventMask d s).bu = s.bu ∧ (runEventMask d s).rc = s.rc ∧ (runEventMask d s).fc = s.fc ∧
    (runEventMask d s).sc = s.sc ∧ (runEventMask d s).es = s.es ∧ (runEventMask d s).su = s.su ∧
    (runEventMask d s).flash = s.flash ∧ (runEventMask d s).ie = s.ie ∧ (runEventMask d s).ac = s.ac ∧
    (runEventMask d s).sl = s.sl ∧ (runEventMask d s).pins = s.pins ∧ (runEventMask d s).now = s.now ∧
    (runEventMask d s).free = s.free ∧ (runEventMask d s).pending = s.pending := by
  simp [runEventMask]


@[simp] theorem runSetTime_frame (d : List Byte) (s : State) :
    (runSetTime d s).bu = s.bu ∧ (runSetTime d s).sc = s.sc ∧ (runSetTime d s).es = s.es ∧
    (runSetTime d s).flash = s.flash ∧ (runSetTime d s).ie = s.ie ∧ (runSetTime d s).sl = s.sl ∧
    (runSetTime d s).pins = s.pins ∧ (runSetTime d s).now = s.now ∧ (runSetTime d s).free = s.free ∧
    (runSetTime d s).pending = s.pending := by
  unfold runSetTime; dsimp only; split <;> simp


@[simp] theorem attachAt_frame (i : Nat) (o : Option Nat) (c : Client) (s : State) :
    (attachAt i o c s).sc = s.sc ∧ (attachAt i o c s).es = s.es ∧ (attachAt i o c s).su = s.su ∧
    (attachAt i o c s).flash = s.flash ∧ (attachAt i o c s).ie = s.ie ∧ (attachAt i o c s).ac = s.ac ∧
    (attachAt i o c s).sl = s.sl ∧ (attachAt i o c s).pins = s.pins ∧ (attachAt i o c s).now = s.now ∧
    (attachAt i o c s).free = s.free ∧ (attachAt i o c s).pending = s.pending ∧
    (attachAt i o c s).bu.peers = s.bu.peers := by
  simp [attachAt]


@[simp] theorem runClientAttach_frame (d : List Byte) (s : State) :
    (runClientAttach d s).su = s.su ∧ (runClientAttach d s).flash = s.flash ∧ (runClientAttach d s).sl = s.sl ∧
    (runClientAttach d s).pins = s.pins ∧ (runClientAttach d s).now = s.now ∧ (runClientAttach d s).free = s.free ∧
    (runClientAttach d s).pending = s.pending := by
  unfold runClientAttach; dsimp only; (repeat' split) <;> (try simp)
  rename_i i t h
  obtain rfl | rfl := makeRoom_frame h <;> simp



@[simp] theorem runClientDetach_frame (d : List Byte) (s : State) :
    (runClientDetach d s).su = s.su ∧ (runClientDetach d s).flash = s.flash ∧ (runClientDetach d s).sl = s.sl ∧
    (runClientDetach d s).pins = s.pins ∧ (runClientDetach d s).now = s.now ∧ (runClientDetach d s).free = s.free ∧
    (runClientDetach d s).pending = s.pending := by
  unfold runClientDetach; (repeat' split) <;> simp


@[simp] theorem runClientAssign_frame (d : List Byte) (s : State) :
    (runClientAssign d s).bu = s.bu ∧ (runClientAssign d s).sc = s.sc ∧ (runClientAssign d s).es = s.es ∧
    (runClientAssign d s).su = s.su ∧ (runClientAssign d s).flash = s.flash ∧ (runClientAssign d s).ie = s.ie ∧
    (runClientAssign d s).ac = s.ac ∧ (runClientAssign d s).sl = s.sl ∧ (runClientAssign d s).pins = s.pins ∧
    (runClientAssign d s).now = s.now ∧ (runClientAssign d s).free = s.free ∧
    (runClientAssign d s).pending = s.pending := by
  unfold runClientAssign; dsimp only; (repeat' split) <;> simp


@[simp] theorem evalAround_frame (p : Nat) (s : State) :
    (evalAround p s).bu = s.bu ∧ (evalAround p s).sc = s.sc ∧ (evalAround p s).es = s.es ∧
    (evalAround p s).flash = s.flash ∧ (evalAround p s).ie = s.ie ∧ (evalAround p s).ac = s.ac ∧
    (evalAround p s).sl = s.sl ∧ (evalAround p s).pins = s.pins ∧ (evalAround p s).now = s.now ∧
    (evalAround p s).free = s.free ∧ (evalAround p s).pending = s.pending ∧ (evalAround p s).su.clock = s.su.clock := by
  unfold evalAround; split <;> simp


@[simp] theorem runProfileWrite_frame (d : List Byte) (s : State) :
    (runProfileWrite d s).bu = s.bu ∧ (runProfileWrite d s).sc = s.sc ∧ (runProfileWrite d s).es = s.es ∧
    (runProfileWrite d s).flash = s.flash ∧ (runProfileWrite d s).ie = s.ie ∧ (runProfileWrite d s).sl = s.sl ∧
    (runProfileWrite d s).pins = s.pins ∧ (runProfileWrite d s).now = s.now ∧ (runProfileWrite d s).free = s.free ∧
    (runProfileWrite d s).pending = s.pending ∧ (runProfileWrite d s).su.clock = s.su.clock := by
  unfold runProfileWrite; dsimp only; (repeat' split) <;> simp


@[simp] theorem runPaused_frame (paused : Bool) (d : List Byte) (s : State) :
    (runPaused paused d s).bu = s.bu ∧ (runPaused paused d s).sc = s.sc ∧ (runPaused paused d s).es = s.es ∧
    (runPaused paused d s).flash = s.flash ∧ (runPaused paused d s).ie = s.ie ∧ (runPaused paused d s).ac = s.ac ∧
    (runPaused paused d s).sl = s.sl ∧ (runPaused paused d s).pins = s.pins ∧ (runPaused paused d s).now = s.now ∧
    (runPaused paused d s).free = s.free ∧ (runPaused paused d s).pending = s.pending ∧
    (runPaused paused d s).su.clock = s.su.clock := by
  unfold runPaused; dsimp only; split <;> simp


@[simp] theorem runRuleWrite_frame (d : List Byte) (s : State) :
    (runRuleWrite d s).bu = s.bu ∧ (runRuleWrite d s).rc = s.rc ∧ (runRuleWrite d s).sc = s.sc ∧
    (runRuleWrite d s).es = s.es ∧ (runRuleWrite d s).su = s.su ∧ (runRuleWrite d s).flash = s.flash ∧
    (runRuleWrite d s).ie = s.ie ∧ (runRuleWrite d s).ac = s.ac ∧ (runRuleWrite d s).sl = s.sl ∧
    (runRuleWrite d s).pins = s.pins ∧ (runRuleWrite d s).now = s.now ∧ (runRuleWrite d s).free = s.free ∧
    (runRuleWrite d s).pending = s.pending := by
  unfold runRuleWrite; split <;> simp


@[simp] theorem runRuleClear_frame (d : List Byte) (s : State) :
    (runRuleClear d s).bu = s.bu ∧ (runRuleClear d s).rc = s.rc ∧ (runRuleClear d s).sc = s.sc ∧
    (runRuleClear d s).es = s.es ∧ (runRuleClear d s).su = s.su ∧ (runRuleClear d s).flash = s.flash ∧
    (runRuleClear d s).ie = s.ie ∧ (runRuleClear d s).ac = s.ac ∧ (runRuleClear d s).sl = s.sl ∧
    (runRuleClear d s).pins = s.pins ∧ (runRuleClear d s).now = s.now ∧ (runRuleClear d s).free = s.free ∧
    (runRuleClear d s).pending = s.pending := by
  unfold runRuleClear; split <;> simp


@[simp] theorem beginImage_frame (number length check : Nat) (s : State) :
    (beginImage number length check s).fc = s.fc ∧ (beginImage number length check s).sc = s.sc ∧
    (beginImage number length check s).es = s.es ∧ (beginImage number length check s).su = s.su ∧
    (beginImage number length check s).flash = s.flash ∧ (beginImage number length check s).sl = s.sl ∧
    (beginImage number length check s).pins = s.pins ∧ (beginImage number length check s).now = s.now ∧
    (beginImage number length check s).free = s.free ∧ (beginImage number length check s).pending = s.pending ∧
    (beginImage number length check s).bu.peers = s.bu.peers ∧
    (beginImage number length check s).rc.clients = s.rc.clients := by
  simp [beginImage]


@[simp] theorem runImageBegin_frame (d : List Byte) (s : State) :
    (runImageBegin d s).su = s.su ∧ (runImageBegin d s).flash = s.flash ∧ (runImageBegin d s).sl = s.sl ∧
    (runImageBegin d s).pins = s.pins ∧ (runImageBegin d s).now = s.now ∧ (runImageBegin d s).free = s.free ∧
    (runImageBegin d s).pending = s.pending := by
  unfold runImageBegin; dsimp only; (repeat' split) <;> simp

@[simp] theorem runImageChunk_frame (d : List Byte) (s : State) :
    (runImageChunk d s).bu = s.bu ∧ (runImageChunk d s).rc = s.rc ∧ (runImageChunk d s).fc = s.fc ∧
    (runImageChunk d s).sc = s.sc ∧ (runImageChunk d s).es = s.es ∧ (runImageChunk d s).su = s.su ∧
    (runImageChunk d s).flash = s.flash ∧ (runImageChunk d s).ac = s.ac ∧ (runImageChunk d s).sl = s.sl ∧
    (runImageChunk d s).pins = s.pins ∧ (runImageChunk d s).now = s.now ∧ (runImageChunk d s).free = s.free ∧
    (runImageChunk d s).pending = s.pending := by
  unfold runImageChunk; dsimp only; split <;> simp

@[simp] theorem runImageRead_frame (d : List Byte) (s : State) :
    (runImageRead d s).bu = s.bu ∧ (runImageRead d s).rc = s.rc ∧ (runImageRead d s).fc = s.fc ∧
    (runImageRead d s).sc = s.sc ∧ (runImageRead d s).es = s.es ∧ (runImageRead d s).su = s.su ∧
    (runImageRead d s).flash = s.flash ∧ (runImageRead d s).ac = s.ac ∧ (runImageRead d s).sl = s.sl ∧
    (runImageRead d s).pins = s.pins ∧ (runImageRead d s).now = s.now ∧ (runImageRead d s).free = s.free ∧
    (runImageRead d s).pending = s.pending := by
  unfold runImageRead; dsimp only; (repeat' split) <;> simp

@[simp] theorem runActivateNow_frame (_d : List Byte) (s : State) :
    (runActivateNow _d s).bu = s.bu ∧ (runActivateNow _d s).fc = s.fc ∧ (runActivateNow _d s).sc = s.sc ∧
    (runActivateNow _d s).es = s.es ∧ (runActivateNow _d s).su = s.su ∧ (runActivateNow _d s).flash = s.flash ∧
    (runActivateNow _d s).ie = s.ie ∧ (runActivateNow _d s).sl = s.sl ∧ (runActivateNow _d s).pins = s.pins ∧
    (runActivateNow _d s).now = s.now ∧ (runActivateNow _d s).free = s.free ∧
    (runActivateNow _d s).pending = s.pending ∧ (runActivateNow _d s).rc.clients = s.rc.clients := by
  unfold runActivateNow; split <;> simp

@[simp] theorem beginSwap_frame (s : State) :
    (beginSwap s).bu = s.bu ∧ (beginSwap s).fc = s.fc ∧ (beginSwap s).sc = s.sc ∧ (beginSwap s).es = s.es ∧
    (beginSwap s).su = s.su ∧ (beginSwap s).flash = s.flash ∧ (beginSwap s).ml = s.ml ∧ (beginSwap s).sl = s.sl ∧
    (beginSwap s).pins = s.pins ∧ (beginSwap s).now = s.now ∧ (beginSwap s).free = s.free ∧
    (beginSwap s).pending = s.pending ∧ (beginSwap s).rc.clients = s.rc.clients := by
  simp [beginSwap]


@[simp] theorem runSwapSlots_frame (_d : List Byte) (s : State) :
    (runSwapSlots _d s).bu = s.bu ∧ (runSwapSlots _d s).fc = s.fc ∧ (runSwapSlots _d s).sc = s.sc ∧
    (runSwapSlots _d s).es = s.es ∧ (runSwapSlots _d s).su = s.su ∧ (runSwapSlots _d s).flash = s.flash ∧
    (runSwapSlots _d s).sl = s.sl ∧ (runSwapSlots _d s).pins = s.pins ∧ (runSwapSlots _d s).now = s.now ∧
    (runSwapSlots _d s).free = s.free ∧ (runSwapSlots _d s).pending = s.pending ∧
    (runSwapSlots _d s).rc.clients = s.rc.clients := by
  unfold runSwapSlots; (repeat' split) <;> simp

@[simp] theorem cancelled_frame (s : State) :
    (cancelled s).bu = s.bu ∧ (cancelled s).fc = s.fc ∧ (cancelled s).sc = s.sc ∧ (cancelled s).es = s.es ∧
    (cancelled s).su = s.su ∧ (cancelled s).flash = s.flash ∧ (cancelled s).ie = s.ie ∧ (cancelled s).ml = s.ml ∧
    (cancelled s).sl = s.sl ∧ (cancelled s).pins = s.pins ∧ (cancelled s).now = s.now ∧
    (cancelled s).free = s.free ∧ (cancelled s).pending = s.pending ∧ (cancelled s).rc.clients = s.rc.clients := by
  unfold cancelled; split <;> simp

@[simp] theorem runCancelActivation_frame (_d : List Byte) (s : State) :
    (runCancelActivation _d s).bu = s.bu ∧ (runCancelActivation _d s).fc = s.fc ∧
    (runCancelActivation _d s).sc = s.sc ∧ (runCancelActivation _d s).es = s.es ∧
    (runCancelActivation _d s).su = s.su ∧ (runCancelActivation _d s).flash = s.flash ∧
    (runCancelActivation _d s).ie = s.ie ∧ (runCancelActivation _d s).sl = s.sl ∧
    (runCancelActivation _d s).pins = s.pins ∧ (runCancelActivation _d s).now = s.now ∧
    (runCancelActivation _d s).free = s.free ∧ (runCancelActivation _d s).pending = s.pending ∧
    (runCancelActivation _d s).rc.clients = s.rc.clients := by
  unfold runCancelActivation; split <;> simp

@[simp] theorem runStartWrite_frame (d : List Byte) (s : State) :
    (runStartWrite d s).bu = s.bu ∧ (runStartWrite d s).rc = s.rc ∧ (runStartWrite d s).fc = s.fc ∧
    (runStartWrite d s).sc = s.sc ∧ (runStartWrite d s).es = s.es ∧ (runStartWrite d s).su = s.su ∧
    (runStartWrite d s).flash = s.flash ∧ (runStartWrite d s).ac = s.ac ∧ (runStartWrite d s).ml = s.ml ∧
    (runStartWrite d s).sl = s.sl ∧ (runStartWrite d s).pins = s.pins ∧ (runStartWrite d s).now = s.now ∧
    (runStartWrite d s).free = s.free ∧ (runStartWrite d s).pending = s.pending := by
  simp [runStartWrite]


@[simp] theorem runReadPeer_frame (d : List Byte) (s : State) :
    (runReadPeer d s).bu = s.bu ∧ (runReadPeer d s).rc = s.rc ∧ (runReadPeer d s).fc = s.fc ∧
    (runReadPeer d s).sc = s.sc ∧ (runReadPeer d s).es = s.es ∧ (runReadPeer d s).su = s.su ∧
    (runReadPeer d s).flash = s.flash ∧ (runReadPeer d s).ie = s.ie ∧ (runReadPeer d s).ac = s.ac ∧
    (runReadPeer d s).sl = s.sl ∧ (runReadPeer d s).pins = s.pins ∧ (runReadPeer d s).now = s.now ∧
    (runReadPeer d s).free = s.free ∧ (runReadPeer d s).pending = s.pending := by
  unfold runReadPeer; dsimp only; split <;> simp

@[simp] theorem runReadClient_frame (d : List Byte) (s : State) :
    (runReadClient d s).bu = s.bu ∧ (runReadClient d s).rc = s.rc ∧ (runReadClient d s).fc = s.fc ∧
    (runReadClient d s).sc = s.sc ∧ (runReadClient d s).es = s.es ∧ (runReadClient d s).su = s.su ∧
    (runReadClient d s).flash = s.flash ∧ (runReadClient d s).ie = s.ie ∧ (runReadClient d s).ac = s.ac ∧
    (runReadClient d s).sl = s.sl ∧ (runReadClient d s).pins = s.pins ∧ (runReadClient d s).now = s.now ∧
    (runReadClient d s).free = s.free ∧ (runReadClient d s).pending = s.pending := by
  unfold runReadClient; (repeat' split) <;> simp

@[simp] theorem runReadFlow_frame (d : List Byte) (s : State) :
    (runReadFlow d s).bu = s.bu ∧ (runReadFlow d s).rc = s.rc ∧ (runReadFlow d s).fc = s.fc ∧
    (runReadFlow d s).sc = s.sc ∧ (runReadFlow d s).es = s.es ∧ (runReadFlow d s).su = s.su ∧
    (runReadFlow d s).flash = s.flash ∧ (runReadFlow d s).ie = s.ie ∧ (runReadFlow d s).ac = s.ac ∧
    (runReadFlow d s).sl = s.sl ∧ (runReadFlow d s).pins = s.pins ∧ (runReadFlow d s).now = s.now ∧
    (runReadFlow d s).free = s.free ∧ (runReadFlow d s).pending = s.pending := by
  unfold runReadFlow; dsimp only; (repeat' split) <;> simp

@[simp] theorem runReadProfile_frame (d : List Byte) (s : State) :
    (runReadProfile d s).bu = s.bu ∧ (runReadProfile d s).rc = s.rc ∧ (runReadProfile d s).fc = s.fc ∧
    (runReadProfile d s).sc = s.sc ∧ (runReadProfile d s).es = s.es ∧ (runReadProfile d s).su = s.su ∧
    (runReadProfile d s).flash = s.flash ∧ (runReadProfile d s).ie = s.ie ∧ (runReadProfile d s).ac = s.ac ∧
    (runReadProfile d s).sl = s.sl ∧ (runReadProfile d s).pins = s.pins ∧ (runReadProfile d s).now = s.now ∧
    (runReadProfile d s).free = s.free ∧ (runReadProfile d s).pending = s.pending := by
  unfold runReadProfile; split <;> simp

@[simp] theorem voidLink_frame (cut : Option CutLink) (u s : State) :
    (voidLink cut u s).bu = s.bu ∧ (voidLink cut u s).rc = s.rc ∧ (voidLink cut u s).fc = s.fc ∧
    (voidLink cut u s).sc = s.sc ∧ (voidLink cut u s).es = s.es ∧ (voidLink cut u s).su = s.su ∧
    (voidLink cut u s).flash = s.flash ∧ (voidLink cut u s).ie = s.ie ∧ (voidLink cut u s).ac = s.ac ∧
    (voidLink cut u s).sl = s.sl ∧ (voidLink cut u s).pins = s.pins ∧ (voidLink cut u s).now = s.now ∧
    (voidLink cut u s).free = s.free ∧ (voidLink cut u s).pending = s.pending := by
  unfold voidLink; split <;> simp


@[simp] theorem beginStart_frame (s : State) :
    (beginStart s).bu = s.bu ∧ (beginStart s).rc = s.rc ∧ (beginStart s).fc = s.fc ∧ (beginStart s).sc = s.sc ∧
    (beginStart s).es = s.es ∧ (beginStart s).su = s.su ∧ (beginStart s).flash = s.flash ∧
    (beginStart s).ie = s.ie ∧ (beginStart s).ac = s.ac ∧ (beginStart s).pins = s.pins ∧
    (beginStart s).now = s.now ∧ (beginStart s).free = s.free ∧ (beginStart s).pending = s.pending := by
  unfold beginStart; split <;> simp

@[simp] theorem setPower_frame (on : Bool) (s : State) :
    (setPower on s).bu = s.bu ∧ (setPower on s).rc = s.rc ∧ (setPower on s).fc = s.fc ∧ (setPower on s).sc = s.sc ∧
    (setPower on s).es = s.es ∧ (setPower on s).su = s.su ∧ (setPower on s).flash = s.flash ∧
    (setPower on s).ie = s.ie ∧ (setPower on s).ac = s.ac ∧ (setPower on s).ml = s.ml ∧ (setPower on s).sl = s.sl ∧
    (setPower on s).now = s.now ∧ (setPower on s).free = s.free ∧ (setPower on s).pending = s.pending := by
  simp [setPower]


@[simp] theorem setStraps_frame (x : Straps) (s : State) :
    (setStraps x s).bu = s.bu ∧ (setStraps x s).rc = s.rc ∧ (setStraps x s).fc = s.fc ∧ (setStraps x s).sc = s.sc ∧
    (setStraps x s).es = s.es ∧ (setStraps x s).su = s.su ∧ (setStraps x s).flash = s.flash ∧
    (setStraps x s).ie = s.ie ∧ (setStraps x s).ac = s.ac ∧ (setStraps x s).ml = s.ml ∧ (setStraps x s).sl = s.sl ∧
    (setStraps x s).now = s.now ∧ (setStraps x s).free = s.free ∧ (setStraps x s).pending = s.pending := by
  simp [setStraps]


@[simp] theorem setHeld_frame (held : Bool) (s : State) :
    (setHeld held s).bu = s.bu ∧ (setHeld held s).rc = s.rc ∧ (setHeld held s).fc = s.fc ∧
    (setHeld held s).sc = s.sc ∧ (setHeld held s).es = s.es ∧ (setHeld held s).su = s.su ∧
    (setHeld held s).flash = s.flash ∧ (setHeld held s).ie = s.ie ∧ (setHeld held s).ac = s.ac ∧
    (setHeld held s).ml = s.ml ∧ (setHeld held s).sl = s.sl ∧ (setHeld held s).now = s.now ∧
    (setHeld held s).free = s.free ∧ (setHeld held s).pending = s.pending := by
  simp [setHeld]


@[simp] theorem runResetPart_frame (_d : List Byte) (s : State) :
    (runResetPart _d s).pins = s.pins ∧ (runResetPart _d s).now = s.now ∧ (runResetPart _d s).pending = s.pending := by
  simp [runResetPart]


@[simp] theorem resetPeers_frame (s : State) :
    (resetPeers s).su = s.su ∧ (resetPeers s).flash = s.flash ∧ (resetPeers s).sl = s.sl ∧
    (resetPeers s).pins = s.pins ∧ (resetPeers s).now = s.now ∧ (resetPeers s).free = s.free ∧
    (resetPeers s).pending = s.pending := by
  simp [resetPeers]


@[simp] theorem resetClients_frame (s : State) :
    (resetClients s).bu = s.bu ∧ (resetClients s).sc = s.sc ∧ (resetClients s).es = s.es ∧
    (resetClients s).su = s.su ∧ (resetClients s).flash = s.flash ∧ (resetClients s).ie = s.ie ∧
    (resetClients s).sl = s.sl ∧ (resetClients s).pins = s.pins ∧ (resetClients s).now = s.now ∧
    (resetClients s).free = s.free ∧ (resetClients s).pending = s.pending := by
  simp [resetClients]


@[simp] theorem resetFlows_frame (s : State) :
    (resetFlows s).bu = s.bu ∧ (resetFlows s).sc = s.sc ∧ (resetFlows s).es = s.es ∧ (resetFlows s).su = s.su ∧
    (resetFlows s).flash = s.flash ∧ (resetFlows s).ie = s.ie ∧ (resetFlows s).sl = s.sl ∧
    (resetFlows s).pins = s.pins ∧ (resetFlows s).now = s.now ∧ (resetFlows s).free = s.free ∧
    (resetFlows s).pending = s.pending := by
  simp [resetFlows]


@[simp] theorem resetShare_frame (s : State) :
    (resetShare s).bu = s.bu ∧ (resetShare s).rc = s.rc ∧ (resetShare s).fc = s.fc ∧ (resetShare s).su = s.su ∧
    (resetShare s).flash = s.flash ∧ (resetShare s).ie = s.ie ∧ (resetShare s).ac = s.ac ∧
    (resetShare s).sl = s.sl ∧ (resetShare s).pins = s.pins ∧ (resetShare s).now = s.now ∧
    (resetShare s).free = s.free ∧ (resetShare s).pending = s.pending := by
  simp [resetShare]


@[simp] theorem resetSchedules_frame (s : State) :
    (resetSchedules s).bu = s.bu ∧ (resetSchedules s).sc = s.sc ∧ (resetSchedules s).es = s.es ∧
    (resetSchedules s).flash = s.flash ∧ (resetSchedules s).ie = s.ie ∧ (resetSchedules s).sl = s.sl ∧
    (resetSchedules s).pins = s.pins ∧ (resetSchedules s).now = s.now ∧ (resetSchedules s).free = s.free ∧
    (resetSchedules s).pending = s.pending ∧ (resetSchedules s).su.clock = s.su.clock := by
  simp [resetSchedules]


@[simp] theorem resetImage_frame (s : State) :
    (resetImage s).fc = s.fc ∧ (resetImage s).sc = s.sc ∧ (resetImage s).es = s.es ∧ (resetImage s).su = s.su ∧
    (resetImage s).flash = s.flash ∧ (resetImage s).sl = s.sl ∧ (resetImage s).pins = s.pins ∧
    (resetImage s).now = s.now ∧ (resetImage s).free = s.free ∧ (resetImage s).pending = s.pending ∧
    (resetImage s).bu.peers = s.bu.peers ∧ (resetImage s).rc.clients = s.rc.clients := by
  unfold resetImage; dsimp only; (repeat' split) <;> simp

@[simp] theorem resetEvents_frame (s : State) :
    (resetEvents s).bu = s.bu ∧ (resetEvents s).rc = s.rc ∧ (resetEvents s).fc = s.fc ∧ (resetEvents s).sc = s.sc ∧
    (resetEvents s).es = s.es ∧ (resetEvents s).su = s.su ∧ (resetEvents s).flash = s.flash ∧
    (resetEvents s).ie = s.ie ∧ (resetEvents s).ac = s.ac ∧ (resetEvents s).sl = s.sl ∧
    (resetEvents s).pins = s.pins ∧ (resetEvents s).now = s.now ∧ (resetEvents s).free = s.free ∧
    (resetEvents s).pending = s.pending := by
  simp [resetEvents]


@[simp] theorem runBlockReset_frame (d : List Byte) (s : State) :
    (runBlockReset d s).flash = s.flash ∧ (runBlockReset d s).sl = s.sl ∧ (runBlockReset d s).pins = s.pins ∧
    (runBlockReset d s).now = s.now ∧ (runBlockReset d s).free = s.free ∧ (runBlockReset d s).pending = s.pending ∧
    (runBlockReset d s).su.clock = s.su.clock := by
  unfold runBlockReset; split <;> simp

end Sys2Proof.Machine
end

