-- ==== Sys2Proof/Laws/Link.lean ====
section
/-! SUPPORT. What a SUBMIT does, once for every request: void, refused as busy, refused by the first two checks of R172, or
handed to its block; and the transmitter's wake while it waits. -/

namespace Sys2Proof.Machine

variable {code : Nat} {lenOk : List Byte → Bool} {run : List Byte → State → State} {t : Submit} {s : State}

/-- A void SUBMIT changes nothing but what was shifted out (R171). -/
theorem submit_void (h : submitWhole t = false) :
    submit code lenOk run t s = shiftOut (2 + t.length) (echoBytes s) s := by
  simp [submit, h]

/-- A whole SUBMIT that finds a request PENDING sets the refused-busy mark (R172). -/
theorem submit_busy (h : submitWhole t = true) (hp : s.ml.state = .pending) :
    submit code lenOk run t s =
      s.setMl { s.ml with miso := shiftedOut (2 + t.length) (echoBytes s), busy := true } := by
  simp [submit, h, shiftOut, hp, State.setMl]

/-- A whole SUBMIT taken while the part is STARTING completes with NOT_READY (R172). -/
theorem submit_starting (h : submitWhole t = true) (hp : s.ml.state ≠ .pending) (hs : s.sl.part = .starting) :
    submit code lenOk run t s = s.setMl (mlDone code t .notReady [] s) := by
  simp [submit, h, shiftOut, hp, State.setMl, dispatch, takeSubmit, hs, complete, mlDone, mlPending]

/-- A whole SUBMIT of a wrong length completes with BAD_REQUEST (R172). -/
theorem submit_badLength (h : submitWhole t = true) (hp : s.ml.state ≠ .pending) (hs : s.sl.part ≠ .starting)
    (hl : 1040 < submitLen t ∨ lenOk (submitArgs t) = false) :
    submit code lenOk run t s = s.setMl (mlDone code t .badRequest [] s) := by
  simp [submit, h, shiftOut, hp, State.setMl, dispatch, takeSubmit, hs, complete, mlDone, mlPending, hl]

/-- A SUBMIT that passes the first two checks is handed to its block, PENDING (R172). -/
theorem submit_taken (h : requestTaken lenOk t s) :
    submit code lenOk run t s = run (submitArgs t) (s.setMl (mlPending code t s)) := by
  obtain ⟨_, hp, hs, hw, hl, ha⟩ := h
  have hl' : ¬ 1040 < submitLen t := by omega
  simp [submit, hw, shiftOut, hp, State.setMl, dispatch, takeSubmit, hs, mlPending, hl', ha]

/-- The same for the command that brings it. -/
theorem taken_submit (h : requestTaken lenOk t s) :
    taken (submit code lenOk run t) s = .next (run (submitArgs t) (s.setMl (mlPending code t s))) := by
  rw [taken, if_pos h.1, submit_taken h]

/-- A request that completes leaves the ML done with its outcome and result (R172). -/
theorem complete_pending (o : ReqOutcome) (r : List Byte) :
    complete o r (s.setMl (mlPending code t s)) = s.setMl (mlDone code t o r s) := rfl

/-- A transmitter that is BUSY or HELD takes nothing (R106). -/
theorem wake_waits (h : txWaits s = true) : wake s = s := by
  have : backhaulReady s = false := by
    simp only [txWaits, Bool.or_eq_true] at h
    cases h with
    | inl h => simp [backhaulReady, Option.isNone_eq_false_iff.mpr h]
    | inr h => simp [backhaulReady, Option.isNone_eq_false_iff.mpr h]
  simp [wake, this]

/-- Outside DRAINING no offer is made (R62). -/
theorem offerFill_idle (h : acDraining s = false) : offerFill s = s := by simp [offerFill, h]

end Sys2Proof.Machine
end

