-- ==== Sys2Proof/Laws/Table.lean ====
section
/-! SUPPORT. Reading a table after it was written, and its canonical form. -/

namespace Sys2Proof.Machine

variable {α : Type}

@[simp] theorem tabGet_tabSet_self (t : Table α) (i : Nat) (v : α) : tabGet (tabSet t i v) i = some v := by
  induction t with
  | nil => simp [tabSet, tabGet]
  | cons p r ih =>
    obtain ⟨j, w⟩ := p
    simp only [tabSet]
    split
    · simp [tabGet]
    · split
      · simp [tabGet]
      · rename_i h1 h2; simp [tabGet, Ne.symm h2, ih]

theorem tabGet_tabSet_ne (t : Table α) {i k : Nat} (v : α) (h : k ≠ i) : tabGet (tabSet t i v) k = tabGet t k := by
  induction t with
  | nil => simp [tabSet, tabGet, Ne.symm h]
  | cons p r ih =>
    obtain ⟨j, w⟩ := p
    simp only [tabSet]
    split
    · simp [tabGet, Ne.symm h]
    · split
      · subst j; simp [tabGet, Ne.symm h]
      · simp [tabGet, ih]

@[simp] theorem tabGet_tabErase_self (t : Table α) (i : Nat) : tabGet (tabErase t i) i = none := by
  induction t with
  | nil => rfl
  | cons p r ih =>
    obtain ⟨j, w⟩ := p
    by_cases h : j = i
    · subst h; simpa [tabErase] using ih
    · have : tabErase ((j, w) :: r) i = (j, w) :: tabErase r i := by simp [tabErase, h]
      simp [this, tabGet, h, ih]

theorem tabGet_tabErase_ne (t : Table α) {i k : Nat} (h : k ≠ i) : tabGet (tabErase t i) k = tabGet t k := by
  induction t with
  | nil => rfl
  | cons p r ih =>
    obtain ⟨j, w⟩ := p
    by_cases hj : j = i
    · subst hj
      have : tabErase ((j, w) :: r) j = tabErase r j := by simp [tabErase]
      simp [this, tabGet, Ne.symm h, ih]
    · have : tabErase ((j, w) :: r) i = (j, w) :: tabErase r i := by simp [tabErase, hj]
      simp [this, tabGet, ih]

@[simp] theorem tabGet_tabMap (t : Table α) (f : α → α) (k : Nat) : tabGet (tabMap t f) k = (tabGet t k).map f := by
  induction t with
  | nil => rfl
  | cons p r ih =>
    obtain ⟨j, w⟩ := p
    simp only [tabMap, List.map_cons, tabGet] at ih ⊢
    split
    · rfl
    · exact ih

/-- An entry of the table after a write is the one written or an old one. -/
theorem mem_tabSet {t : Table α} {i : Nat} {v : α} {p : Nat × α} (h : p ∈ tabSet t i v) : p = (i, v) ∨ p ∈ t := by
  induction t with
  | nil => simpa [tabSet] using h
  | cons q r ih =>
    obtain ⟨j, w⟩ := q
    simp only [tabSet] at h
    split at h
    · simpa using h
    · split at h
      · rcases List.mem_cons.1 h with h | h
        · exact .inl h
        · exact .inr (List.mem_cons_of_mem _ h)
      · rcases List.mem_cons.1 h with h | h
        · exact .inr (by simp [h])
        · rcases ih h with h | h
          · exact .inl h
          · exact .inr (List.mem_cons_of_mem _ h)

theorem tabSorted_cons {i : Nat} {v : α} {r : Table α} :
    tabSorted ((i, v) :: r) = true ↔ (∀ p ∈ r, i < p.1) ∧ tabSorted r = true := by
  simp [tabSorted]

theorem tabSorted_tabSet {t : Table α} (i : Nat) (v : α) (h : tabSorted t = true) : tabSorted (tabSet t i v) = true := by
  induction t with
  | nil => simp [tabSet, tabSorted]
  | cons q r ih =>
    obtain ⟨j, w⟩ := q
    rw [tabSorted_cons] at h
    simp only [tabSet]
    split
    · rename_i hij
      refine tabSorted_cons.2 ⟨fun p hp => ?_, tabSorted_cons.2 h⟩
      rcases List.mem_cons.1 hp with rfl | hp
      · exact hij
      · exact lt_trans hij (h.1 p hp)
    · split
      · subst j; exact tabSorted_cons.2 h
      · rename_i h1 h2
        refine tabSorted_cons.2 ⟨fun p hp => ?_, ih h.2⟩
        rcases mem_tabSet hp with rfl | hp
        · show j < i; omega
        · exact h.1 p hp

/-- A sublist of a table in canonical form is in canonical form. -/
theorem tabSorted_filter {t : Table α} (f : Nat × α → Bool) (h : tabSorted t = true) : tabSorted (t.filter f) = true := by
  induction t with
  | nil => rfl
  | cons q r ih =>
    obtain ⟨j, w⟩ := q
    rw [tabSorted_cons] at h
    rw [List.filter_cons]
    split
    · exact tabSorted_cons.2 ⟨fun p hp => h.1 p (List.mem_filter.1 hp).1, ih h.2⟩
    · exact ih h.2

theorem tabSorted_tabErase {t : Table α} (i : Nat) (h : tabSorted t = true) : tabSorted (tabErase t i) = true :=
  tabSorted_filter _ h

/-- A table whose entries change and whose indexes do not stays in canonical form. -/
theorem tabSorted_tabMap {t : Table α} (f : α → α) (h : tabSorted t = true) : tabSorted (tabMap t f) = true := by
  induction t with
  | nil => rfl
  | cons q r ih =>
    obtain ⟨j, w⟩ := q
    rw [tabSorted_cons] at h
    refine tabSorted_cons.2 ⟨fun p hp => ?_, ih h.2⟩
    obtain ⟨q, hq, rfl⟩ := List.mem_map.1 hp
    exact h.1 q hq

/-- An entry that is read is listed. -/
theorem mem_of_tabGet {t : Table α} {i : Nat} {v : α} (h : tabGet t i = some v) : (i, v) ∈ t := by
  induction t with
  | nil => cases h
  | cons q r ih =>
    obtain ⟨j, w⟩ := q
    simp only [tabGet] at h
    split at h
    · subst j; obtain rfl := Option.some.inj h; exact List.mem_cons_self
    · exact List.mem_cons_of_mem _ (ih h)

/-- In a table in canonical form every entry listed is the one read at its index. -/
theorem tabGet_of_mem {t : Table α} {p : Nat × α} (h : tabSorted t = true) (hp : p ∈ t) : tabGet t p.1 = some p.2 := by
  induction t with
  | nil => cases hp
  | cons q r ih =>
    obtain ⟨j, w⟩ := q
    rw [tabSorted_cons] at h
    rcases List.mem_cons.1 hp with rfl | hp
    · simp [tabGet]
    · simp [tabGet, (h.1 p hp).ne, ih h.2 hp]

/-- Writing an entry in use changes how many entries meet a condition by that entry alone. -/
theorem countP_tabSet {t : Table α} {i : Nat} {v w : α} (f : Nat × α → Bool) (h : tabSorted t = true)
    (hw : tabGet t i = some w) :
    (tabSet t i v).countP f + (if f (i, w) then 1 else 0) = t.countP f + (if f (i, v) then 1 else 0) := by
  induction t with
  | nil => cases hw
  | cons q r ih =>
    obtain ⟨j, u⟩ := q
    rw [tabSorted_cons] at h
    simp only [tabGet] at hw
    split at hw
    · subst j
      obtain rfl := Option.some.inj hw
      simp only [tabSet, lt_irrefl, if_false, if_true, List.countP_cons]
      omega
    · have hlt : j < i := h.1 _ (mem_of_tabGet hw)
      have := ih h.2 hw
      simp only [tabSet, Nat.not_lt.mpr hlt.le, hlt.ne', if_false, List.countP_cons]
      omega

/-- Writing an entry in use changes no count of entries that neither the old nor the new contents meet. -/
theorem countP_tabSet_of_not {t : Table α} {i : Nat} {v w : α} (f : Nat × α → Bool) (hw : tabGet t i = some w)
    (h1 : f (i, w) = false) (h2 : f (i, v) = false) : (tabSet t i v).countP f = t.countP f := by
  induction t with
  | nil => cases hw
  | cons q r ih =>
    obtain ⟨j, u⟩ := q
    simp only [tabGet] at hw
    simp only [tabSet]
    split at hw
    · subst j; obtain rfl := Option.some.inj hw
      simp [h1, h2]
    · rename_i hj
      split
      · simp [List.countP_cons, h2]
      · rw [if_neg (Ne.symm hj)]; simp [List.countP_cons, ih hw]

end Sys2Proof.Machine
end

