-- ==== Sys2Proof/Laws/Memory.lean ====
section
/-! SUPPORT. The flash's bytes: reading after writing, and the canonical form that every operation on them keeps. -/

namespace Sys2Proof.Machine

@[simp] theorem memRead_memWrite_self (m : List Host.Cell) (a : Nat) (b : Byte) : memRead (memWrite m a b) a = b := by
  simp only [memWrite, memRead]; split <;> simp [*]

theorem memRead_memWrite_ne (m : List Host.Cell) {a k : Nat} (b : Byte) (h : k ≠ a) :
    memRead (memWrite m a b) k = memRead m k := by
  simp only [memWrite, memRead]; split
  · rw [tabGet_tabErase_ne _ h]
  · rw [tabGet_tabSet_ne _ _ h]

/-- Bytes outside the range written read as before. -/
theorem memRead_memWriteAll_out (bytes : List Byte) (m : List Host.Cell) (a k : Nat)
    (h : k < a ∨ a + bytes.length ≤ k) : memRead (memWriteAll m a bytes) k = memRead m k := by
  induction bytes generalizing m a with
  | nil => rfl
  | cons b r ih =>
    simp only [List.length_cons] at h
    rw [memWriteAll, ih _ _ (by omega), memRead_memWrite_ne _ _ (by omega)]

/-- Bytes inside the range written read as written. -/
theorem memRead_memWriteAll_in (bytes : List Byte) (m : List Host.Cell) (a k : Nat) (h : k < bytes.length) :
    memRead (memWriteAll m a bytes) (a + k) = bytes[k] := by
  induction bytes generalizing m a k with
  | nil => simp at h
  | cons b r ih =>
    rw [memWriteAll]
    cases k with
    | zero => rw [memRead_memWriteAll_out _ _ _ _ (by omega)]; simp
    | succ k =>
      have := ih (memWrite m a b) (a + 1) k (by simpa using h)
      simpa [Nat.add_assoc, Nat.add_comm 1 k] using this

theorem memWf_memWrite {m : List Host.Cell} (a : Nat) (b : Byte) (h : memWf m = true) :
    memWf (memWrite m a b) = true := by
  simp only [memWf, Bool.and_eq_true, List.all_eq_true] at h ⊢
  simp only [memWrite]
  split
  · exact ⟨tabSorted_tabErase _ h.1, fun p hp => h.2 p (List.mem_filter.1 hp).1⟩
  · refine ⟨tabSorted_tabSet _ _ h.1, fun p hp => ?_⟩
    rcases mem_tabSet hp with rfl | hp
    · simpa using ‹¬ b = _›
    · exact h.2 p hp

theorem memWf_memWriteAll (bytes : List Byte) {m : List Host.Cell} (a : Nat) (h : memWf m = true) :
    memWf (memWriteAll m a bytes) = true := by
  induction bytes generalizing m a with
  | nil => exact h
  | cons b r ih => exact ih _ (memWf_memWrite _ _ h)

theorem memWf_memEraseBlock {m : List Host.Cell} (block : Nat) (h : memWf m = true) :
    memWf (memEraseBlock m block) = true := by
  simp only [memWf, Bool.and_eq_true, List.all_eq_true] at h ⊢
  exact ⟨tabSorted_filter _ h.1, fun p hp => h.2 p (List.mem_filter.1 hp).1⟩

theorem memWf_replaceBlock {m : List Host.Cell} (block : Nat) (bytes : List Byte) (h : memWf m = true) :
    memWf (replaceBlock m block bytes) = true := memWf_memWriteAll _ _ (memWf_memEraseBlock _ h)

@[simp] theorem Flash.setHeader_mem (f : Flash) (sl : Slot) (h : Header) : (f.setHeader sl h).mem = f.mem := by
  cases sl <;> rfl

@[simp] theorem Flash.header_setHeader (f : Flash) (sl : Slot) (h : Header) : (f.setHeader sl h).header sl = h := by
  cases sl <;> rfl

/-- However an operation was cut short, the flash's bytes keep their canonical form. -/
theorem memWf_cutOp (k : Nat) (op : FlashOp) {f : Flash} (h : memWf f.mem = true) :
    memWf (cutOp k op f).mem = true := by
  unfold cutOp
  split <;> (try split) <;> simp_all [memWf_replaceBlock, memWf_memWriteAll, memWf_memEraseBlock]

/-- The flash right after reset is in canonical form. -/
theorem memWf_reset : memWf State.reset.flash.mem = true := by decide

end Sys2Proof.Machine
end

