-- ==== Sys2Proof/Laws/Offers.lean ====
section
/-! SUPPORT. What a role change, the filling of the offer list and the end of a drain do, said once (R24, R62, R63,
R163). -/

namespace Sys2Proof.Machine

/-- Offers the RC may make in s: each to the node of a SERVED entry's best reading, with 300 ms to run (R62). -/
def OffersFrom (s : State) (l : List Offer) : Prop :=
  ∀ o ∈ l, o.ends = s.now + 300000000 ∧
    ∃ e r, (o.client, e) ∈ s.rc.clients ∧ e.role = .served ∧ e.best = some r ∧ r.node = o.node

/-- t is s with new offers at the end of the list; bulletins may have joined the control transmit queue, and nothing else
differs (R62). -/
def Offered (s t : State) : Prop :=
  ∃ l q, OffersFrom s l ∧
    t = (s.setBu { s.bu with control := q }).setRc { s.rc with offers := s.rc.offers ++ l }

theorem Offered.refl (s : State) : Offered s s :=
  ⟨[], s.bu.control, by simp [OffersFrom], by simp [State.setBu, State.setRc]⟩

theorem Offered.trans {s t u : State} (h : Offered s t) (k : Offered t u) : Offered s u := by
  obtain ⟨l, q, hl, rfl⟩ := h
  obtain ⟨m, r, hm, rfl⟩ := k
  refine ⟨l ++ m, r, fun o ho => ?_, by simp [State.setBu, State.setRc]⟩
  rcases List.mem_append.1 ho with ho | ho
  · exact hl o ho
  · exact hm o ho

/-- A bulletin handed to the BU touches the control transmit queue alone (R9). -/
theorem sendBulletin_eq (n : Nat) (b : Body) (s : State) :
    ∃ q, sendBulletin n b s = s.setBu { s.bu with control := q } := by
  unfold sendBulletin queueControl
  split
  · exact ⟨_, rfl⟩
  · exact ⟨s.bu.control, rfl⟩

theorem offerOne_offered (s : State) : Offered s (offerOne s) := by
  unfold offerOne
  split
  · rename_i i c hf
    split
    · rename_i r hb
      obtain ⟨q, hq⟩ := sendBulletin_eq r.node (.offer c.addr) s
      have he := List.find?_some hf
      simp only [offerEligible, Bool.and_eq_true, beq_iff_eq] at he
      refine ⟨[{ client := i, node := r.node, ends := s.now + Config.claimWaitNs }], q, ?_, by rw [hq]; rfl⟩
      intro o ho
      obtain rfl := List.mem_singleton.1 ho
      exact ⟨rfl, c, r, List.mem_of_find?_eq_some hf, he.1.1, hb, rfl⟩
    · exact .refl s
  · exact .refl s

theorem offerLoop_offered (n : Nat) (s : State) : Offered s (offerLoop n s) := by
  induction n generalizing s with
  | zero => exact .refl s
  | succ n ih =>
    simp only [offerLoop]
    split
    · exact (offerOne_offered s).trans (ih _)
    · exact .refl s

/-- All that the filling of the offer list can do (R62). -/
theorem offerFill_offered (s : State) : Offered s (offerFill s) := by
  unfold offerFill
  split
  · exact offerLoop_offered _ s
  · exact .refl s

/-- An entry in use takes a role other than SERVED: it is written, and its offers leave the list (R24, R63). -/
theorem toRole_leaving {i : Nat} {r : Role} {c : Client} {s : State} (f : Client → Client)
    (h : clientAt s i = some c) (hr : r ≠ .served) :
    toRole i r f s = s.setRc { s.rc with
      clients := tabSet s.rc.clients i (f (changeRole s.sl.params s.now r c))
      offers := s.rc.offers.filter (fun o => o.client != i) } := by
  simp [toRole, hr, modClient, h, dropOffersOf, putClient, setClients, State.setRc]

/-- DRAINING leads to LEAVING: offer list and lapsed record emptied, drain timer stopped, lapse timer 10 min on, READY TO
RESTART raised (R63, R163). -/
theorem enterLeaving_draining {s : State} (limit : Bool) (h : acDraining s = true) :
    enterLeaving limit s = { s with
      rc := { s.rc with offers := [], lapsed := [] }
      ac := { s.ac with state := .leaving, drainTimer := none, lapseTimer := some (s.now + 600000000000) }
      ml := offerEvent (stamp (.readyToRestart (incomingNumber s) (servedCount s) limit) s) s.ml } := by
  unfold enterLeaving acTo
  rw [h]
  rfl

end Sys2Proof.Machine
end

