-- ==== Sys2Proof/Laws/Receive.lean ====
section
/-! SUPPORT. What the checks of R1 to R8 let through, said once for every bulletin and for carried frames. -/

namespace Sys2Proof.Machine

/-- The mesh checks pass for a frame from another node of this mesh (R2, R3). -/
theorem gate_fromMesh {ft mt : BitVec 16} {src dst : BitVec 8} {a : Addr} {s : State} {p : Peer}
    (h : fromMesh ft mt src dst s = true) (hp : peerOf s src.toNat = some p) :
    gate a mt src dst s = if p.addr = a then .known src.toNat p else .clash src.toNat := by
  simp only [fromMesh, Bool.and_eq_true, beq_iff_eq, decide_eq_true_eq, bne_iff_ne, ne_eq] at h
  obtain ⟨⟨⟨⟨⟨_, hm⟩, h1⟩, h8⟩, ht⟩, hne⟩ := h.1
  have h0 : ¬ src.toNat = 0 := by omega
  simp [gate, hm, h0, Nat.not_lt.mpr h8, Nat.not_lt.mpr ht, hne, h.2, hp]

/-- An ABSENT source is told from one with an entry (R3). -/
theorem gate_absent {ft mt : BitVec 16} {src dst : BitVec 8} {a : Addr} {s : State}
    (h : fromMesh ft mt src dst s = true) (hp : peerOf s src.toNat = none) :
    gate a mt src dst s = .absent src.toNat := by
  simp only [fromMesh, Bool.and_eq_true, beq_iff_eq, decide_eq_true_eq, bne_iff_ne, ne_eq] at h
  obtain ⟨⟨⟨⟨⟨_, hm⟩, h1⟩, h8⟩, ht⟩, hne⟩ := h.1
  have h0 : ¬ src.toNat = 0 := by omega
  simp [gate, hm, h0, Nat.not_lt.mpr h8, Nat.not_lt.mpr ht, hne, h.2, hp]

theorem portTakes_fromMesh {ft mt : BitVec 16} {src dst : BitVec 8} {s : State}
    (h : fromMesh ft mt src dst s = true) (hr : running s = true) : portTakes ft s = true := by
  simp only [fromMesh, Bool.and_eq_true] at h
  simp [portTakes, hr, h.1.1.1.1.1.1]

/-- The state with the sequence of a bulletin taken (R5). -/
def afterSeq (f : MeshFrame) (p : Peer) (s : State) : State := s.setBu (seqTaken f p s.bu)

/-- A bulletin that reaches its block is handed to it with its sequence taken (R2 to R7). -/
theorem receive_delivered {kind : Nat} {f : MeshFrame} {p : Peer} {b : Body} {s : State}
    (k : Nat → Body → State → State) (h : delivered kind f p b s) :
    receive kind f k s = k f.source.toNat b (afterSeq f p s) := by
  obtain ⟨hl, hm, hb, hp, ha, hn, ht⟩ := h
  have hr : running s = true := by simp only [live, Bool.and_eq_true] at hl; exact hl.2
  have hd : isDelivered kind f.target s = true := by
    rcases ht with h | h | h | h <;> simp [isDelivered, h]
  simp [receive, portTakes_fromMesh hm hr, hb, gate_fromMesh (a := f.srcAddr) hm hp, ha, hn, hd, afterSeq, setLastSeq,
    setPeers, seqTaken]

/-- The same for the command that brings it. -/
theorem taken_receive {kind : Nat} {f : MeshFrame} {p : Peer} {b : Body} {s : State}
    (k : Nat → Body → State → State) (h : delivered kind f p b s) :
    taken (receive kind f k) s = .next (k f.source.toNat b (afterSeq f p s)) := by
  have ha : alive s = true := by
    have := h.1; simp only [live, Bool.and_eq_true] at this; exact this.1
  rw [taken, if_pos ha, receive_delivered k h]

end Sys2Proof.Machine
end

