-- ==== Sys2Proof/Laws/Sorted.lean ====
section
/-! SUPPORT. The shared operations that write the Client Table, the Peer Table, the Flow Table or the presence map keep their
indexes rising. -/

namespace Sys2Proof.Machine

theorem tablesSorted_iff {s : State} :
    tablesSorted s = true ↔ tabSorted s.rc.clients = true ∧ tabSorted s.bu.peers = true ∧ tabSorted s.fc.flows = true ∧
      tabSorted s.ie.presence = true := by
  simp [tablesSorted, and_assoc]

/-- An operation that leaves the four tables as they were keeps them in their form. -/
theorem tablesSorted_of_eq {s t : State} (h : tablesSorted s = true) (hc : t.rc.clients = s.rc.clients)
    (hp : t.bu.peers = s.bu.peers) (hf : t.fc.flows = s.fc.flows) (hm : t.ie.presence = s.ie.presence) :
    tablesSorted t = true := by
  simpa [tablesSorted, hc, hp, hf, hm] using h

variable {s : State} (h : tablesSorted s = true)
include h

theorem setClients_sorted {t : Table Client} (ht : tabSorted t = true) : tablesSorted (setClients t s) = true :=
  tablesSorted_iff.2 ⟨ht, (tablesSorted_iff.1 h).2⟩

theorem setPeers_sorted {t : Table Peer} (ht : tabSorted t = true) : tablesSorted (setPeers t s) = true :=
  tablesSorted_iff.2 ⟨(tablesSorted_iff.1 h).1, ht, (tablesSorted_iff.1 h).2.2⟩

theorem setFc_sorted {x : Fc} (hx : tabSorted x.flows = true) : tablesSorted (s.setFc x) = true :=
  tablesSorted_iff.2 ⟨(tablesSorted_iff.1 h).1, (tablesSorted_iff.1 h).2.1, hx, (tablesSorted_iff.1 h).2.2.2⟩

theorem setIe_sorted {x : Ie} (hx : tabSorted x.presence = true) : tablesSorted (s.setIe x) = true :=
  tablesSorted_iff.2 ⟨(tablesSorted_iff.1 h).1, (tablesSorted_iff.1 h).2.1, (tablesSorted_iff.1 h).2.2.1, hx⟩

theorem putClient_sorted (i : Nat) (c : Client) : tablesSorted (putClient i c s) = true :=
  setClients_sorted h (tabSorted_tabSet i c (tablesSorted_iff.1 h).1)

theorem modClient_sorted (i : Nat) (f : Client → Client) : tablesSorted (modClient i f s) = true := by
  unfold modClient
  split
  · exact putClient_sorted h i _
  · exact h

theorem removeFlowsOf_sorted (i : Nat) : tablesSorted (removeFlowsOf i s) = true :=
  modClient_sorted (setFc_sorted h (tabSorted_filter _ (tablesSorted_iff.1 h).2.2.1)) i _

theorem emptyFlows_sorted : tablesSorted (emptyFlows s) = true :=
  setClients_sorted (setFc_sorted (x := dropGames 0 s.now { s.fc with flows := [] }) h rfl)
    (tabSorted_tabMap _ (tablesSorted_iff.1 h).1)

theorem removeClient_sorted (i : Nat) : tablesSorted (removeClient i s) = true := by
  have k := tablesSorted_iff.1 (removeFlowsOf_sorted h i)
  exact tablesSorted_iff.2 ⟨tabSorted_tabErase i k.1, k.2⟩

theorem toRole_sorted (i : Nat) (r : Role) (f : Client → Client) : tablesSorted (toRole i r f s) = true := by
  have k := modClient_sorted h i (fun c => f (changeRole s.sl.params s.now r c))
  unfold toRole
  split
  · exact k
  · exact tablesSorted_of_eq k rfl rfl rfl rfl

theorem offerFill_sorted : tablesSorted (offerFill s) = true := by
  obtain ⟨l, q, -, hf⟩ := offerFill_offered s
  rw [hf]
  exact tablesSorted_of_eq h rfl rfl rfl rfl

end Sys2Proof.Machine
end

