-- ==== Sys2Proof/Tests/Slice0.lean ====
section
/-! SUPPORT. Tests: what WellFormed refuses, the manual's worked examples one step at a time, and for every statement with
hypotheses a state and operands that meet them (the theorems named witness_…). -/

set_option maxRecDepth 4000
-- One test at a time: each waits for the declarations before it, and many that wait at once take a thread each.
set_option Elab.async false

namespace Sys2Proof.Tests
open Sys2Proof.Machine

/-! ## Small states -/

/-- The state after a command, or the state before it where there is none. -/
def after (c : Instr) (s : State) : State :=
  match exec c s with
  | .next t => t
  | _ => s

/-- A step answers a next state. -/
def goesOn (s : State) : Bool :=
  match step s with
  | .next _ => true
  | _ => false

/-- The kinds of the queued events. -/
def events (s : State) : List Event := s.ml.events.map EventRec.event

/-- Ten seconds, in nanoseconds. -/
def t10 : Nat := 10000000000

/-- Node 1, RUNNING with default parameters at 10 s, both transmitters sending, no event queued. -/
def up : State :=
  { State.reset with
    sl := { part := .running, phase := .scanning, recordGood := true, cause := .power,
            params := { Params.default with node := 1 }, nextPulse := none, nextSight := none }
    es := { Es.reset with backhaulTx := some ⟨[], t10⟩, nodeTx := some ⟨[], t10⟩ }
    ml := { State.reset.ml with events := [] }
    now := t10 }

/-- What a quiet peer advertises. -/
def adv : PulseBody :=
  { period := 25, grade := .unset, uplink := false, fresh := false, drainWanted := false, draining := false,
    leaving := false, supplyFail := false, minute := 0, milli := 0, served := 0, demand := Quad.zero, activeImage := 0,
    incImage := 0, incLength := 0, incCheck := 0, incState := .empty, held := 0 }

/-- Node 2, PRESENT, last sequence number 5. -/
def peer : Peer :=
  { state := .present, addr := 0x040000000002#48, lastSeq := 5, lastFresh := false, quiet := 0, run := 3, heard := true,
    lastPulse := t10, adv := adv, mismatch := false, skew := false }

/-- Node 1 with node 2 PRESENT. -/
def meshed : State := up.setBu { up.bu with peers := [(2, peer)] }

/-- A bulletin from node 2 to node 1, sequence number 6. -/
def bulletin (b : Body) : MeshFrame :=
  { srcAddr := peer.addr, frameType := 0x88B5, meshTag := 0, source := 2, target := 1, seq := 6,
    bodyLen := BitVec.ofNat 16 (encodeBody b).length, bytes := encodeBody b }

def tablet : Addr := 0x02000000000A#48

/-- An entry of the tablet in a role, under a serving node, tenure 41. -/
def entry (r : Role) (serving : Nat) : Client :=
  { addr := tablet, role := r, serving := serving, tenure := 41, average := none, best := none, servingReading := none,
    better := 0, claimNo := none, claimant := none, timer := none, holddownEnds := 0, profile := 0, given := false,
    day := 0, used := 0, extra := 0, drawn := 0, active := false, verdict := none, games := 0, lastActivity := 0,
    refusal := none }

/-- Nodes 1 and 2 with one client entry at index 0. -/
def holding (c : Client) : State := meshed.setRc { meshed.rc with clients := [(0, c)] }

def served : Client := { entry .served 1 with verdict := some .allowed }
def remote : Client := { entry .remote 2 with average := some ⟨-245, t10⟩, servingReading := some ⟨-281, t10⟩ }
def handing : Client :=
  { served with role := .handing, claimNo := some 907, claimant := some 2, timer := some (t10 + 5000000000) }
def claiming : Client := { remote with role := .claiming, claimNo := some 907, timer := some (t10 + 300000000) }
def expecting : Client := { claiming with role := .expecting }

/-- A SUBMIT with host tag 7 and these arguments. -/
def submit (d : List Byte) : Submit := 7#8 :: toBE 2 d.length ++ d

/-- The image of 3 bytes numbered 8. -/
def image : Desc := { number := 8, length := 3, check := 0x352441C2, failed := 0 }

/-- Node 1 with its incoming slot FILLING for the small image, its one chunk in the program queue. -/
def filling : State := meshed.setIe { meshed.ie with
  inc := .filling, incDesc := some image, presence := [(0, .awaiting)]
  progs := [⟨0, [0x61#8, 0x62#8, 0x63#8], false⟩]
  op := some (.chunk .b 0 ⟨0, [0x61#8, 0x62#8, 0x63#8], false⟩ true) }

/-! ## WellFormed refuses what names nothing -/

theorem test_refuses_clash_node : WellFormed (.clashTimerExpiry 0) = false ∧ WellFormed (.clashTimerExpiry 9) = false ∧
    WellFormed (.clashTimerExpiry 8) = true := by decide
theorem test_refuses_skip_node : WellFormed (.skipTimerExpiry 9) = false := by decide
theorem test_refuses_reading_index : WellFormed (.readingLapse 256 .best) = false := by decide
theorem test_refuses_sample_index : WellFormed (.sampleAgeLapse 256) = false := by decide
theorem test_refuses_claim_wait_index : WellFormed (.claimWaitExpiry 256) = false := by decide
theorem test_refuses_handing_index : WellFormed (.handWaitExpiryHanding 256) = false := by decide
theorem test_refuses_expecting_index : WellFormed (.handWaitExpiryExpecting 256) = false := by decide
theorem test_refuses_removal_index : WellFormed (.removalTimerExpiry 256) = false := by decide
theorem test_refuses_holddown_index : WellFormed (.holddownExpiry 256) = false := by decide
theorem test_refuses_offer_index : WellFormed (.offerTimerExpiry 256) = false ∧
    WellFormed (.offerTimerExpiry 255) = true := by decide
theorem test_refuses_flow_index : WellFormed (.flowIdleExpiry 512) = false ∧ WellFormed (.flowIdleExpiry 511) = true := by
  decide
theorem test_refuses_data_of_samples_kind : WellFormed (.nodePortData ⟨2, 0, 0, 0, 0, 0, []⟩) = false := by decide
theorem test_refuses_samples_of_data_kind : WellFormed (.nodePortSamples ⟨1, 0, 0, 0, 0, 0, []⟩) = false := by decide
theorem test_refuses_known_request : WellFormed (.submitUnknownRequest [1#8, 26#8]) = false ∧
    WellFormed (.submitUnknownRequest [1#8, 27#8]) = true ∧ WellFormed (.submitUnknownRequest [2#8]) = false := by decide
theorem test_refuses_known_kind : WellFormed (.unknownKindBulletinReceive 11#8 (bulletin (.offer tablet))) = false ∧
    WellFormed (.unknownKindBulletinReceive 128#8 (bulletin (.offer tablet))) = false ∧
    WellFormed (.unknownKindBulletinReceive 0#8 (bulletin (.offer tablet))) = true := by decide
theorem test_refuses_another_target : WellFormed (.blockResetPeers (submit [2#8])) = false ∧
    WellFormed (.blockResetClients (submit [3#8])) = false ∧ WellFormed (.blockResetFlows (submit [4#8])) = false ∧
    WellFormed (.blockResetShare (submit [5#8])) = false ∧ WellFormed (.blockResetSchedules (submit [6#8])) = false ∧
    WellFormed (.blockResetImage (submit [7#8])) = false ∧ WellFormed (.blockResetEvents (submit [1#8])) = false := by
  decide

/-! ## The manual's worked examples -/

/-- Table 2-5. -/
theorem test_local_average : averageAfter none (-65) = -260 ∧ averageAfter (some ⟨-260, 0⟩) (-58) = -257 ∧
    averageAfter (some ⟨-257, 0⟩) (-58) = -254 ∧ averageAfter (some ⟨-254, 0⟩) (-80) = -263 ∧
    averageAfter (some ⟨-263, 0⟩) (-120) = -281 ∧ averageAfter none (-70) = -280 := by decide

/-- Section 1.10: 40131 is newer than 40103, 12000 and 12001 are not newer than 40131. -/
theorem test_newer_of_section_1_10 : newer 40131#16 40103#16 = true ∧ newer 12000#16 40131#16 = false ∧
    newer 12001#16 40131#16 = false := by decide

def share (self : Nat) (cap gc : Nat) (parts : List (Nat × Quad)) : ShareResult :=
  shareCompute { epoch := 0, self := self, params := { cap := cap, gc := gc, wS := 8, wB := 4, wU := 1 }
                 parts := parts.map (fun p => ⟨p.1, p.2, false, 0⟩), excluded := [] }

/-- Section 5.5.1. -/
theorem test_share_normal_load :
    let r := share 2 2930 40 [(1, ⟨300, 900, 1200, 0⟩), (2, ⟨500, 400, 0, 60⟩), (3, ⟨600, 200, 800, 40⟩)]
    r.gameGrants = [(1, 251), (2, 418), (3, 502)] ∧ r.pools = ⟨1082, 541, 135⟩ ∧ r.spilled = ⟨1118, 541, 100⟩ ∧
    r.remainder = 0 ∧ r.grants = ⟨418, 298, 0, 60⟩ := by decide

/-- Section 5.5.2. -/
theorem test_share_light_load :
    let r := share 1 2930 40 [(1, ⟨10, 20, 0, 5⟩), (4, ⟨0, 15, 0, 0⟩)]
    r.pools = ⟨2595, 0, 324⟩ ∧ r.remainder = 2880 ∧ r.grants = ⟨10, 20, 0, 5⟩ := by decide

/-- Section 5.5.3. -/
theorem test_share_scarce :
    let r := share 5 400 25 [(1, ⟨40, 0, 500, 0⟩), (5, ⟨70, 30, 0, 0⟩)]
    r.gameGrants = [(1, 36), (5, 63)] ∧ r.pools = ⟨200, 100, 0⟩ ∧ r.spilled = ⟨30, 271, 0⟩ ∧ r.grants = ⟨63, 30, 0, 0⟩ := by
  decide

/-- Section 5.5.4. -/
theorem test_share_saturation :
    let r := share 1 65535 80 ((List.range 8).map (fun k => (k + 1, ⟨65535, 0, 0, 0⟩)))
    r.gcap = 52428 ∧ r.gg = 52424 ∧ r.remainder = 13111 ∧ r.grants = ⟨6553, 0, 0, 0⟩ := by decide

/-- Section 6.9: the refill of the next edge. -/
theorem test_refill_carries_debt :
    refill ⟨-40, -476, -264, -844⟩ ⟨10, 4, 6, 5⟩ = ⟨2520, 548, 1272, 436⟩ ∧
    refill ⟨0, 9, 0, 0⟩ ⟨10, 4, 6, 5⟩ = ⟨2560, 1024, 1536, 1280⟩ := by decide

/-- Table 6-4, choices 5 and 11: STANDARD is passed over while its count is below 1. -/
theorem test_round_robin :
    let q := fun (c : Machine.Class) (n : Nat) => [mkEntry n c (.nodeSide true [])]
    let e : Es := { Es.reset with standard := q .standard 1500, bulk := q .bulk 600, update := q .update 1062 }
    chooseClass { e with tokens := ⟨-40, 1024, 1536, 1280⟩ } = some .standard ∧
    chooseClass { e with tokens := ⟨-40, -476, 936, 218⟩ } = some .bulk ∧
    chooseClass { e with tokens := ⟨-40, -476, 336, 218⟩, pointer := .update } = some .update ∧
    chooseClass { e with update := [], bulk := [], tokens := ⟨-40, -476, -264, -844⟩ } = none := by decide

/-- Table 6-3: two waiting GAME frames are given up for the new one. -/
theorem test_game_head_drop :
    let x := fun n : Nat => mkEntry n .game (.nodeSide true [])
    let old : QEntry := { len := 61952, cells := 242, cls := .game, load := .nodeSide true [] }
    let e : Es := { Es.reset with game := [x 300, x 1450, old], free := 3 }
    let r := admitFrame Params.default .game (x 1536) e
    r.2 = true ∧ r.1.game = [old, x 1536] ∧ cellsOf r.1.game = 248 ∧ r.1.free = 5 ∧
    (admitFrame Params.default .standard (x 1536) e).2 = false := by decide

/-- The check value of CRC-32 over the digits 1 to 9, and of the small image "abc" (R138). -/
theorem test_crc32 : crc32 [0x31#8, 0x32#8, 0x33#8, 0x34#8, 0x35#8, 0x36#8, 0x37#8, 0x38#8, 0x39#8] = 0xCBF43926 ∧
    crc32 [0x61#8, 0x62#8, 0x63#8] = image.check := by decide +kernel

/-- Profile 3 of section 7.6.1. -/
def school : ProfileRecord :=
  { windows := [⟨0x1F#8, 0, 420, .closed⟩, ⟨0x1F#8, 1260, 1440, .closed⟩], budget := 90, strict := true }

/-- The tablet SERVED under profile 3 at a minute-of-week. -/
def evening (minute used extra drawn : Nat) (v : Verdict) : State :=
  (holding { served with profile := 3, day := minute / 1440, used := used, extra := extra, drawn := drawn, active := true,
                         verdict := some v }).setSu
    { clock := ⟨.set, minute, 0, 0⟩
      profiles := [(3, { Profile.blank with
        record := school, closed := if inWindow school .closed minute then some .window else none })]
      maintenance := false }

def counters (s : State) : Option (Nat × Nat × Nat × Option Verdict) :=
  (clientAt s 0).map (fun c => (c.used, c.extra, c.drawn, c.verdict))

/-- Table 7-4, the tick of 20:58: the last minute of the budget. -/
theorem test_budget_spent : let t := after .minuteTick (evening 2697 89 0 0 .allowed)
    counters t = some (90, 0, 0, some .blocked) ∧ events t = [.clientBlocked tablet 3 .budget] := by decide +kernel

/-- Table 7-4: extra minutes are drawn, and 21:00 closes the profile. -/
theorem test_extra_minutes_drawn : counters (after .minuteTick (evening 2698 90 15 0 .allowed)) =
      some (90, 14, 1, some .allowed) ∧
    events (after .minuteTick (evening 2699 90 14 1 .allowed)) = [.profileClosed 3 .window] := by decide +kernel

/-- Table 7-4: midnight empties the counters and keeps the verdict; 07:00 opens the profile. -/
theorem test_rollover_and_morning : counters (after .minuteTick (evening 2879 90 0 15 .blocked)) =
      some (0, 0, 0, some .blocked) ∧
    events (after .minuteTick (evening 3299 0 0 0 .blocked)) = [.profileOpened 3 .window, .clientAllowed tablet 3] := by
  decide +kernel

/-- Table 3-6: the claim that node 1 grants steers the client. -/
theorem test_claim_granted :
    let s := holding { served with average := some ⟨-281, t10⟩ }
    let t := after (.claimReceive (bulletin (.claim tablet 907 (-245)))) s
    (clientAt t 0).map (fun c => (c.role, c.claimant, c.claimNo, c.timer)) =
      some (.handing, some 2, some 907, some (t10 + 5000000000)) ∧
    t.bu.control = [.bulletin 2 (.grant tablet 907)] ∧ events t = [.steer tablet 2 907] := by decide +kernel

/-- Table 3-7: a second claim is refused BUSY, and a refused claimant sets the holddown. -/
theorem test_claim_refused :
    (after (.claimReceive (bulletin (.claim tablet 210 (-245)))) (holding handing)).bu.control =
      [.bulletin 2 (.refuse tablet 210 2)] ∧
    (clientAt (after (.refuseReceive (bulletin (.refuse tablet 907 2))) (holding claiming)) 0).map
      (fun c => (c.role, c.holddownEnds, c.refusal)) = some (.remote, t10 + 10000000000, some 2) := by decide +kernel

/-- Table 3-5: the fourth sighting sends the claim. -/
theorem test_sighting_sends_claim :
    let s := holding { remote with better := 2 }
    let t := after (.sightingReceive (bulletin (.sighting [⟨tablet, -281, true, 41⟩]))) s
    (clientAt t 0).map (fun c => (c.role, c.better)) = some (.claiming, 0) ∧
    t.bu.control = [.bulletin 2 (.claim tablet 0 (-245))] := by decide +kernel

/-- Table 3-3: CONTEXT sums the used minutes and takes profile and extra minutes. -/
theorem test_context_merges :
    let s := (holding { served with tenure := 18, day := 2, used := 1 }).setSu { up.su with clock := ⟨.set, 2880, 0, 0⟩ }
    (clientAt (after (.contextReceive (bulletin (.context tablet 18 4 2 95 20))) s) 0).map
      (fun c => (c.profile, c.used, c.extra)) = some (4, 96, 20) := by decide +kernel

/-- Table 1-4: a JOINING peer heard for the third time is PRESENT. -/
theorem test_peer_joined :
    let s := (up.setBu { up.bu with peers := [(2, { peer with state := .joining, run := 2 })], control := [.pulse true] })
    let t := after .backhaulTxDone s
    (peerOf t 2).map Peer.state = some .present ∧ events t = [.peerJoined 2] := by decide +kernel

/-- The slot FILLING, a BLOCK RESET IMAGE waiting for the end of the program sequence. -/
def waiting : State := (filling.setIe { filling.ie with resetWaits := true }).setMl { up.ml with state := .pending, code := 25 }

/-- The slot stays FILLING while a program sequence is in flight (R156). -/
theorem test_image_reset_waits_for_program : let t := after (.blockResetImage (submit [6#8])) filling
    t.ie.inc = .filling ∧ t.ie.resetWaits = true ∧ t.ml.state = .pending := by decide +kernel
/-- The erase begins when the sequence has ended (R156). -/
theorem test_waiting_image_reset_erases : let t := after (.chunkProgramDone [0x61#8, 0x62#8, 0x63#8]) waiting
    t.ie.inc = .erasing ∧ t.ie.after = .nothing ∧ t.ml.state = .pending := by decide +kernel

/-- The chunk of the small image is read back right: it is present and the check begins (R150, R152). -/
theorem test_last_chunk_starts_check : let t := after (.chunkProgramDone [0x61#8, 0x62#8, 0x63#8]) filling
    t.ie.inc = .checking ∧ heldCount t = 1 ∧ t.ie.op = some (.checkRead 0) ∧ events t = [] := by decide +kernel

/-- The check of the small image passes: READY, and the ready mark is written (R152). -/
theorem test_check_passes :
    let s := filling.setFlash { filling.flash with
      mem := memWriteAll [] (chunkOffset .b 0) [0x61#8, 0x62#8, 0x63#8] }
    let t := after .checkReadDone (s.setIe { s.ie with
      inc := .checking, progs := [], presence := [(0, .present)], check := some ⟨0, 0xFFFFFFFF#32⟩
      op := some (.checkRead 0) })
    t.ie.inc = .ready ∧ t.ie.op = some (.header (.mark .b .ready)) ∧ events t = [.imageReady 8] ∧ t.ac.state = .waiting := by
  decide +kernel

/-- SET TIME from UNSET (R120). -/
theorem test_set_time : let t := after (.setTime (submit [0x0A#8, 0x89#8, 0#8, 0#8])) up
    t.su.clock = ⟨.set, 2697, 0, 0⟩ ∧ t.ml.result = [0#8, 0#8, 0#8, 0#8, 0#8, 1#8] := by decide +kernel

/-- CLIENT ATTACH of an unknown station (R31). -/
theorem test_attach : let t := after (.clientAttach (submit (addrBytes tablet ++ [0xFF#8]))) up
    (clientAt t 0).map (fun c => (c.role, c.tenure, c.holddownEnds)) = some (.served, 1#16, t10 + 10000000000) ∧
    t.bu.control = [.bulletin 0 (.arrived tablet 1)] ∧ t.ml.result = [0#8, 0#8, 1#8] := by decide +kernel

/-- A void SUBMIT is not taken; a POLL of a whole result clears the interrupt (R171, R174, R181). -/
theorem test_void_and_poll : (after (.readFault [7#8, 0#8]) up).ml.state = .empty ∧
    (let t := after (.readFault (submit [])) up
     interruptAsserted t = true ∧ interruptAsserted (after (.poll 0 15) t) = false ∧
     interruptAsserted (after (.poll 0 14) t) = true) := by decide +kernel

/-! ## Witnesses: states and operands that meet the statements' hypotheses -/

theorem witness_StepIdlesOneMillisecond : up.pending = [] ∧ alive up = true ∧ up.su.clock.grade = .unset ∧
    alive (up.setPins { up.pins with powered := false }) = false ∧ (evening 2697 0 0 0 .allowed).su.clock.grade ≠ .unset := by
  decide +kernel

/-- Node 1 with a minute tick and a frame in its node-side queue. -/
def queued : State := (up.setPending [.minuteTick]).setEs
  { up.es with node := [mkEntry 300 .game (.nodeSide true [])], free := 4094 }

theorem witness_StepKeepsFlashCanonical : flashOk queued.flash = true ∧ goesOn queued = true := by decide +kernel
theorem witness_StepKeepsBufferPool : poolOk queued.es = true ∧ goesOn queued = true := by decide +kernel
theorem witness_StepKeepsTokenBounds : tokensOk queued = true ∧ goesOn queued = true := by decide +kernel
theorem witness_StepKeepsClockRanges : clockOk queued.su.clock = true ∧ clockOk ⟨.set, 10079, 59999, 0⟩ = true ∧
    goesOn queued = true := by decide +kernel
theorem witness_StepKeepsQueueBounds : queuesOk queued = true ∧ goesOn queued = true := by decide +kernel
theorem witness_StepKeepsMinuteCounters : clientsOk (holding { served with used := 1440, extra := 240 }) = true ∧
    goesOn (holding served) = true ∧
    (let s := ((holding served).setRc
       { (holding served).rc with clients := [(0, served), (255, { served with addr := 2 })] }).setPending [.minuteTick]
     tablesSorted s = true ∧ goesOn s = true) := by decide +kernel

theorem witness_BulletinBodiesRoundTrip : bodyOk (.pulse adv) = true ∧ bodyOk (.claim tablet 907 (-32768)) = true ∧
    bodyOk (.claim tablet 907 32767) = true ∧ bodyOk (.sighting [⟨tablet, -281, true, 41⟩]) = true ∧
    bodyOk (.sighting (List.replicate 48 ⟨tablet, -281, true, 41⟩)) = true ∧ bodyOk (.chunk 8 65535 1 255 0 []) = true := by
  decide +kernel
theorem witness_StartRecordRoundTrip : ([] : List Byte).length ≤ 256 ∧ (List.replicate 256 0xFF#8).length ≤ 256 ∧
    1 ≤ [(1, 65535)].length ∧ (List.replicate 128 (255, 65535)).length ≤ 128 ∧
    (∀ b ∈ List.replicate 256 0xFF#8, b = 0x00#8 ∨ b = 0xFF#8) ∧
    (∀ i ∈ List.replicate 128 (255, 65535), i.1 < 256 ∧ i.2 < 65536) := by decide +kernel
theorem witness_StartParametersInRange :
    ∀ i ∈ [(1, 0), (2, 65535), (3, 0x5FF), (5, 12), (12, 15), (12, 4097), (23, 16), (24, 1)], i.2 < 65536 := by decide

/-- The part held in reset, before LOADING. -/
def held : State := State.reset.setPins { State.reset.pins with resetHeld := true }

theorem witness_ResetInputAssertAndRelease : held.pins.resetHeld = true ∧ up.pins.resetHeld = false ∧
    (up.setPins { up.pins with powered := false }).pins.powered = false ∧ up.pins.powered = true ∧
    held.pins.powered = true ∧ held.sl.part = .starting ∧ held.ml.mask = maskAll ∧ held.ml.events.length ≤ 64 ∧
    (held.setPins { held.pins with powered := false }).pins.resetHeld = true ∧
    (held.setPins { held.pins with powered := false }).pins.powered = false := by decide
theorem witness_PowerUpAndResetPartResetAndLoad : held.pins.resetHeld = true ∧ up.pins.resetHeld = false ∧
    alive up = true ∧ alive held = false ∧ up.ie.op = none ∧ requestTaken (lenIs 0) (submit []) up := by
  repeat' apply And.intro
  all_goals decide +kernel

/-- LOADING has read a record that passed and names node 1. -/
def scanning : State := State.reset.setSl { up.sl with part := .starting, phase := .scanning }

theorem witness_StartUpEndsRunningOrIsolated : alive scanning = true ∧ scanning.sl.part = .starting ∧
    scanning.sl.phase = .scanning ∧ scanning.sl.recordGood = true ∧ 1 ≤ scanning.sl.params.node ∧
    scanning.sl.params.node ≤ 8 ∧ imageDue (after .startUpComplete scanning) = false ∧
    (let h : Header := { Header.blank with desc := some image, filling := true, ready := true }
     let s := scanning.setFlash { scanning.flash with headerB := h }
     alive s = true ∧ s.sl.phase = .scanning ∧ imageDue (after .startUpComplete s) = true) ∧
    (scanning.setSl { scanning.sl with recordGood := false }).sl.recordGood = false := by decide +kernel
theorem witness_ResumeScanChoosesSlots :
    (let h : Header := { Header.blank with activeCount := some 1, desc := some image }
     (∀ q ∈ [((1 : Nat), (2 : Nat)), (2, 1), (2, 2)],
       let f : Flash := { up.flash with headerA := { h with activeCount := some q.1 }
                                        headerB := { h with activeCount := some q.2 } }
       f.headerA.activeCount = some q.1 ∧ f.headerA.retired = false ∧ f.headerB.activeCount = some q.2 ∧
       f.headerB.retired = false) ∧
     { h with retired := true }.retired = true) ∧ Header.blank.activeCount = none ∧
    (let h : Header := { Header.blank with desc := some image, filling := true }
     h.erasing = false ∧ h.garbled = false ∧ h.desc = some image ∧ h.reject = false ∧ h.ready = false ∧
     (∃ k < chunkCount image.length, tabGet h.progress (physical h.remap k) = none) ∧
     (∀ k < chunkCount image.length, (tabGet [(0, ())] (physical h.remap k)).isSome = true)) := by decide +kernel
theorem witness_PowerLossAndHeldPartTakeNothing : up.pins.powered = true ∧ alive held = false ∧
    isPinCommand .minuteTick = false := by decide
theorem witness_QueuesWhenFull : maskAll.getLsbD (eventCode .noUplink) = true ∧
    (0#64).getLsbD (eventCode .noUplink) = false ∧ (List.replicate 16 (Control.bulletin 0 (.offer tablet))).length = 16 ∧
    isSighting (.bulletin 0 (.sighting [])) = true ∧ isSighting (.pulse true) = false ∧
    (List.replicate 64 (stamp .noUplink up)).length = 64 := by decide +kernel

/-- A GAME queue holding 3 and 252 cells, with 3 cells free. -/
def crowded : Es :=
  { Es.reset with game := [mkEntry 700 .game (.nodeSide true []), mkEntry 64512 .game (.nodeSide true [])], free := 3 }

theorem witness_QueuesWhenFull_admission :
    let cells := fun l : List QEntry => (l.map QEntry.cells).sum
    let x := mkEntry 1024 .game (.nodeSide true [])
    let first := mkEntry 700 .game (.nodeSide true [])
    let rest := [mkEntry 64512 .game (.nodeSide true [])]
    cells (crowded.queue .standard) + first.cells ≤ limitOf Params.default .standard ∧ first.cells ≤ crowded.free ∧
    crowded.free < x.cells ∧ QName.standard ≠ .game ∧ crowded.game = [first] ++ rest ∧
    cells rest + x.cells ≤ limitOf Params.default .game ∧ x.cells ≤ crowded.free + cells [first] ∧
    (∀ c y d, [first] = c ++ y :: d → limitOf Params.default .game < cells (y :: d ++ rest) + x.cells ∨
      crowded.free + cells c < x.cells) ∧
    limitOf Params.default .game < (mkEntry 65792 .game (.nodeSide true [])).cells := by
  refine ⟨by decide, by decide, by decide, by decide, by decide, by decide, by decide, ?_, by decide⟩
  rintro (_ | ⟨e, c⟩) y d h
  · obtain ⟨rfl, rfl⟩ := List.cons.inj h
    decide
  · simp at h

theorem witness_ForeignStaleClashingFrames :
    let f := bulletin (.offer tablet)
    let stranger := { f with srcAddr := 5#48 }
    f.source.toNat ≠ meshed.sl.params.node ∧ running State.reset = false ∧ newer 5#16 peer.lastSeq = false ∧
    peerOf meshed 2 = some peer ∧ peer.addr = f.srcAddr ∧ peerOf up 2 = none ∧ live meshed = true ∧
    fromMesh f.frameType f.meshTag f.source f.target meshed = true ∧ f.bodyLen.toNat ≤ f.bytes.length ∧
    newer f.seq peer.lastSeq = true ∧ peer.addr ≠ stranger.srcAddr ∧ (readBody 9 stranger).isSome = true ∧
    tabGet meshed.bu.clash 2 = none ∧ tabGet (meshed.setBu { meshed.bu with clash := [(2, 5)] }).bu.clash 2 = some 5 ∧
    { f with bodyLen := 7 }.bytes.length < 7 ∧ f.bodyLen.toNat ≠ 36 ∧ (f.bodyLen.toNat : Nat) < 15 ∧
    field 0 1 (f.bytes.take 6) ≠ 0 ∧ field 0 1 [9#8] < 10 ∧ 100 < field 0 1 [101#8] ∧ 5 < field 33 1 (List.replicate 34 6#8) := by
  decide +kernel

/-- A frame that carries the own node number; its source address may be the own station address or another one. -/
theorem witness_ForeignStaleClashingFrames_own :
    let f := { bulletin (.offer tablet) with source := 1, target := 0 }
    (live meshed = true ∧ (readBody 9 f).isSome = true ∧ f.bodyLen.toNat ≤ f.bytes.length ∧
      f.frameType.toNat = meshed.sl.params.frameType ∧ f.meshTag.toNat = meshed.sl.params.meshTag ∧ 1 ≤ f.source.toNat ∧
      f.source.toNat ≤ 8 ∧ f.target.toNat ≤ 8 ∧ f.target ≠ f.source ∧ f.source.toNat = meshed.sl.params.node) ∧
    (∀ a, readBody 9 { f with srcAddr := a } = readBody 9 f) ∧ Config.ownAddress + 1 ≠ Config.ownAddress := by
  refine ⟨by decide +kernel, fun _ => rfl, fun h => ?_⟩
  have := congrArg (fun x => x - Config.ownAddress) h
  simp at this
theorem witness_PulseOpensEntry :
    let f := bulletin (.pulse { adv with grade := .set, fresh := true })
    live up = true ∧ txWaits up = true ∧ fromMesh f.frameType f.meshTag f.source f.target up = true ∧
    readBody 1 f = some (.pulse { adv with grade := .set, fresh := true }) ∧ peerOf up 2 = none ∧
    readBody 1 (bulletin (.pulse adv)) = some (.pulse adv) ∧ acDraining up = false ∧ up.su.clock.grade = .unset ∧
    up.rc.clients = [] ∧ up.su.profiles = [] ∧ discovered false { adv with incImage := 8, incLength := 3 } up = false ∧
    (let s := up.setSu { up.su with clock := ⟨.set, 2, 0, 0⟩ }
     s.su.clock.grade ≠ .unset ∧ acDraining s = false ∧ adv.grade ≠ .set ∧
     120000 = weekDistance (weekMilli 2 0) (weekMilli 0 0) ∧ 120000 < weekDistance (weekMilli 2 0) (weekMilli 10079 59999)) ∧
    misdescribes (some image) { adv with incImage := 8, incLength := 4 } = true ∧
    incomingHeld filling = some image := by decide +kernel
theorem witness_PulseRenewsEntry :
    let f := bulletin (.pulse { adv with fresh := true })
    let s := holding remote
    live s = true ∧ txWaits s = true ∧ fromMesh f.frameType f.meshTag f.source f.target s = true ∧
    readBody 1 f = some (.pulse { adv with fresh := true }) ∧ peerOf s 2 = some peer ∧ peer.addr = f.srcAddr ∧
    newer f.seq peer.lastSeq = true ∧ peer.lastFresh = false ∧ clientAt s 0 = some remote ∧ remote.serving = 2 ∧
    newer 5#16 peer.lastSeq = false ∧ readBody 1 (bulletin (.pulse adv)) = some (.pulse adv) ∧
    adv.fresh = false ∧ adv.grade ≠ .set ∧ acDraining s = false ∧ s.ml.state ≠ .pending ∧ s.su.clock.grade = .unset ∧
    s.su.profiles = [] ∧ up.rc.clients = [] ∧
    (let b := { adv with incImage := 8, incLength := 16777216 }
     discovered true b s = true ∧ discovered true { b with incLength := 16777217 } s = false ∧
     discovered true { b with incLength := 0 } s = false ∧ discovered true { b with incImage := 0 } s = false ∧
     discovered false b s = false ∧ s.ie.inc = .empty ∧ readBody 1 (bulletin (.pulse b)) = some (.pulse b) ∧
     discovered true { b with incImage := 9 } filling = true ∧ filling.ie.inc ≠ .empty ∧ filling.ie.inc ≠ .erasing ∧
     (let e := filling.setIe { filling.ie with inc := .erasing, incDesc := none, after := .image image }
      discovered true { b with incImage := 9 } e = true ∧ e.ie.inc = .erasing)) := by decide +kernel

/-- Node 3 with image 8 READY and the conditions of R159 met, in an AC state, its count at 2 or 3, with these clients. -/
def readied (a : AcState) (count : Nat) (clients : Table Client) : State :=
  { up with
    sl := { up.sl with params := { up.sl.params with node := 3 } }
    bu := { up.bu with peers := [(2, peer)] }
    rc := { up.rc with clients := clients }
    fc := { up.fc with quietSince := some 0 }
    su := { up.su with clock := ⟨.set, 0, 0, 0⟩, maintenance := true }
    ie := { up.ie with inc := .ready, incDesc := some image, presence := [(0, .present)] }
    ac := { up.ac with state := a, count := count }
    now := 1000 * t10 }

theorem witness_PulseRenewsEntry_restart :
    (let b := { adv with fresh := true }
     ∀ c ∈ [handing, remote],
      let s := (holding c).setIe { meshed.ie with fetches := [⟨3, 2, 0, 2, [0], t10⟩], presence := [(1, .requested)] }
      live s = true ∧ txWaits s = true ∧ peerOf s 2 = some peer ∧ peer.lastFresh = false ∧ clientAt s 0 = some c ∧
      discovered true b s = false ∧ s.rc.clients.length ≤ 1 ∧ acDraining s = false ∧ s.ml.state ≠ .pending ∧
      readBody 1 (bulletin (.pulse b)) = some (.pulse b)) ∧
    handing.role = .handing ∧ handing.claimant = some 2 := by decide +kernel
theorem witness_PulseRenewsEntry_drainSlot :
    (∀ a ∈ [AcState.wanting, .draining],
      let s := readied a 2 [(0, served)]
      live s = true ∧ fromMesh 0x88B5#16 0#16 2#8 3#8 s = true ∧ imageDue s = true ∧ activationOk s = true ∧
      s.ac.state = a ∧ peerOf s 2 = some peer ∧ servedCount s ≠ 0 ∧ 2 < s.sl.params.node ∧
      activationOk { s with su := { s.su with maintenance := false } } = false) ∧
    (let b := { adv with draining := true }
     readBody 1 { bulletin (.pulse b) with target := 3 } = some (.pulse b)) := by
  repeat' apply And.intro
  all_goals decide +kernel
theorem witness_SightingOfUnknownClient :
    let e : Listing := ⟨tablet, -281, true, 41⟩
    delivered 2 (bulletin (.sighting [e])) peer (.sighting [e]) meshed ∧ txWaits meshed = true ∧
    acDraining meshed = false ∧ isGroup e.addr = false ∧ findClient meshed e.addr = none ∧ e.tenure ≠ 0#16 ∧
    tabFree meshed.rc.clients 256 = some 0 ∧
    (let d : Listing := { e with servedHere := false }
     delivered 2 (bulletin (.sighting [d])) peer (.sighting [d]) meshed) ∧
    (let d : Listing := { e with tenure := 0 }
     delivered 2 (bulletin (.sighting [d])) peer (.sighting [d]) meshed) := by
  repeat' apply And.intro
  all_goals decide +kernel

/-- Node 1 with a full Client Table: REMOTE entries, and at index 3 one in a role. -/
def fullTable (r : Role) : State := meshed.setRc { meshed.rc with
  clients := (List.range 256).map (fun k =>
    (k, { entry (if k = 3 then r else .remote) 2 with addr := BitVec.ofNat 48 (2 ^ 41 + 4 * k), lastActivity := k })) }

theorem witness_SightingOfUnknownClient_full :
    let e : Listing := ⟨tablet, -281, true, 41⟩
    (∀ r ∈ [Role.departed, .orphan, .remote],
      delivered 2 (bulletin (.sighting [e])) peer (.sighting [e]) (fullTable r) ∧ txWaits (fullTable r) = true ∧
      acDraining (fullTable r) = false ∧ findClient (fullTable r) e.addr = none ∧
      tabFree (fullTable r).rc.clients 256 = none ∧ tabSorted (fullTable r).rc.clients = true ∧
      (clientAt (fullTable r) 3).map Client.role = some r ∧
      (fullTable r).rc.clients.all (fun q => q.1 == 3 || q.2.role == .remote) = true) ∧ isGroup e.addr = false := by
  unfold delivered
  decide +kernel
theorem witness_SightingOfUnknownClient_known :
    let e : Listing := ⟨tablet, -281, true, 42⟩
    (∀ r ∈ [Role.remote, .claiming, .expecting, .orphan, .departed],
      delivered 2 (bulletin (.sighting [e])) peer (.sighting [e]) (holding (entry r 3)) ∧
      entryOf (holding (entry r 3)) tablet 0 (entry r 3) ∧ (entry r 3).role ≠ .served ∧ (entry r 3).role ≠ .handing) ∧
    ([(2, false, 0#16), (2, true, 40), (2, true, 41), (2, true, 42), (3, true, 41)].all (fun d =>
      [Role.remote, .claiming, .expecting, .orphan, .departed].all (fun r =>
        (readEntry 2 (-281) t10 (listedEntry 2 ⟨tablet, -281, d.2.1, d.2.2⟩ (entry r d.1))).average.isNone))) = true := by
  unfold delivered entryOf
  decide +kernel
theorem witness_SightingOfUnknownClient_served :
    (let e : Listing := ⟨tablet, -281, false, 0⟩
     let s := (holding served).setAc { up.ac with state := .draining }
     delivered 2 (bulletin (.sighting [e])) peer (.sighting [e]) s ∧ acDraining s = true ∧ servedCount s ≠ 0 ∧
     entryOf s e.addr 0 served ∧ readBody 2 (bulletin (.sighting ([e] ++ [e]))) = some (.sighting ([e] ++ [e]))) := by
  unfold delivered entryOf
  decide +kernel
theorem witness_DoubleServeSettledByTenure :
    let s := holding served
    (let e : Listing := ⟨tablet, -281, true, 42⟩
     delivered 2 (bulletin (.sighting [e])) peer (.sighting [e]) s ∧ txWaits s = true ∧ acDraining s = false ∧
     e.tenure ≠ 0#16 ∧ entryOf s e.addr 0 served ∧ served.serving ≠ 2 ∧ 1 ≤ s.sl.params.holddown ∧
     newer e.tenure served.tenure = true) ∧
    (let e : Listing := ⟨tablet, -281, true, 41⟩
     delivered 2 (bulletin (.sighting [e])) peer (.sighting [e]) s ∧ newer e.tenure served.tenure = false ∧
     newer served.tenure e.tenure = false ∧ s.sl.params.node ≤ 2) ∧
    (let s := s.setSl { s.sl with params := { s.sl.params with node := 3 } }
     let e : Listing := ⟨tablet, -281, true, 41⟩
     let f := { bulletin (.sighting [e]) with target := 3 }
     delivered 2 f peer (.sighting [e]) s ∧ 2 < s.sl.params.node) := by
  repeat' apply And.intro
  all_goals decide +kernel
theorem witness_ClaimsAreSent :
    (let c := { remote with better := 2 }
     let s := holding c
     let e : Listing := ⟨tablet, -281, false, 0⟩
     delivered 2 (bulletin (.sighting [e])) peer (.sighting [e]) s ∧ txWaits s = true ∧ acDraining s = false ∧
     isGroup e.addr = false ∧ entryOf s e.addr 0 c ∧ c.average = some ⟨-245, t10⟩ ∧
     4 * (s.sl.params.margin : Int) ≤ -245 - e.reading ∧ s.sl.params.k ≤ min (c.better + 1) 7 ∧
     servedCount s < s.sl.params.h ∧ acBusy s = false ∧ c.holddownEnds ≤ s.now ∧ peer.state = .present) ∧
    (let e : Listing := ⟨tablet, -281, false, 0⟩
     delivered 2 (bulletin (.sighting [e])) peer (.sighting [e]) (holding remote) ∧
     4 * ((holding remote).sl.params.margin : Int) ≤ -245 - e.reading ∧
     min (remote.better + 1) 7 < (holding remote).sl.params.k) ∧
    (let c := { remote with better := 7, holddownEnds := t10 + 1 }
     clientAt (holding c) 0 = some c ∧ (holding c).sl.params.k ≤ min (c.better + 1) 7 ∧
     (holding c).now < c.holddownEnds) ∧
    (let e : Listing := ⟨tablet, -268, false, 0⟩
     delivered 2 (bulletin (.sighting [e])) peer (.sighting [e]) (holding remote) ∧
     -245 - e.reading < 4 * ((holding remote).sl.params.margin : Int)) ∧
    (let e : Listing := ⟨tablet, -281, true, 41⟩
     let c := { remote with better := 2 }
     let r := readEntry 2 e.reading t10 (listedEntry 2 e c)
     delivered 2 (bulletin (.sighting [e])) peer (.sighting [e]) (holding c) ∧ e.tenure ≠ 0#16 ∧ c.role ≠ .served ∧
     c.role ≠ .handing ∧ r.role = .remote ∧ r.serving = 2 ∧ r.average = some ⟨-245, t10⟩ ∧ r.better = 2 ∧
     (let o := { entry .orphan 0 with average := some ⟨-245, t10⟩ }
      let q := readEntry 2 e.reading t10 (listedEntry 2 e o)
      entryOf (holding o) tablet 0 o ∧ q.role = .remote ∧ q.serving = 2 ∧ q.average = some ⟨-245, t10⟩)) ∧
    delivered 9 (bulletin (.offer tablet)) peer (.offer tablet) (holding remote) ∧
    entryOf (holding remote) tablet 0 remote ∧ findClient meshed tablet = none ∧
    delivered 9 (bulletin (.offer tablet)) peer (.offer tablet) meshed := by
  repeat' apply And.intro
  all_goals decide +kernel
theorem witness_ClaimAnsweredByTable31OrDraining :
    let b := Body.claim tablet 907 (-245)
    let at257 := { served with average := some ⟨-269, t10⟩ }
    let at256 := { served with average := some ⟨-268, t10⟩ }
    delivered 3 (bulletin b) peer b meshed ∧ findClient meshed tablet = none ∧
    delivered 3 (bulletin b) peer b (holding remote) ∧ entryOf (holding remote) tablet 0 remote ∧
    entryOf (holding handing) tablet 0 handing ∧
    (let c := { served with holddownEnds := t10 + 1 }
     entryOf (holding c) tablet 0 c ∧ (holding c).now < c.holddownEnds) ∧
    entryOf (holding at256) tablet 0 at256 ∧ -245 - (-268) < 4 * ((holding at256).sl.params.margin : Int) ∧
    entryOf (holding at257) tablet 0 at257 ∧ 4 * ((holding at257).sl.params.margin : Int) ≤ -245 - (-269) ∧
    (holding at257).rc.offers = [] ∧ txWaits (holding at257) = true ∧ acDraining (holding at257) = false ∧
    (let s := (holding at257).setBu { meshed.bu with peers := [(2, { peer with adv := { adv with leaving := true } })] }
     delivered 3 (bulletin b) { peer with adv := { adv with leaving := true } } b s) ∧
    (let s := (holding served).setAc { up.ac with state := .draining }
     delivered 3 (bulletin b) peer b s ∧ acDraining s = true ∧ entryOf s tablet 0 served) := by
  repeat' apply And.intro
  all_goals decide +kernel
theorem witness_AnswersToClaimsAreTaken :
    let g := Body.grant tablet 907
    let r := Body.refuse tablet 907 2
    let w := Body.withdraw tablet 907
    delivered 4 (bulletin g) peer g (holding claiming) ∧ entryOf (holding claiming) tablet 0 claiming ∧
    claiming.claimNo = some 907 ∧ claiming.serving = 2 ∧ entryOf (holding expecting) tablet 0 expecting ∧
    delivered 4 (bulletin g) peer g (holding expecting) ∧ entryOf (holding served) tablet 0 served ∧
    delivered 4 (bulletin g) peer g meshed ∧ findClient meshed tablet = none ∧
    delivered 4 (bulletin (.grant tablet 908)) peer (.grant tablet 908) (holding claiming) ∧
    delivered 5 (bulletin r) peer r (holding claiming) ∧ delivered 5 (bulletin r) peer r (holding served) ∧
    delivered 6 (bulletin w) peer w (holding handing) ∧ entryOf (holding handing) tablet 0 handing ∧
    handing.claimant = some 2 ∧ delivered 6 (bulletin w) peer w (holding served) ∧ txWaits (holding handing) = true ∧
    acDraining (holding handing) = false := by
  repeat' apply And.intro
  all_goals decide +kernel
theorem witness_ArrivedMovesClient :
    let b := Body.arrived tablet 42
    delivered 7 (bulletin b) peer b (holding handing) ∧ txWaits (holding handing) = true ∧
    acDraining (holding handing) = false ∧ entryOf (holding handing) tablet 0 handing ∧
    entryOf (holding expecting) tablet 0 expecting ∧ findClient meshed tablet = none ∧
    delivered 7 (bulletin b) peer b meshed ∧ delivered 7 (bulletin b) peer b (holding expecting) := by
  repeat' apply And.intro
  all_goals decide +kernel
theorem witness_ArrivedMovesClient_draining :
    let b := Body.arrived tablet 42
    let s := readied .draining 2 [(0, served)]
    let two := readied .draining 2 [(0, handing), (1, { served with addr := 2 })]
    delivered 7 { bulletin b with target := 3 } peer b s ∧ txWaits s = true ∧ acDraining s = true ∧ servedCount s = 1 ∧
    tabSorted s.rc.clients = true ∧ s.ie.incDesc = some image ∧ entryOf s tablet 0 served ∧
    delivered 7 { bulletin b with target := 3 } peer b two ∧ txWaits two = true ∧ acDraining two = true ∧
    servedCount two = 2 ∧ tabSorted two.rc.clients = true ∧ entryOf two tablet 0 handing ∧
    (let mixed := readied .draining 2 [(0, remote), (1, { served with addr := 2 })]
     delivered 7 { bulletin b with target := 3 } peer b mixed ∧ txWaits mixed = true ∧ acDraining mixed = true ∧
     servedCount mixed ≠ 0 ∧ entryOf mixed tablet 0 remote) := by
  repeat' apply And.intro
  all_goals decide +kernel
theorem witness_ContextMergesCounters :
    let b := Body.context tablet 41 15 6 1440 240
    let late := Body.context tablet 41 15 6 1441 240
    delivered 8 (bulletin b) peer b (holding served) ∧ entryOf (holding served) tablet 0 served ∧
    isServing served.role = true ∧ served.tenure = 41#16 ∧ delivered 8 (bulletin late) peer late (holding served) ∧
    delivered 8 (bulletin b) peer b meshed ∧ findClient meshed tablet = none ∧ isServing remote.role = false ∧
    delivered 8 (bulletin b) peer b (holding remote) := by
  repeat' apply And.intro
  all_goals decide +kernel

/-- A carried frame of 14 bytes for node 1, its destination address the tablet's. -/
def carried : CarriedFrame :=
  { srcAddr := peer.addr, frameType := 0x88B5, meshTag := 0, source := 2, dest := 1, cls := 1, flags := 0, frameLen := 14,
    bytes := addrBytes tablet ++ List.replicate 8 0#8 }

theorem witness_ForeignStaleClashingFrames_carried : alive meshed = true ∧
    fromMesh carried.frameType carried.meshTag carried.source carried.dest meshed = true ∧
    carried.cls.toNat ≤ 2 ∧ { carried with cls := 2 }.cls.toNat ≤ 2 ∧ 2 < { carried with cls := 3 }.cls.toNat ∧
    14 ≤ carried.frameLen.toNat ∧ carried.frameLen.toNat ≤ carried.bytes.length ∧ carried.bytes.length < { carried with frameLen := 15 }.frameLen.toNat ∧
    peerOf meshed carried.source.toNat = some peer ∧ peer.addr ≠ { carried with srcAddr := 5 }.srcAddr ∧
    peer.addr = carried.srcAddr ∧ { carried with dest := 3 }.dest.toNat ≠ meshed.sl.params.node ∧
    (let own := { carried with source := 1, dest := 0 }
     own.source.toNat = meshed.sl.params.node ∧ own.dest ≠ own.source) := by decide +kernel

theorem witness_CarriedFrameGoesByRole :
    (∀ r ∈ [Role.served, .handing, .remote, .claiming, .expecting, .orphan, .departed],
      let s := holding (entry r 2)
      live s = true ∧ txWaits s = true ∧ s.es.nodeTx.isSome = true ∧ peerOf s 2 = some peer ∧
      fromMesh carried.frameType carried.meshTag carried.source carried.dest s = true ∧ peer.addr = carried.srcAddr ∧
      carried.dest.toNat = s.sl.params.node ∧ (carrierClass carried.cls).isSome = true ∧ 14 ≤ carried.frameLen.toNat ∧
      carried.frameLen.toNat ≤ carried.bytes.length ∧
      findClient s (addrAt 0 (carried.bytes.take 14)) = some (0, entry r 2)) ∧
    findClient meshed (addrAt 0 (carried.bytes.take 14)) = none ∧ carried.flags.getLsbD 0 = false ∧
    { carried with flags := 1 }.flags.getLsbD 0 = true ∧
    findClient (holding { served with verdict := some .blocked }) (addrAt 0 (carried.bytes.take 14)) =
      some (0, { served with verdict := some .blocked }) := by
  decide +kernel
theorem witness_PauseHoldsTheTransmitter : alive up = true ∧ up.es.backhaulTx.isSome = true ∧ up.es.pause = none ∧
    (5#48 : Addr) ≠ 0x0180C2000001#48 ∧ (65535#16 : BitVec 16) ≠ 0#16 ∧
    (up.setEs { up.es with pause := some (t10 + 512) }).es.pause = some (t10 + 512) ∧
    (let s := up.setEs { up.es with backhaulTx := none, pause := some (t10 + 512) }
     s.es.backhaulTx = none ∧ s.sl.part = .running ∧ s.es.pause = some (t10 + 512) ∧ s.bu.control = [] ∧ s.es.game = [] ∧
     s.es.standard = [] ∧ s.es.bulk = [] ∧ s.es.update = [] ∧
     (s.setBu { s.bu with control := [.bulletin 0 (.sighting [])] }).bu.control = .bulletin 0 (.sighting []) :: []) := by
  decide +kernel

/-- Node 1 with image 8 active, another flash operation at work. -/
def serving : State := meshed.setIe { meshed.ie with activeDesc := some image, op := some .imageRead }

theorem witness_FetchJoinsServeQueue :
    let f := Body.fetch 8 0 1 3
    let other := Body.fetch 9 0 1 3
    delivered 10 (bulletin f) peer f serving ∧ serving.ie.activeDesc = some image ∧ image.number = 8 ∧
    1 ≤ (image.length + 1023) / 1024 ∧
    (let s := filling.setIe { filling.ie with inc := .ready }
     delivered 10 (bulletin f) peer f s ∧ s.ie.activeDesc = none ∧ s.ie.inc = .ready ∧ s.ie.incDesc = some image) ∧
    serving.ie.serves.length < 8 ∧ serving.ie.op.isSome = true ∧ delivered 10 (bulletin other) peer other serving ∧
    serving.ie.inc = .empty ∧ image.number ≠ 9 ∧ delivered 10 (bulletin (.fetch 8 0 0 3)) peer (.fetch 8 0 0 3) serving ∧
    delivered 10 (bulletin (.fetch 8 1 1 3)) peer (.fetch 8 1 1 3) serving ∧ (image.length + 1023) / 1024 < 1 + 1 := by
  repeat' apply And.intro
  all_goals decide +kernel
theorem witness_ChunkAcceptedIntoProgramQueue :
    let b := Body.chunk 8 0 0 0 0x352441C2 [0x61#8, 0x62#8, 0x63#8]
    let s := filling.setIe { filling.ie with presence := [], progs := [] }
    delivered 11 (bulletin b) peer b s ∧ txWaits s = true ∧ s.ie.inc = .filling ∧ s.ie.incDesc = some image ∧
    0 < chunkCount image.length ∧ 3 = chunkBytes image.length 0 ∧ crc32 [0x61#8, 0x62#8, 0x63#8] = 0x352441C2 ∧
    tabGet s.ie.presence 0 = none ∧ s.pins.supplyFail = false ∧ s.ie.progs.length < 4 ∧
    delivered 11 (bulletin b) peer b filling ∧ tabGet filling.ie.presence 0 = some .awaiting ∧
    (s.ie.fetches.map Fetch.number).Nodup ∧ s.ie.fetches = [] ∧
    (let g : Fetch := ⟨0, 2, 0, 2, [], t10⟩
     let w := s.setIe { s.ie with fetches := [⟨9, 3, 5, 1, [], t10⟩, g], presence := [(0, .requested), (1, .requested)] }
     (w.ie.fetches.map Fetch.number).Nodup ∧ w.ie.fetches = [⟨9, 3, 5, 1, [], t10⟩] ++ g :: [] ∧ g.peer = 2 ∧
     g.number = 0#16 ∧ g.first ≤ 0 ∧ 0 < g.first + g.count ∧ tabGet w.ie.presence 1 = some .requested ∧
     (g.received ++ [0]).length ≠ g.count ∧ (g.received ++ [0]).length = { g with count := 1 }.count ∧
     w.ie.inc = .filling ∧ delivered 11 (bulletin b) peer b w) := by
  repeat' apply And.intro
  all_goals decide +kernel

/-- An IPv4 frame from the tablet, UDP 50000 to 3074, as a node item whose subject is its source. -/
def ipItem : NodeItem :=
  let b := addrBytes 0x020000000099#48 ++ addrBytes tablet ++ toBE 2 0x0800 ++ [0x45#8, 0#8] ++ toBE 2 28 ++
    [0#8, 0#8, 0#8, 0#8, 64#8, 17#8, 0#8, 0#8] ++ toBE 4 5 ++ toBE 4 9 ++ toBE 2 50000 ++ toBE 2 3074 ++ [0#8, 8#8, 0#8, 0#8]
  { kind := 1, flags := 0, origin := 0, sample := 0, pairs := 0, bodyLen := BitVec.ofNat 16 b.length, bytes := b }

/-- Node 2 is the uplink node. -/
def uplinked (s : State) : State := s.setBu { s.bu with peers := [(2, { peer with adv := { adv with uplink := true } })] }

theorem witness_DataItemClassifiedAndQueued :
    let s := uplinked (holding served)
    live s = true ∧ txWaits s = true ∧ s.es.nodeTx.isSome = true ∧ dataItemOk ipItem = true ∧
    itemHasSample ipItem = false ∧ itemToClient ipItem = false ∧ itemSubject ipItem = tablet ∧
    (readFrame ipItem.bytes).isSome = true ∧ isBlocked tablet s = false ∧
    findClient s tablet = some (0, served) ∧ flowRole served.role = true ∧ tabFree s.fc.flows 512 = some 0 ∧
    ((readFrame ipItem.bytes).all (fun info =>
      let key := flowKey tablet (itemSubjectDest ipItem) info
      let fl : Flow := { key := key, cls := .game, demoted := false, client := 0, bytes := 0, lastSeen := 0 }
      ([(0, fl)].find? (fun e => e.2.key == key)).isSome)) = true ∧
    (let it := { ipItem with bytes := ipItem.bytes.take 12 ++ List.replicate 52 0#8, bodyLen := 64 }
     dataItemOk it = true ∧ itemHasSample it = false ∧ itemToClient it = false ∧ readFrame it.bytes = none) ∧
    findClient up tablet = none ∧ up.rc.noUplink = none ∧ dataItemOk { ipItem with bodyLen := 13 } = false ∧
    (let it := { ipItem with flags := 4, sample := 0xB0 }
     dataItemOk it = true ∧ itemHasSample it = true ∧ it.origin = 0#8 ∧ entryOf s (itemSubject it) 0 served ∧
     dataItemOk { it with origin := 1 } = true ∧ { it with origin := 1 }.origin ≠ 0#8) ∧
    (let it := { ipItem with flags := 1 }
     dataItemOk it = true ∧ itemHasSample it = false ∧ itemToClient it = true) ∧
    (let c := { served with verdict := some .blocked }
     entryOf (uplinked (holding c)) (itemSubject ipItem) 0 c ∧ isBlocked tablet (uplinked (holding c)) = true) ∧
    (∀ r ∈ [Role.served, .handing, .remote, .claiming, .expecting, .orphan, .departed],
      let c := entry r 2
      findClient (uplinked (holding c)) (itemSubject ipItem) = some (0, c) ∧ clientAt (uplinked (holding c)) 0 = some c ∧
      isBlocked tablet (uplinked (holding c)) = false) ∧
    (uplinked up).fc.flows = [] ∧ findClient (uplinked up) (itemSubject ipItem) = none ∧
    (let p := { peer with adv := { adv with uplink := true } }
     peerOf s 2 = some p ∧ p.state = .present ∧ p.adv.uplink = true) ∧ peerOf s 1 = none ∧ up.sl.params.uplink = false ∧
    alive scanning = true ∧ scanning.sl.part ≠ .running ∧
    (let w := up.setEs { up.es with backhaulTx := none, nodeTx := none }
     live w = true ∧ w.es.backhaulTx = none ∧ w.es.pause = none ∧ w.bu.control = [] ∧
     (∀ c ∈ [Machine.Class.game, .standard, .bulk, .update], w.es.queue (queueName c) = []) ∧ w.es.nodeTx = none ∧
     w.es.node = []) := by
  repeat' apply And.intro
  all_goals decide +kernel
theorem witness_SamplesMoveTheAverage :
    let it : NodeItem := { kind := 2, flags := 0, origin := 0, sample := 0, pairs := 1, bodyLen := 7
                           bytes := addrBytes tablet ++ [0x88#8] }
    samplesItemOk it = true ∧ live (holding remote) = true ∧ entryOf (holding remote) tablet 0 remote ∧
    entryOf (holding served) tablet 0 served ∧ served.average = none ∧ findClient up tablet = none ∧ live up = true ∧
    samplesItemOk { it with pairs := 0 } = false ∧ (-400 : Int) ≤ -400 ∧ (-40 : Int) ≤ -40 ∧
    (let two : NodeItem := { it with pairs := 2, bodyLen := 14, bytes := it.bytes ++ it.bytes }
     let one : NodeItem := { two with pairs := 1#8, bodyLen := 7#16, bytes := two.bytes.take 7 }
     samplesItemOk two = true ∧ 2 ≤ two.pairs.toNat ∧
     goesOn ((holding remote).setPending [.nodePortSamples one]) = true) := by
  repeat' apply And.intro
  all_goals decide +kernel

/-- Node 1 with a SIGHTING waiting, and a GAME frame and a node-side frame queued. -/
def loaded : State :=
  let e : Es := { up.es with
    game := [mkEntry 900 .game (.carried 2 false [])]
    node := [mkEntry 300 .game (.nodeSide true [])]
    tokens := ⟨1, 0, 0, 0⟩ }
  (meshed.setEs e).setBu { meshed.bu with control := [.bulletin 0 (.sighting [])] }

theorem witness_TransmittersTakeTheNextEntry : live loaded = true ∧ loaded.es.backhaulTx = some ⟨[], t10⟩ ∧
    loaded.es.pause = none ∧ loaded.bu.control = [.bulletin 0 (.sighting [])] ∧
    (loaded.setBu { loaded.bu with control := [] }).bu.control = [] ∧
    (loaded.setBu { loaded.bu with control := [.pulse false] }).bu.control = .pulse false :: [] ∧
    loaded.es.game = [mkEntry 900 .game (.carried 2 false [])] ∧ 0 < loaded.es.tokens.game ∧
    loaded.es.nodeTx = some ⟨[], t10⟩ ∧ loaded.es.node = [mkEntry 300 .game (.nodeSide true [])] ∧ up.bu.control = [] ∧
    up.es.game = [] ∧ up.es.standard = [] ∧ up.es.bulk = [] ∧ up.es.update = [] ∧ up.es.node = [] ∧
    (let x := mkEntry 100 .bulk (.carried 2 false [])
     let y := mkEntry 40 .update (.chunk 2 (.chunk 8 0 3 0 5 []))
     let s := up.setEs { up.es with bulk := [x], update := [y], tokens := ⟨0, 0, 1, 1⟩ }
     s.es.pause = none ∧ s.bu.control = [] ∧ s.es.queue .game = [] ∧ s.es.pointer = .standard ∧ s.es.queue .standard = [] ∧
     s.es.queue .bulk = [x] ∧ 0 < s.es.tokens.at .bulk ∧
     (let u := s.setEs { s.es with pointer := .bulk, tokens := ⟨0, 0, 0, 1⟩ }
      u.es.tokens.at .bulk ≤ 0 ∧ u.es.queue .update = [y] ∧ 0 < u.es.tokens.at .update ∧
      (u.setEs { u.es with tokens := IntQuad.zero }).es.tokens.at .update ≤ 0) ∧
     (s.setEs { s.es with pointer := .update }).es.pointer = .update) := by decide +kernel
theorem witness_EpochEdgeOnTimedPulse :
    let s := meshed.setBu { meshed.bu with control := [.pulse true] }
    live s = true ∧ s.es.backhaulTx = some ⟨[], t10⟩ ∧ s.es.pause = none ∧ s.bu.control = [.pulse true] ∧
    peerOf s 2 = some peer ∧ { peer with heard := false }.adv.period ≤ s.sl.params.pulsePeriod ∧
    (∀ p ∈ [{ peer with state := .joining, run := 2 }, { peer with state := .joining, run := 1 },
       { peer with heard := false, quiet := 6 }, { peer with heard := false, quiet := 7 },
       { peer with state := .joining, heard := false, quiet := 7 }, { peer with state := .silent, heard := false, quiet := 118 },
       { peer with state := .silent, heard := false, quiet := 119 }],
      peerOf (s.setBu { s.bu with peers := [(2, p)] }) 2 = some p) ∧ s.ac.state ≠ .wanting ∧ up.rc.clients = [] ∧
    (holding remote).rc.clients = [(0, remote)] ∧ remote.role = .remote ∧ remote.serving = 2 ∧
    (holding handing).rc.clients = [(0, handing)] ∧ handing.role = .handing ∧ handing.claimant = some 2 := by decide +kernel
theorem witness_EpochEdgeOnTimedPulse_drainSlot :
    (∀ count ∈ [2, 3], ∀ clients ∈ [([] : Table Client), [(0, { served with best := some ⟨2, -281, t10⟩ })]],
      ∀ wanted ∈ [false, true],
      let q : Peer := { peer with adv := { adv with drainWanted := wanted } }
      let w := readied .wanting count clients
      let s := w.setBu { w.bu with control := [.pulse true], peers := [(2, q)] }
      live s = true ∧ s.es.backhaulTx = some ⟨[], t10⟩ ∧ s.es.pause = none ∧ s.bu.control = .pulse true :: [] ∧
      s.ac.state = .wanting ∧ s.ac.count = count ∧ (servedCount s = 0 ↔ clients = []) ∧ s.ie.incDesc = some image ∧
      tabSorted s.rc.clients = true ∧ s.rc.offers = [] ∧ s.rc.lapsed = [] ∧ peerOf s 2 = some q ∧ q.state = .present ∧
      q.heard = true ∧ acDraining s = false ∧
      (peerOf (after .backhaulTxDone s) 2).map Peer.adv = some q.adv ∧ 2 < s.sl.params.node) := by
  decide +kernel
theorem witness_PulseAndSightingTimersQueueBulletins :
    let s := (holding remote).setBu { meshed.bu with pulseTimer := some t10, sightTimer := some t10 }
    live s = true ∧ txWaits s = true ∧ s.bu.pulseTimer = some t10 ∧ s.bu.sightTimer = some t10 ∧
    s.bu.control.any isPulse = false ∧ (sightingList s).length = 1 ∧ sightingList (holding served) = [] ∧
    up.bu.pulseTimer = none ∧ up.bu.sightTimer = none ∧ [Control.pulse false] = [] ++ .pulse false :: [] ∧
    s.sl.nextPulse = none ∧ (s.setSl { s.sl with nextPulse := some 30 }).sl.nextPulse = some 30 ∧
    s.bu.peers = [(2, peer)] ∧ peer.mismatch = false ∧ peer.adv.period ≠ 30 ∧
    (let l := sightingList (s.setRc { s.rc with clients := (List.range 256).map (fun k => (k, remote)) })
     48 * 5 < l.length ∧ l.length ≤ 48 * (5 + 1)) := by
  decide +kernel
theorem witness_SampleAgeLapsesTheAverage : alive (holding remote) = true ∧ clientAt (holding remote) 0 = some remote ∧
    remote.average = some ⟨-245, t10⟩ ∧ (clientAt (holding served) 0).bind Client.average = none ∧
    (let c := { remote with average := none }
     clientAt (holding c) 0 = some c ∧ c.role = .remote ∧ c.serving = 2 ∧ c.servingReading.isSome = true) := by
  decide +kernel
theorem witness_TimersEndWhatTheyTime :
    let c := { remote with best := some ⟨2, -281, t10⟩ }
    clientAt (holding c) 0 = some c ∧ clientAt (holding c) 1 = none ∧ served.best = none ∧ served.servingReading = none ∧
    tabGet (up.setBu { up.bu with clash := [(8, t10)] }).bu.clash 8 = some t10 ∧ up.rc.noUplink = none ∧
    (up.setRc { up.rc with noUplink := some t10 }).rc.noUplink = some t10 ∧
    clientAt (holding claiming) 0 = some claiming ∧ claiming.timer = some (t10 + 300000000) ∧
    clientAt (holding expecting) 0 = some expecting ∧ expecting.timer = some (t10 + 300000000) ∧
    (let o := { entry .orphan 0 with timer := some t10 }
     clientAt (holding o) 0 = some o ∧ o.role = .orphan) := by decide +kernel
theorem witness_HandWaitOfHandingEntryExpires : alive (holding handing) = true ∧ clientAt (holding handing) 0 = some handing ∧
    handing.role = .handing ∧ handing.timer = some (t10 + 5000000000) ∧ handing.claimant = some 2 ∧
    txWaits (holding handing) = true ∧ acDraining (holding handing) = false ∧
    acDraining ((holding handing).setAc { up.ac with state := .draining }) = true := by decide +kernel
theorem witness_FlowAndQuietTimersLookAtConditions :
    let fl : Flow := { key := ⟨tablet, 4, .udp, 9, 3074, 50000⟩, cls := .game, demoted := false, client := 0, bytes := 0,
                       lastSeen := t10 }
    let c := { served with games := 1 }
    let s := (holding c).setFc { up.fc with flows := [(511, fl)], gameCount := 1 }
    live s = true ∧ tabGet s.fc.flows 511 = some fl ∧ fl.cls = .game ∧ s.fc.gameCount = 1 ∧
    clientAt s fl.client = some c ∧ up.fc.quietSince = none ∧
    (up.setFc { up.fc with quietSince := some t10 }).fc.quietSince = some t10 ∧ alive up = true ∧
    (up.setAc { up.ac with state := .wanting }).ac.state = .wanting ∧
    (up.setAc { up.ac with state := .waiting }).ac.state = .waiting := by decide +kernel
theorem witness_DrainTimersEndTheirStates :
    let s := (holding served).setRc { (holding served).rc with offers := [⟨0, 2, t10⟩] }
    alive s = true ∧ s.rc.offers.find? (fun o => o.client == 0) = some ⟨0, 2, t10⟩ ∧
    s.rc.offers.find? (fun o => o.client == 1) = none ∧ txWaits s = true ∧ acDraining s = false ∧
    (let d := up.setAc { up.ac with state := .draining, drainTimer := some t10 }
     alive d = true ∧ d.ac.drainTimer = some t10 ∧ d.ac.state = .draining) ∧
    (let d := up.setAc { up.ac with state := .leaving, lapseTimer := some t10 }
     alive d = true ∧ d.ac.lapseTimer = some t10 ∧ d.ac.state = .leaving) ∧ up.ac.drainTimer = none ∧
    (let c := { served with best := some ⟨2, -281, t10⟩ }
     let d := (s.setRc { s.rc with clients := [(0, c), (1, { c with addr := 5 })] }).setAc { up.ac with state := .draining }
     clientAt d 0 = some c ∧ c.best = some ⟨2, -281, t10⟩ ∧ t10 ≤ max d.now t10 ∧ d.ac.state = .draining ∧
     alive d = true ∧ txWaits d = true ∧ tabSorted d.rc.clients = true ∧
     d.rc.offers.find? (fun o => o.client == 0) = some ⟨0, 2, t10⟩) := by decide +kernel

/-- Node 1, not FILLING, with one fetch and one skip timer. -/
def fetching : State := meshed.setIe { meshed.ie with
  fetches := [⟨3, 2, 0, 2, [0], t10⟩], presence := [(0, .awaiting), (1, .requested)], strikes := [(2, 2)], skips := [(3, t10)] }

theorem witness_FetchAndSkipTimersStrikePeers : alive fetching = true ∧ txWaits fetching = true ∧
    fetching.ie.inc ≠ .filling ∧ fetching.ie.fetches.find? (fun f => f.number == 3) = some ⟨3, 2, 0, 2, [0], t10⟩ ∧
    fetching.ie.fetches.find? (fun f => f.number == 4) = none ∧ 2 ≤ (tabGet fetching.ie.strikes 2).getD 0 ∧
    (tabGet meshed.ie.strikes 2).getD 0 < 2 ∧ tabGet fetching.ie.skips 3 = some t10 ∧ tabGet fetching.ie.skips 2 = none ∧
    (let s := (fetching.setIe { fetching.ie with inc := .filling, incDesc := some image, strikes := [] }).setBu
       { meshed.bu with peers := [(2, { peer with adv := { adv with activeImage := 8 } })] }
     alive s = true ∧ txWaits s = true ∧ s.ie.inc = .filling ∧ s.pins.supplyFail = false ∧ s.ie.incDesc = some image ∧
     s.ie.fetches.find? (fun f => f.number == 3) = some ⟨3, 2, 0, 2, [0], t10⟩ ∧ tabGet s.ie.skips 3 = some t10 ∧
     fetchEligible s image 2 = true ∧ (peerOf s 2).map Peer.state = some .present ∧ tabGet s.ie.skips 2 = none) := by
  decide +kernel
theorem witness_MinuteTickCountsAndRolls :
    let s := evening 10079 89 0 0 .allowed
    alive s = true ∧ s.su.clock.grade ≠ .unset ∧ up.su.clock.grade = .unset ∧ s.su.clock.minute = 10079 ∧
    (after .minuteTick s).su.clock.minute / 1440 ≠ s.su.clock.minute / 1440 ∧
    (let e := evening 2697 89 0 0 .allowed
     (after .minuteTick e).su.clock.minute / 1440 = e.su.clock.minute / 1440 ∧ inWindow school .closed 2697 = false ∧
     budgetSpent school 89 = false ∧ budgetSpent school 90 = true ∧ inWindow school .closed 2700 = true) := by
  decide +kernel
theorem witness_MinuteTickCountsAndRolls_edges :
    (let e := evening 2697 89 0 0 .allowed
     let t := after .minuteTick e
     tabSorted e.rc.clients = true ∧ clientAt e 0 = some { served with
       profile := 3, day := 1, used := 89, active := true, verdict := some .allowed } ∧ clientAt e 1 = none ∧
     (profileOf t 3).closed = none ∧ (clientAt t 0).bind Client.verdict = some .blocked) ∧
    (∀ a ∈ [(AcState.waiting, true), (.wanting, false)],
      let w := readied a.1 2 [(0, served)]
      let s := { w with su := { w.su with profiles := if a.2 then [(0, { Profile.blank with
        record := { windows := [⟨0x7F#8, 0, 1440, .maintenance⟩], budget := 0, strict := false } })] else [] } }
      s.ac.state = a.1 ∧ activationOk (after .minuteTick s) = a.2) := by decide +kernel

def snapshot : Snapshot :=
  { epoch := 1, self := 1, params := ⟨2930, 40, 8, 4, 1⟩, parts := [⟨1, ⟨10, 20, 0, 5⟩, false, 0⟩], excluded := [] }

theorem witness_ShareComputationStagesItsGrants :
    let s := up.setSc { up.sc with inFlight := true, snapshot := some snapshot }
    alive s = true ∧ s.sc.inFlight = true ∧ s.sc.snapshot = some snapshot ∧ up.sc.inFlight = false := by decide
theorem witness_ShareStaysWithinCapacity : snapshot.params.gc ≤ 100 ∧
    snapshot.parts.find? (fun x => x.node == snapshot.self) = some ⟨1, ⟨10, 20, 0, 5⟩, false, 0⟩ ∧
    ((shareCompute snapshot).gameGrants.find? (fun x => x.1 == snapshot.self)).isSome = true ∧
    (let s := up.setSc { up.sc with inFlight := true, snapshot := some snapshot }
     alive s = true ∧ s.sc.inFlight = true ∧ s.sc.snapshot = some snapshot) := by decide
theorem witness_SupplyFailEdgesRaiseEvents : up.pins.supplyFail = false ∧ alive up = true ∧ txWaits up = true ∧
    running up = true ∧ up.bu.control.any isPulse = false ∧ held.pins.powered = true ∧ held.pins.resetHeld = true ∧
    held.pins.supplyFail = false ∧ (held.setPins { held.pins with supplyFail := true }).pins.supplyFail = true ∧
    (up.setPins { up.pins with powered := false }).pins.powered = false ∧
    (let s := filling.setIe { filling.ie with progs := filling.ie.progs ++ [⟨1, [], true⟩] }
     s.pins.supplyFail = false ∧ alive s = true ∧ txWaits s = true ∧ (s.ie.progs.drop 1).any Prog.host = true) ∧
    (let s := serving.setPins { up.pins with supplyFail := true }
     s.pins.supplyFail = true ∧ alive s = true ∧ txWaits s = true ∧ s.ie.op.isSome = true ∧ s.ie.inc ≠ .filling ∧
     (let u := s.setIe { s.ie with op := none, headers := [.mark .b .ready] }
      u.ie.op = none ∧ u.ie.headers = .mark .b .ready :: [] ∧ u.ie.inc ≠ .filling)) := by
  decide +kernel
theorem witness_SupplyFailEdgesRaiseEvents_resumes :
    let s := meshed.setPins { up.pins with supplyFail := true }
    let f := { meshed.ie with inc := .filling, incDesc := some image }
    (∀ e ∈ [{ meshed.ie with headers := [.mark .b .ready] }, { meshed.ie with progs := filling.ie.progs },
        { meshed.ie with imageRead := some ⟨0, 1, []⟩ }, { meshed.ie with check := some ⟨0, 0⟩ },
        { meshed.ie with erase := some 0 }, meshed.ie, f, { f with progs := filling.ie.progs, presence := [(0, .awaiting)] }],
      let u := s.setIe e
      u.pins.supplyFail = true ∧ alive u = true ∧ txWaits u = true ∧ u.ie.op = none ∧ u.ie.serves = []) ∧
    f.inc = .filling ∧ f.incDesc = some image ∧ meshed.ie.inc ≠ .filling ∧
    (let q := s.setIe { serving.ie with op := none, serves := [⟨2, 8, 0, 1, 3, 0⟩] }
     q.ie.op = none ∧ (servable q 8).isSome = true) := by decide +kernel

theorem witness_ChunkProgramEndsPresentOrFaulted_waiting :
    let p : Prog := ⟨0, [0x61#8, 0x62#8, 0x63#8], false⟩
    alive waiting = true ∧ txWaits waiting = true ∧ waiting.ie.op = some (.chunk .b 0 p true) ∧
    waiting.ie.resetWaits = true ∧ waiting.ie.inc = .filling ∧ waiting.ml.state = .pending ∧ waiting.ml.code = 25 ∧
    waiting.ac.state ≠ .swapping ∧ waiting.ac.state ≠ .swapped ∧ waiting.pins.supplyFail = false ∧
    waiting.ie.headers = [] ∧ 0 ∉ waiting.ie.tally ∧ (waiting.flash.header (incSlot waiting)).erasing = false ∧
    ([0x61#8] : List Byte) ≠ p.data ∧ filling.ie.resetWaits = false := by decide +kernel
theorem witness_ChunkProgramEndsPresentOrFaulted :
    let p : Prog := ⟨0, [0x61#8, 0x62#8, 0x63#8], false⟩
    alive filling = true ∧ txWaits filling = true ∧ filling.ie.op = some (.chunk .b 0 p true) ∧ filling.ie.progs = [p] ∧
    filling.ie.inc = .filling ∧ tabSorted filling.ie.presence = true ∧ tabGet filling.ie.presence 0 = some .awaiting ∧
    heldCount filling + 1 = chunkCount image.length ∧ 0 ∉ filling.ie.tally ∧
    (let s := filling.setIe { filling.ie with tally := [0] }
     0 ∈ s.ie.tally ∧ (∀ e ∈ s.ie.incRemap, e.2 ≠ 0)) ∧
    (let s := filling.setIe { filling.ie with tally := [0], incRemap := (List.range 16).map (fun k => (0, k)) }
     0 ∈ s.ie.tally ∧ (∀ j < 16, ∃ e ∈ s.ie.incRemap, e.2 = j) ∧ s.ie.incDesc = some image) ∧
    ([0x61#8] : List Byte) ≠ p.data ∧ up.ie.op = none ∧
    (filling.setIe { filling.ie with op := some (.chunk .b 0 p false) }).ie.op = some (.chunk .b 0 p false) := by
  decide +kernel
theorem witness_HeaderProgramsAndErasesEnd :
    let s := filling.setIe { filling.ie with op := some (.header (.mark .b (.fill image))) }
    alive s = true ∧ txWaits s = true ∧ s.ie.op = some (.header (.mark .b (.fill image))) ∧
    isSwapMark (.fill image) = false ∧ up.ie.op = none ∧
    (∀ m ∈ [Mark.reject image, .ready, .erasing, .remap 0 15], isSwapMark m = false ∧
      (s.setIe { s.ie with op := some (.header (.mark .b m)) }).ie.op = some (.header (.mark .b m))) ∧
    (∀ b ∈ [0, 271, 272], (s.setIe { s.ie with op := some (.erase .b b) }).ie.op = some (.erase .b b)) ∧
    up.ie.after = .nothing ∧ (s.setIe { s.ie with after := .image image }).ie.after = .image image ∧
    up.pins.supplyFail = false ∧ up.ie.headers = [] := by decide +kernel
theorem witness_FlashReadsCheckServeAndAnswer :
    (let s := filling.setIe { filling.ie with inc := .checking, progs := [], check := some ⟨0, 0xFFFFFFFF#32⟩
                                              op := some (.checkRead 0) }
     alive s = true ∧ txWaits s = true ∧ s.ie.op = some (.checkRead 0) ∧ s.ac.state ≠ .draining ∧ s.ie.inc = .checking ∧
     (s.setAc { s.ac with state := .wanting }).ac.state = .wanting ∧ (s.setIe { s.ie with check := none }).ie.check = none ∧
     s.ie.incDesc = some image ∧ s.ie.check = some ⟨0, 0xFFFFFFFF#32⟩ ∧ chunkCount image.length ≤ 0 + 1 ∧ image.failed < 2) ∧
    (let e : Serve := ⟨2, 8, 0, 1, 3, 0⟩
     let s := serving.setIe { serving.ie with serves := [e], op := some (.serveRead e) }
     live s = true ∧ txWaits s = true ∧ s.ie.op = some (.serveRead e) ∧ s.ie.serves = [e] ∧
     servable s e.image = some (.a, [], image)) ∧
    requestTaken (lenIs 6) (submit (toBE 4 0 ++ toBE 2 3)) serving ∧ serving.ie.activeDesc = some image ∧
    field 0 4 (submitArgs (submit (toBE 4 0 ++ toBE 2 3))) + field 4 2 (submitArgs (submit (toBE 4 0 ++ toBE 2 3))) ≤
      image.length ∧ activeNumber up = 0 ∧ requestTaken (lenIs 6) (submit (toBE 4 1 ++ toBE 2 3)) serving ∧
    (let s := serving.setIe { serving.ie with imageRead := some ⟨0, 3, []⟩ }
     alive s = true ∧ s.ie.op = some .imageRead ∧ s.ie.imageRead = some ⟨0, 3, []⟩) ∧ up.ie.op ≠ some .imageRead := by
  repeat' apply And.intro
  all_goals decide +kernel

theorem witness_ActivationAndSwapRequests :
    let x := submit []
    let at' := fun a : AcState => up.setAc { up.ac with state := a }
    (∀ a ∈ [AcState.idle, .waiting, .wanting, .draining, .leaving, .swapping, .swapped],
      alive (at' a) = true ∧ (at' a).ml.state ≠ .pending ∧ (at' a).sl.part ≠ .starting ∧ submitWhole x = true ∧
      submitLen x ≤ 1040 ∧ lenIs 0 (submitArgs x) = true ∧ (at' a).ac.state = a) ∧
    (let h : Header := { Header.blank with activeCount := some 4294967295 }
     ((at' .leaving).setFlash { up.flash with headerA := h }).flash.headerA.activeCount = some 4294967295) ∧
    (let s := up.setIe { up.ie with op := some (.header (.mark .b (.active 1))) }
     alive s = true ∧ txWaits s = true ∧ s.ie.op = some (.header (.mark .b (.active 1)))) ∧
    (let s := up.setIe { up.ie with op := some (.header (.mark .a .retired)) }
     txWaits s = true ∧ acDraining s = false ∧ s.ie.op = some (.header (.mark s.ie.activeSlot .retired))) := by
  decide +kernel
theorem witness_ImageBeginAndImageChunk :
    (let x := submit (toBE 4 8 ++ toBE 4 16777216 ++ toBE 4 0)
     requestTaken (lenIs 12) x up ∧ txWaits up = true ∧ openImage up = none ∧ acQuiet up = true ∧
     conflicts (heldIncoming up) 8 16777216 0 = false ∧ conflicts up.ie.activeDesc 8 16777216 0 = false) ∧
    (let x := submit (toBE 4 8 ++ toBE 4 3 ++ toBE 4 0x352441C2)
     requestTaken (lenIs 12) x filling ∧ openImage filling = some image) ∧
    requestTaken (lenIs 12) (submit (toBE 4 8 ++ toBE 4 4 ++ toBE 4 0)) filling ∧
    requestTaken (lenIs 12) (submit (toBE 4 0 ++ toBE 4 3 ++ toBE 4 0)) up ∧
    requestTaken (lenIs 12) (submit (toBE 4 8 ++ toBE 4 16777217 ++ toBE 4 0)) up ∧
    requestTaken (lenIs 12) (submit (toBE 4 8 ++ toBE 4 3 ++ toBE 4 0)) (up.setAc { up.ac with state := .wanting }) ∧
    acQuiet (up.setAc { up.ac with state := .wanting }) = false ∧
    (let x := submit (toBE 4 8 ++ toBE 2 0 ++ toBE 4 0x352441C2 ++ [0x61#8, 0x62#8, 0x63#8])
     let s := filling.setIe { filling.ie with presence := [], progs := [] }
     requestTaken chunkLenOk x s ∧ s.ie.incDesc = some image ∧ s.ie.inc = .filling ∧ field 0 4 (submitArgs x) = 8 ∧
     field 4 2 (submitArgs x) < chunkCount image.length ∧ crc32 ((submitArgs x).drop 10) = field 6 4 (submitArgs x) ∧
     ((submitArgs x).drop 10).length = image.length ∧ requestTaken chunkLenOk x filling ∧
     tabGet filling.ie.presence 0 = some .awaiting ∧ requestTaken chunkLenOk x up ∧ up.ie.incDesc = none ∧
     requestTaken chunkLenOk x (s.setPins { s.pins with supplyFail := true })) := by
  repeat' apply And.intro
  all_goals decide +kernel

/-- A start record naming node n. -/
def record (n : Nat) : List Byte := 0xA5#8 :: toBE 2 65535 ++ [0x01#8] ++ toBE 2 n ++ toBE 2 (1 + n)

/-- A START WRITE of these bytes under way. -/
def writing (bytes : List Byte) : State :=
  (up.setIe { up.ie with op := some (.header (.startRecord bytes)) }).setMl { up.ml with state := .pending, code := 24 }

theorem witness_StartWriteReplacesBlockZero :
    requestTaken recordLenOk (submit (record 1)) up ∧ up.ie.op = none ∧ up.ie.headers = [] ∧ up.pins.supplyFail = false ∧
    (let s := (writing (record 8)).setSl { up.sl with part := .isolated, recordGood := false }
     alive s = true ∧ s.sl.part ≠ .starting ∧ s.sl.part = .isolated ∧ txWaits s = true ∧ s.ml.state = .pending ∧
     s.ml.code = 24 ∧ s.ie.op = some (.header (.startRecord (record 8)))) ∧
    (paramsOf [(1, 1)]).node = up.sl.params.node ∧ (paramsOf [(1, 1)]).meshTag = up.sl.params.meshTag ∧
    (paramsOf [(1, 1)]).frameType = up.sl.params.frameType ∧ (paramsOf [(1, 1)]).gmax = up.sl.params.gmax ∧
    (paramsOf [(1, 8)]).node ≠ up.sl.params.node ∧ (paramsOf [(1, 1), (22, 1)]).gmax ≠ up.sl.params.gmax ∧
    (∀ n ∈ [0, 1, 8], alive (writing (record n)) = true ∧ (writing (record n)).sl.part = .running ∧
      txWaits (writing (record n)) = true ∧ (writing (record n)).ml.state = .pending ∧ (writing (record n)).ml.code = 24 ∧
      (writing (record n)).ie.op = some (.header (.startRecord (record n))) ∧ (record n).length ≤ 1040 ∧
      readRecord (after (.startWriteDone (record n)) (writing (record n))).flash.mem = .items [(1, n)] ∧
      (paramsOf [(1, n)]).node = n) ∧
    (match readRecord (after (.startWriteDone [0#8]) (writing (record 1))).flash.mem with
     | .bad _ _ => true
     | .items _ => false) = true := by
  repeat' apply And.intro
  all_goals decide +kernel
theorem witness_StartWriteReplacesBlockZero_isolated :
    (∀ c ∈ [handing, remote], ∀ n ∈ [0, 8],
      let w := writing (record n)
      let s := { w with
        bu := meshed.bu, rc := (holding c).rc, ac := { w.ac with state := .draining }
        ie := { w.ie with
          inc := .ready, incDesc := some image, fetches := [⟨3, 2, 0, 2, [0], t10⟩], presence := [(1, .requested)] } }
      alive s = true ∧ s.sl.part = .running ∧ txWaits s = true ∧ s.ml.state = .pending ∧ s.ml.code = 24 ∧
      s.ie.op = some (.header (.startRecord (record n))) ∧ (peerOf s 2).isSome = true ∧ clientAt s 0 = some c ∧
      s.rc.clients.length ≤ 1 ∧ s.ac.state = .draining ∧ imageDue s = true ∧
      readRecord (after (.startWriteDone (record n)) s).flash.mem = .items [(1, n)]) := by decide +kernel
theorem witness_StartParametersInRange_events :
    readRecord (after (.startWriteDone (record 9)) (writing (record 9))).flash.mem = .items [(1, 9)] := by decide +kernel
theorem witness_LinkTakesTransactions :
    submitOf (.readFault (submit [])) = some (22, submit []) ∧ alive up = true ∧ submitWhole (submit []) = true ∧
    submitWhole [7#8, 0#8] = false ∧ up.ml.state ≠ .pending ∧ (writing []).ml.state = .pending ∧
    scanning.sl.part = .starting ∧ up.sl.part ≠ .starting ∧ lengthFits 22 [0#8] = false ∧
    1040 < submitLen [7#8, 4#8, 17#8] ∧ submitWhole [7#8, 4#8, 17#8] = true ∧ ([9#8] : List Byte).head? ≠ some 1#8 ∧
    26 < (27#8 : Byte).toNat ∧ requestTaken (lenIs 8) (submit (List.replicate 8 0xFF#8)) up := by
  repeat' apply And.intro
  all_goals decide +kernel
theorem witness_SetTimeBringsNewClock :
    (∀ m ∈ [(10079, 59999), (10080, 0), (0, 60000)],
      let x := submit (toBE 2 m.1 ++ toBE 2 m.2)
      submitWhole x = true ∧ lenIs 4 (submitArgs x) = true ∧ field 0 2 (submitArgs x) = m.1 ∧
      field 2 2 (submitArgs x) = m.2) ∧ requestTaken (lenIs 4) (submit [0#8, 0#8, 0#8, 0#8]) (holding served) ∧
    clientAt (holding served) 0 = some served := by
  repeat' apply And.intro
  all_goals decide +kernel
/-- Node 1 with a backhaul transmitter that is READY and has nothing to take. -/
def ready : State := (holding served).setEs { up.es with backhaulTx := none }

theorem witness_AttachAndDetachMoveClients_ready : live ready = true ∧ ready.es.backhaulTx = none ∧
    ready.es.pause = none ∧ ready.bu.control = [] ∧
    (∀ k ∈ [Machine.Class.game, .standard, .bulk, .update], ready.es.queue (queueName k) = []) ∧
    ((after (.clientAttach (submit (addrBytes tablet ++ [15#8]))) ready).es.backhaulTx).isSome = true ∧
    (let s := (holding remote).setSu { up.su with profiles := [(15, { Profile.blank with paused := true })] }
     ((clientAt (after (.clientAttach (submit (addrBytes tablet ++ [15#8]))) s) 0).bind Client.verdict = some .blocked ∧
       remote.verdict ≠ some .blocked)) := by decide +kernel
theorem witness_AttachAndDetachMoveClients :
    let x := fun (a : Addr) (p : Byte) => submit (addrBytes a ++ [p])
    let full := up.setRc { up.rc with
      clients := (List.range 256).map (fun k => (k, { entry .remote 2 with addr := BitVec.ofNat 48 k })) }
    requestTaken (lenIs 7) (x tablet 15#8) (holding remote) ∧ entryOf (holding remote) tablet 0 remote ∧
    txWaits (holding remote) = true ∧ acDraining (holding remote) = false ∧ requestTaken (lenIs 7) (x 0#48 0xFF#8) up ∧
    (let d := (holding served).setAc { up.ac with state := .draining }
     acDraining d = true ∧ txWaits d = true ∧ d.bu.control.length < 16 ∧ running d = true ∧ entryOf d tablet 0 served ∧
     requestTaken (lenIs 7) (x tablet 15#8) d ∧ requestTaken (lenIs 6) (submit (addrBytes tablet)) d ∧
     servedCount (after (.clientDetach (submit (addrBytes tablet))) d) = 0) ∧
    isGroup 0#48 = true ∧ requestTaken (lenIs 7) (x tablet 16#8) up ∧ isGroup tablet = false ∧
    requestTaken (lenIs 7) (x tablet 0xFF#8) up ∧ tabFree up.rc.clients 256 = some 0 ∧
    tabFree full.rc.clients 256 = none ∧ tabSorted full.rc.clients = true ∧ findClient full tablet = none ∧
    requestTaken (lenIs 6) (submit (addrBytes tablet)) (holding served) ∧ entryOf (holding served) tablet 0 served ∧
    requestTaken (lenIs 6) (submit (addrBytes tablet)) (holding remote) ∧
    requestTaken (lenIs 6) (submit (addrBytes tablet)) up ∧ findClient up tablet = none := by
  repeat' apply And.intro
  all_goals decide +kernel
theorem witness_AssignAndProfileRequestsEvaluate :
    (∀ q ∈ [((15 : Nat), (240 : Nat)), (255, 65535), (16, 0), (0, 241), (255, 0)],
      let x := submit (addrBytes tablet ++ toBE 1 q.1 ++ toBE 2 q.2)
      submitWhole x = true ∧ lenIs 9 (submitArgs x) = true ∧ field 6 1 (submitArgs x) = q.1 ∧
      field 7 2 (submitArgs x) = q.2) ∧ findClient (holding served) tablet = some (0, served) ∧
    (∀ q ∈ [((15 : Nat), (1440 : Nat)), (16, 0), (0, 1441)],
      let x := submit (toBE 1 q.1 ++ [1#8, 0x7F#8, 0#8, 0#8, 5#8, 0xA0#8, 1#8] ++ toBE 2 q.2 ++ [1#8])
      submitWhole x = true ∧ profileLenOk (submitArgs x) = true ∧ field 0 1 (submitArgs x) = q.1 ∧
      field 8 2 (submitArgs x) = q.2 ∧ rawWindows 1 ((submitArgs x).drop 2) = [⟨0x7F#8, 0, 1440, 1⟩]) ∧
    requestTaken (lenIs 1) (submit [15#8]) up ∧ requestTaken (lenIs 1) (submit [16#8]) up ∧
    (evening 0 0 0 0 .allowed).su.clock.grade ≠ .unset ∧ up.su.clock.grade = .unset := by
  repeat' apply And.intro
  all_goals decide +kernel
theorem witness_RulesAreWrittenAndCleared :
    (∀ d ∈ [31#8 :: List.replicate 15 0#8 ++ [3#8], 32#8 :: List.replicate 15 0#8 ++ [1#8],
       0#8 :: List.replicate 16 0#8],
      submitWhole (submit d) = true ∧ lenIs 17 (submitArgs (submit d)) = true ∧ submitArgs (submit d) = d) ∧
    requestTaken (lenIs 17) (submit (31#8 :: List.replicate 15 0#8 ++ [3#8])) up ∧
    requestTaken (lenIs 1) (submit [31#8]) up ∧ requestTaken (lenIs 1) (submit [32#8]) up ∧
    (addrBytes tablet ++ addrBytes tablet).length = 12 ∧ toBE 2 0x8100 ++ [0xE0#8, 1#8] = [0x81#8, 0x00#8, 0xE0#8, 1#8] ∧
    (0xE0#8 : Byte).toNat / 32 = 7 ∧ (List.replicate 13 0#8).length < 14 ∧
    ipItem.bytes = addrBytes 0x020000000099#48 ++ addrBytes tablet ++ ipItem.bytes.drop 12 ∧
    (readFrame (ipItem.bytes.take 12 ++ [0x81#8, 0#8, 0xE0#8, 1#8] ++ ipItem.bytes.drop 12)).map FrameInfo.priority =
      some (some 7) ∧
    (let r : Rule := { valid := true, version := none, proto := some .udp, remotePort := some (3074, 3074),
                       localPort := none, priority := none, dscp := none, profile := none, action := .game }
     (readFrame ipItem.bytes).all (fun f =>
       let key := flowKey tablet false f
       f.proto == .udp && !f.fragment && key.proto == .udp && key.remotePort == 3074 && r.valid &&
         ruleResult [(0, { r with valid := false }), (31, r)] key f none == .game) = true) := by
  repeat' apply And.intro
  all_goals decide +kernel
theorem witness_ReadRequestsReturnState :
    requestTaken (lenIs 0) (submit []) up ∧ requestTaken (lenIs 1) (submit [8#8]) up ∧
    requestTaken (lenIs 1) (submit [9#8]) up ∧ requestTaken (lenIs 1) (submit [0#8]) up ∧
    requestTaken (lenIs 7) (submit (0#8 :: addrBytes tablet)) (holding served) ∧ entryOf (holding served) tablet 0 served ∧
    requestTaken (lenIs 7) (submit [1#8, 0#8, 0#8, 0#8, 0#8, 0#8, 255#8]) up ∧ clientAt up 255 = none ∧
    requestTaken (lenIs 3) (submit (0#8 :: toBE 2 511)) up ∧ requestTaken (lenIs 3) (submit (0#8 :: toBE 2 512)) up ∧
    requestTaken (lenIs 3) (submit (1#8 :: toBE 2 31)) up ∧ requestTaken (lenIs 3) (submit [2#8, 0#8, 0#8]) up := by
  repeat' apply And.intro
  all_goals decide +kernel
theorem witness_BlockResetsClearTheirTarget_ready :
    submitOf (.blockResetPeers (submit [1#8])) = some (25, submit [1#8]) ∧ live ready = true ∧
    ready.es.backhaulTx = none ∧ ready.es.pause = none ∧ ready.bu.control = [] ∧
    (∀ k ∈ [Machine.Class.game, .standard, .bulk, .update], ready.es.queue (queueName k) = []) := by decide +kernel
theorem witness_BlockResetsClearTheirTarget_image :
    let s := filling.setIe { filling.ie with
      fetches := [⟨3, 2, 1, 2, [1], t10⟩], presence := [(0, .awaiting), (1, .awaiting), (2, .requested)] }
    requestTaken (lenIs 1) (submit [6#8]) s ∧ txWaits s = true ∧ s.ac.state = .idle ∧ s.ie.inc = .filling ∧
    s.ie.op = some (.chunk .b 0 ⟨0, [0x61#8, 0x62#8, 0x63#8], false⟩ true) ∧
    requestTaken (lenIs 1) (submit [1#8]) (fetching.setMl up.ml) ∧ (peerOf fetching 2).isSome = true ∧
    fetching.ie.fetches ≠ [] ∧ (filling.setIe { filling.ie with op := none }).ie.op = none := by
  repeat' apply And.intro
  all_goals decide +kernel
theorem witness_BlockResetsClearTheirTarget :
    (∀ k ∈ [0#8, 1#8, 2#8, 3#8, 4#8, 5#8, 6#8, 7#8, 8#8],
      submitOf (.blockResetPeers (submit [k])) = some (25, submit [k]) ∧ submitWhole (submit [k]) = true ∧
      lenIs 1 (submitArgs (submit [k])) = true ∧ field 0 1 (submitArgs (submit [k])) = k.toNat) ∧
    requestTaken (lenIs 1) (submit [6#8]) filling ∧ txWaits filling = true ∧ filling.ie.inc ≠ .empty ∧ up.ie.inc = .empty ∧
    filling.ac.state ≠ .swapping ∧ (up.setAc { up.ac with state := .swapped }).ac.state = .swapped ∧
    clientAt (holding remote) 0 = some remote ∧ (peerOf (holding remote) 2).isSome = true ∧
    clientAt (holding expecting) 0 = some expecting ∧ clientAt (holding claiming) 0 = some claiming ∧
    clientAt (holding handing) 0 = some handing ∧ handing.claimant = some 2 ∧
    (peerOf (holding handing) 2).isSome = true := by
  repeat' apply And.intro
  all_goals decide +kernel

end Sys2Proof.Tests
end

section
/-! SUPPORT. The bounds of the event queue and of the control transmit queue (R9, R10, R178). Raising an event and handing a
bulletin to the BU neither break nor mend a bound, so every operation built from them alone leaves both bounds as they are;
only what takes from a queue or empties it can mend one. -/

namespace Sys2Proof.Machine

/-- An event queue within its size (R178). -/
def eventsFit (q : List EventRec) : Bool := decide (q.length ≤ Config.eventQueue)

/-- A control transmit queue within its size (R9). -/
def controlFit (q : List Control) : Bool := decide (q.length ≤ Config.controlQueue)

theorem queuesOk_eq (s : State) : queuesOk s = (eventsFit s.ml.events && controlFit s.bu.control) := rfl

@[simp] theorem eventsFit_nil : eventsFit [] = true := rfl
@[simp] theorem controlFit_nil : controlFit [] = true := rfl

theorem markTail_length (q : List EventRec) : (markTail q).length = q.length := by
  fun_induction markTail q <;> simp_all

@[simp] theorem offerEvent_fits (r : EventRec) (m : Ml) :
    eventsFit (offerEvent r m).events = eventsFit m.events := by
  unfold offerEvent
  split
  · split
    · have : m.events.length + 1 ≤ Config.eventQueue := by assumption
      simp [eventsFit, this, Nat.le_of_succ_le this]
    · simp [eventsFit, markTail_length]
  · rfl

theorem joinControl_length_of_full {c : Control} {q : List Control} (h : Config.controlQueue ≤ q.length) :
    (joinControl c q).length = q.length := by
  unfold joinControl
  rw [if_neg (by omega)]
  split
  · rename_i hs
    obtain ⟨_, x, hx, hs⟩ := by simpa using hs
    have := List.length_eraseP_of_mem hx hs
    have := List.length_pos_of_mem hx
    simp; omega
  · rfl

@[simp] theorem joinControl_fits (c : Control) (q : List Control) : controlFit (joinControl c q) = controlFit q := by
  by_cases h : q.length < Config.controlQueue
  · simp [joinControl, controlFit, h, h.le, Nat.succ_le_iff.2 h]
  · simp [controlFit, joinControl_length_of_full (Nat.le_of_not_lt h)]

/-! ## Operations that raise events or send bulletins -/

@[simp] theorem raise_fits (e : Event) (s : State) :
    eventsFit (raise e s).ml.events = eventsFit s.ml.events := by simp [raise]

@[simp] theorem complete_events (o : ReqOutcome) (r : List Byte) (s : State) :
    (complete o r s).ml.events = s.ml.events := rfl

@[simp] theorem completePending_events (k : Nat) (o : ReqOutcome) (r : List Byte) (s : State) :
    (completePending k o r s).ml.events = s.ml.events := by unfold completePending; split <;> rfl

@[simp] theorem queueControl_fits (c : Control) (s : State) :
    controlFit (queueControl c s).bu.control = controlFit s.bu.control := by
  unfold queueControl; split <;> simp

@[simp] theorem sendBulletin_fits (n : Nat) (b : Body) (s : State) :
    controlFit (sendBulletin n b s).bu.control = controlFit s.bu.control := queueControl_fits _ s

@[simp] theorem announcePulse_fits (s : State) :
    controlFit (announcePulse s).bu.control = controlFit s.bu.control := by
  unfold announcePulse; split <;> simp

@[simp] theorem setPeers_control (p : Table Peer) (s : State) : (setPeers p s).bu.control = s.bu.control := rfl

@[simp] theorem offerOne_fits (s : State) : controlFit (offerOne s).bu.control = controlFit s.bu.control := by
  unfold offerOne; (repeat' split) <;> simp

@[simp] theorem offerLoop_fits (n : Nat) (s : State) :
    controlFit (offerLoop n s).bu.control = controlFit s.bu.control := by
  induction n generalizing s with
  | zero => rfl
  | succ n ih => simp only [offerLoop]; split <;> simp [ih]

@[simp] theorem offerFill_fits (s : State) : controlFit (offerFill s).bu.control = controlFit s.bu.control := by
  unfold offerFill; split <;> simp

@[simp] theorem orphanOne_fits (n i : Nat) (s : State) :
    eventsFit (orphanOne n i s).ml.events = eventsFit s.ml.events := by
  unfold orphanOne; (repeat' split) <;> simp

@[simp] theorem handBackOne_fits (n i : Nat) (s : State) :
    eventsFit (handBackOne n i s).ml.events = eventsFit s.ml.events := by
  unfold handBackOne; (repeat' split) <;> simp

@[simp] theorem loseClients_fits (n : Nat) (s : State) :
    eventsFit (loseClients n s).ml.events = eventsFit s.ml.events := by
  have keeps := forClients_keeps (fun t : State => eventsFit t.ml.events)
  simp [loseClients, keeps _ (handBackOne_fits n), keeps _ (orphanOne_fits n)]

@[simp] theorem sendClaim_fits (i : Nat) (s : State) :
    controlFit (sendClaim i s).bu.control = controlFit s.bu.control := by
  unfold sendClaim; (repeat' split) <;> simp

@[simp] theorem evaluateClaim_fits (i n : Nat) (r : Int) (s : State) :
    controlFit (evaluateClaim i n r s).bu.control = controlFit s.bu.control := by
  unfold evaluateClaim; (repeat' split) <;> simp

@[simp] theorem noUplink_fits (s : State) : eventsFit (noUplink s).ml.events = eventsFit s.ml.events := by
  unfold noUplink; split <;> simp

@[simp] theorem beginErase_events (a : After) (s : State) : (beginErase a s).ml.events = s.ml.events := by
  unfold beginErase; dsimp only; split <;> simp

@[simp] theorem takeImage_events (d : Desc) (s : State) : (takeImage d s).ml.events = s.ml.events := by
  unfold takeImage; split <;> simp

@[simp] theorem endErase_events (s : State) : (endErase s).ml.events = s.ml.events := by
  unfold endErase; dsimp only; split <;> simp

@[simp] theorem noteConflicts_fits (a b c d : Nat) (s : State) :
    eventsFit (noteConflicts a b c d s).ml.events = eventsFit s.ml.events := by
  unfold noteConflicts; dsimp only; (repeat' split) <;> simp

@[simp] theorem lookForImage_fits (n : Nat) (b : PulseBody) (s : State) :
    eventsFit (lookForImage n b s).ml.events = eventsFit s.ml.events := by
  unfold lookForImage; split <;> simp

@[simp] theorem fetchOne_fits (s : State) : controlFit (fetchOne s).bu.control = controlFit s.bu.control := by
  unfold fetchOne; (repeat' split) <;> simp

@[simp] theorem fetchLoop_fits (n : Nat) (s : State) :
    controlFit (fetchLoop n s).bu.control = controlFit s.bu.control := by
  induction n generalizing s with
  | zero => rfl
  | succ n ih => simp only [fetchLoop]; split <;> simp [ih]

@[simp] theorem issueFetches_fits (s : State) :
    controlFit (issueFetches s).bu.control = controlFit s.bu.control := by
  unfold issueFetches; split <;> simp

/-! ## The Activation Controller -/

@[simp] theorem enterLeaving_fits (l : Bool) (s : State) :
    eventsFit (enterLeaving l s).ml.events = eventsFit s.ml.events := by simp [enterLeaving]

@[simp] theorem acDrained_fits (s : State) : eventsFit (acDrained s).ml.events = eventsFit s.ml.events := by
  unfold acDrained; split <;> simp

@[simp] theorem enterDraining_fits (s : State) :
    eventsFit (enterDraining s).ml.events = eventsFit s.ml.events ∧
      controlFit (enterDraining s).bu.control = controlFit s.bu.control := by simp [enterDraining]

@[simp] theorem acSettle_fits (s : State) :
    eventsFit (acSettle s).ml.events = eventsFit s.ml.events ∧
      controlFit (acSettle s).bu.control = controlFit s.bu.control := by simp [acSettle]

@[simp] theorem drainSettle_fits (s : State) :
    eventsFit (drainSettle s).ml.events = eventsFit s.ml.events ∧
      controlFit (drainSettle s).bu.control = controlFit s.bu.control := by simp [drainSettle]

@[simp] theorem acEdge_fits (s : State) :
    eventsFit (acEdge s).ml.events = eventsFit s.ml.events ∧
      controlFit (acEdge s).bu.control = controlFit s.bu.control := by
  unfold acEdge; (repeat' split) <;> simp

@[simp] theorem lapseActivation_fits (s : State) :
    eventsFit (lapseActivation s).ml.events = eventsFit s.ml.events := by simp [lapseActivation]

/-! ## The Schedule Unit -/

@[simp] theorem evalProfile_fits (p : Nat) (s : State) :
    eventsFit (evalProfile p s).ml.events = eventsFit s.ml.events := by
  unfold evalProfile; dsimp only; (repeat' split) <;> simp

@[simp] theorem evalProfiles_fits (s : State) :
    eventsFit (evalProfiles s).ml.events = eventsFit s.ml.events := by
  unfold evalProfiles
  exact foldl_keeps (fun t : State => eventsFit t.ml.events) _ (fun t p => evalProfile_fits p t) _ s

@[simp] theorem evalVerdict_fits (i : Nat) (s : State) :
    eventsFit (evalVerdict i s).ml.events = eventsFit s.ml.events := by
  unfold evalVerdict; dsimp only; (repeat' split) <;> simp

@[simp] theorem evalVerdicts_fits (s : State) :
    eventsFit (evalVerdicts s).ml.events = eventsFit s.ml.events :=
  forClients_keeps (fun t : State => eventsFit t.ml.events) _ evalVerdict_fits s

@[simp] theorem evalVerdictsOf_fits (p : Nat) (s : State) :
    eventsFit (evalVerdictsOf p s).ml.events = eventsFit s.ml.events :=
  forClients_keeps (fun t : State => eventsFit t.ml.events) _ (fun i t => by (repeat' split) <;> simp) s

@[simp] theorem newClockValue_fits (g : Grade) (m ms : Nat) (s : State) :
    eventsFit (newClockValue g m ms s).ml.events = eventsFit s.ml.events := by simp [newClockValue]

@[simp] theorem minuteWork_fits (s : State) : eventsFit (minuteWork s).ml.events = eventsFit s.ml.events := by
  simp [minuteWork]

@[simp] theorem evalAround_fits (p : Nat) (s : State) :
    eventsFit (evalAround p s).ml.events = eventsFit s.ml.events := by
  unfold evalAround; dsimp only; split <;> simp

/-! ## Peers and the epoch edge -/

@[simp] theorem losePeer_fits (n : Nat) (s : State) : eventsFit (losePeer n s).ml.events = eventsFit s.ml.events := by
  simp [losePeer]

@[simp] theorem peerAbsent_fits (n : Nat) (s : State) :
    eventsFit (peerAbsent n s).ml.events = eventsFit s.ml.events ∧
      (peerAbsent n s).bu.control = s.bu.control := by simp [peerAbsent]

@[simp] theorem allPeersAbsent_fits (s : State) :
    eventsFit (allPeersAbsent s).ml.events = eventsFit s.ml.events ∧
      (allPeersAbsent s).bu.control = s.bu.control :=
  ⟨foldl_keeps (fun t : State => eventsFit t.ml.events) _ (fun t n => (peerAbsent_fits n t).1) _ _,
    foldl_keeps (fun t : State => t.bu.control) _ (fun t n => (peerAbsent_fits n t).2) _ _⟩

@[simp] theorem txBulletin_control (n : Nat) (b : Body) (s : State) :
    (txBulletin n b s).bu.control = s.bu.control := rfl

@[simp] theorem liveness_fits (n : Nat) (s : State) :
    eventsFit (liveness n s).ml.events = eventsFit s.ml.events ∧ (liveness n s).bu.control = s.bu.control := by
  unfold liveness; dsimp only; (repeat' split) <;> simp

@[simp] theorem livenessAll_fits (s : State) :
    eventsFit (livenessAll s).ml.events = eventsFit s.ml.events ∧ (livenessAll s).bu.control = s.bu.control :=
  ⟨foldl_keeps (fun t : State => eventsFit t.ml.events) _ (fun t n => (liveness_fits n t).1) _ s,
    foldl_keeps (fun t : State => t.bu.control) _ (fun t n => (liveness_fits n t).2) _ s⟩

@[simp] theorem epochEdge_fits (d : Quad) (s : State) :
    eventsFit (epochEdge d s).ml.events = eventsFit s.ml.events ∧
      controlFit (epochEdge d s).bu.control = controlFit s.bu.control := by
  unfold epochEdge; dsimp only; split <;> simp

@[simp] theorem takePulse_fits (timed : Bool) (s : State) :
    eventsFit (takePulse timed s).ml.events = eventsFit s.ml.events ∧
      controlFit (takePulse timed s).bu.control = controlFit s.bu.control := by
  unfold takePulse; dsimp only; split <;> simp

@[simp] theorem sendEntry_control (x : QEntry) (s : State) : (sendEntry x s).bu.control = s.bu.control := by
  unfold sendEntry; split <;> simp

@[simp] theorem takeClass_control (c : Class) (s : State) : (takeClass c s).bu.control = s.bu.control := by
  unfold takeClass; split <;> simp

theorem controlFit_of_cons {c : Control} {q : List Control} (h : controlFit (c :: q) = true) : controlFit q = true := by
  simp only [controlFit, List.length_cons, decide_eq_true_eq] at h ⊢; omega

/-- The transmitter's choice keeps both bounds: it takes the head of the control transmit queue, or nothing from it. -/
theorem wake_queuesOk {s : State} (h : queuesOk s = true) : queuesOk (wake s) = true := by
  simp only [queuesOk_eq, Bool.and_eq_true] at h ⊢
  unfold wake
  split
  · split
    · rename_i hc
      simpa using ⟨h.1, controlFit_of_cons (hc ▸ h.2)⟩
    · rename_i hc
      simpa using ⟨h.1, controlFit_of_cons (hc ▸ h.2)⟩
    · split <;> simpa using h
  · exact h

/-! ## Start-up, the reload and reception -/

@[simp] theorem raiseClamps_fits (l : List (Nat × Nat)) (s : State) :
    eventsFit (raiseClamps l s).ml.events = eventsFit s.ml.events := by
  unfold raiseClamps
  exact foldl_keeps (fun t : State => eventsFit t.ml.events) _ (fun t e => raise_fits e t) _ s

@[simp] theorem loading_fits (s : State) : eventsFit (loading s).ml.events = eventsFit s.ml.events := by
  unfold loading; split <;> simp

@[simp] theorem beginStart_fits (s : State) : eventsFit (beginStart s).ml.events = eventsFit s.ml.events := by
  unfold beginStart; split <;> simp

/-- A full reset leaves one event and no bulletin (R21, R182). -/
@[simp] theorem resetNow_fits (c : ResetCause) (s : State) :
    eventsFit (resetNow c s).ml.events = true ∧ controlFit (resetNow c s).bu.control = true := ⟨rfl, rfl⟩

@[simp] theorem voidLink_events (cut : Option CutLink) (u s : State) : (voidLink cut u s).ml.events = s.ml.events := by
  unfold voidLink; split <;> rfl

@[simp] theorem enterRunning_fits (s : State) :
    eventsFit (enterRunning s).ml.events = eventsFit s.ml.events ∧
      controlFit (enterRunning s).bu.control = controlFit s.bu.control := by simp [enterRunning]

@[simp] theorem enterIsolated_fits (s : State) :
    eventsFit (enterIsolated s).ml.events = eventsFit s.ml.events ∧ (enterIsolated s).bu.control = [] := by
  simp [enterIsolated]

theorem finishStart_queuesOk {s : State} (h : queuesOk s = true) : queuesOk (finishStart s) = true := by
  unfold finishStart; dsimp only
  (repeat' split) <;> simpa [queuesOk_eq] using h

theorem reloadPart_queuesOk {p : Option Params} {s : State} (h : queuesOk s = true) :
    queuesOk (reloadPart p s) = true := by
  simp only [queuesOk_eq, Bool.and_eq_true] at h ⊢
  unfold reloadPart
  (repeat' split) <;> simp [h]

theorem reload_queuesOk {s : State} (h : queuesOk s = true) : queuesOk (reload s).1 = true := by
  unfold reload
  split <;> exact reloadPart_queuesOk (by simpa [queuesOk_eq] using h)

@[simp] theorem nodeClash_fits (n : Nat) (a : Addr) (s : State) :
    eventsFit (nodeClash n a s).ml.events = eventsFit s.ml.events ∧
      (nodeClash n a s).bu.control = s.bu.control := by
  unfold nodeClash; split <;> simp

@[simp] theorem setLastSeq_control (n : Nat) (p : Peer) (q : BitVec 16) (s : State) :
    (setLastSeq n p q s).bu.control = s.bu.control := rfl

@[simp] theorem periodTest_fits (n : Nat) (b : PulseBody) (s : State) :
    eventsFit (periodTest n b s).ml.events = eventsFit s.ml.events ∧
      (periodTest n b s).bu.control = s.bu.control := by
  unfold periodTest; dsimp only; (repeat' split) <;> simp

@[simp] theorem skewTest_fits (n : Nat) (b : PulseBody) (s : State) :
    eventsFit (skewTest n b s).ml.events = eventsFit s.ml.events ∧
      (skewTest n b s).bu.control = s.bu.control := by
  unfold skewTest; dsimp only; (repeat' split) <;> simp

@[simp] theorem timeTest_fits (n : Nat) (b : PulseBody) (s : State) :
    eventsFit (timeTest n b s).ml.events = eventsFit s.ml.events ∧
      (timeTest n b s).bu.control = s.bu.control := by
  unfold timeTest; (repeat' split) <;> simp

@[simp] theorem acceptPulse_fits (n : Nat) (f : MeshFrame) (b : PulseBody) (o : Option Peer) (s : State) :
    eventsFit (acceptPulse n f b o s).ml.events = eventsFit s.ml.events ∧
      (acceptPulse n f b o s).bu.control = s.bu.control := by
  unfold acceptPulse; dsimp only; (repeat' split) <;> simp

/-- A bulletin that is checked keeps the bounds when its delivery does. -/
theorem receive_queuesOk {k : Nat} {f : MeshFrame} {d : Nat → Body → State → State} {s : State}
    (hd : ∀ n b u, queuesOk u = true → queuesOk (d n b u) = true) (h : queuesOk s = true) :
    queuesOk (receive k f d s) = true := by
  unfold receive; dsimp only
  have hn (n : Nat) (a : Addr) : queuesOk (nodeClash n a s) = true := by simpa [queuesOk_eq] using h
  have hs (n : Nat) (p : Peer) : queuesOk (setLastSeq n p f.seq s) = true := by simpa [queuesOk_eq] using h
  (repeat' split) <;> simp only [h, hn, hs, hd]

/-! ## Deliveries -/

theorem pulseFollow_queuesOk {n : Nat} {b : PulseBody} {s : State} (h : queuesOk s = true) :
    queuesOk (pulseFollow n b s) = true := wake_queuesOk (by simpa [queuesOk_eq] using h)

@[simp] theorem doubleServe_fits (i : Nat) (c : Client) (n : Nat) (t : BitVec 16) (s : State) :
    eventsFit (doubleServe i c n t s).ml.events = eventsFit s.ml.events ∧
      controlFit (doubleServe i c n t s).bu.control = controlFit s.bu.control := by
  unfold doubleServe; dsimp only; split <;> simp [sendContext]

@[simp] theorem roleEffect_fits (n : Nat) (e : Listing) (s : State) :
    eventsFit (roleEffect n e s).ml.events = eventsFit s.ml.events ∧
      controlFit (roleEffect n e s).bu.control = controlFit s.bu.control := by
  unfold roleEffect; (repeat' split) <;> simp

@[simp] theorem listingReading_fits (n : Nat) (e : Listing) (s : State) :
    controlFit (listingReading n e s).bu.control = controlFit s.bu.control := by
  unfold listingReading; split <;> simp

theorem takeListing_queuesOk (n : Nat) (s : State) (e : Listing) : queuesOk (takeListing n s e) = queuesOk s := by
  unfold takeListing; (repeat' split) <;> simp [queuesOk_eq]

theorem takeSighting_queuesOk {n : Nat} {b : Body} {s : State} (h : queuesOk s = true) :
    queuesOk (takeSighting n b s) = true := by
  unfold takeSighting; split
  · exact wake_queuesOk ((foldl_keeps queuesOk _ (takeListing_queuesOk n) _ s).trans h)
  · exact h

@[simp] theorem answerClaim_fits (n : Nat) (a : Addr) (k : BitVec 16) (r : Int) (s : State) :
    eventsFit (answerClaim n a k r s).ml.events = eventsFit s.ml.events ∧
      controlFit (answerClaim n a k r s).bu.control = controlFit s.bu.control := by
  unfold answerClaim; (repeat' split) <;> simp [grantClaim]

theorem takeClaim_queuesOk {n : Nat} {b : Body} {s : State} (h : queuesOk s = true) :
    queuesOk (takeClaim n b s) = true := by
  unfold takeClaim; split
  · exact wake_queuesOk (by simpa [queuesOk_eq] using h)
  · exact h

theorem takeGrant_queuesOk {n : Nat} {b : Body} {s : State} (h : queuesOk s = true) :
    queuesOk (takeGrant n b s) = true := by
  unfold takeGrant; dsimp only
  have back (a : Addr) (k : BitVec 16) : queuesOk (wake (sendBulletin n (.withdraw a k) s)) = true :=
    wake_queuesOk (by simpa [queuesOk_eq] using h)
  have expects (i : Nat) : queuesOk (toRole i .expecting id s) = true := by simpa [queuesOk_eq] using h
  (repeat' split) <;> simp only [h, back, expects]

theorem takeRefuse_queuesOk {n : Nat} {b : Body} {s : State} (h : queuesOk s = true) :
    queuesOk (takeRefuse n b s) = true := by simpa [queuesOk_eq] using h

theorem takeWithdraw_queuesOk {n : Nat} {b : Body} {s : State} (h : queuesOk s = true) :
    queuesOk (takeWithdraw n b s) = true := by
  unfold takeWithdraw
  have back (i : Nat) (a : Addr) :
      queuesOk (wake (offerFill (raise (.steerCancelled a n) (toRole i .served id s)))) = true :=
    wake_queuesOk (by simpa [queuesOk_eq] using h)
  (repeat' split) <;> simp only [h, back]

@[simp] theorem arrivedEntry_fits (i : Nat) (c : Client) (n : Nat) (t : BitVec 16) (s : State) :
    eventsFit (arrivedEntry i c n t s).ml.events = eventsFit s.ml.events ∧
      controlFit (arrivedEntry i c n t s).bu.control = controlFit s.bu.control := by
  unfold arrivedEntry; split <;> simp [sendContext]

theorem takeArrived_queuesOk {n : Nat} {b : Body} {s : State} (h : queuesOk s = true) :
    queuesOk (takeArrived n b s) = true := by
  unfold takeArrived
  have moved (i : Nat) (c : Client) (t : BitVec 16) : queuesOk (wake (drainSettle (arrivedEntry i c n t s))) = true :=
    wake_queuesOk (by simpa [queuesOk_eq] using h)
  (repeat' split) <;> simp only [h, moved]

theorem takeContext_queuesOk {n : Nat} {b : Body} {s : State} (h : queuesOk s = true) :
    queuesOk (takeContext n b s) = true := by
  unfold takeContext; (repeat' split) <;> simpa [queuesOk_eq] using h

theorem takeOffer_queuesOk {n : Nat} {b : Body} {s : State} (h : queuesOk s = true) :
    queuesOk (takeOffer n b s) = true := by
  unfold takeOffer
  have claims (i : Nat) : queuesOk (wake (sendClaim i s)) = true := wake_queuesOk (by simpa [queuesOk_eq] using h)
  (repeat' split) <;> simp only [h, claims]

theorem takeFetch_queuesOk {n : Nat} {b : Body} {s : State} (h : queuesOk s = true) :
    queuesOk (takeFetch n b s) = true := by simpa [queuesOk_eq] using h

theorem takeChunk_queuesOk {n : Nat} {b : Body} {s : State} (h : queuesOk s = true) :
    queuesOk (takeChunk n b s) = true := by
  unfold takeChunk; dsimp only; split
  · refine wake_queuesOk ?_
    (repeat' split) <;> simpa [queuesOk_eq] using h
  · exact h

theorem takeCarried_queuesOk {f : CarriedFrame} {c : Class} {d : List Byte} {s : State} (h : queuesOk s = true) :
    queuesOk (takeCarried f c d s) = true := by
  have on (i m : Nat) : queuesOk (wake (offerFrame (.peer m) c true d (touch i s)).1) = true :=
    wake_queuesOk (by simpa [queuesOk_eq] using h)
  simp only [queuesOk_eq, Bool.and_eq_true] at h on ⊢
  unfold takeCarried; dsimp only
  (repeat' split) <;> simp [h, on]

theorem takeItem_queuesOk {it : NodeItem} {s : State} (h : queuesOk s = true) : queuesOk (takeItem it s) = true := by
  have forward_ok {c : Class} {j : Option Nat} {u : State} (hu : queuesOk u = true) :
      queuesOk (forward it c j u) = true := by
    unfold forward; dsimp only
    (repeat' split)
    · simpa [queuesOk_eq] using hu
    · have := wake_queuesOk (s := markActive (itemSubject it) (countFlow j it.bytes.length
        (offerFrame (itemDest it (touchSubject (itemSubject it) u)) c false it.bytes
          (touchSubject (itemSubject it) u)).1)) (by simpa [queuesOk_eq] using hu)
      simpa [queuesOk_eq] using this
    · simpa [queuesOk_eq] using hu
  unfold takeItem; dsimp only
  (repeat' split)
  · simpa [queuesOk_eq] using h
  all_goals exact forward_ok (by simpa [queuesOk_eq] using h)

/-! ## Supply, transmitters, timers and flash work -/

theorem supplyFailed_queuesOk {s : State} (h : queuesOk s = true) : queuesOk (supplyFailed s) = true := by
  unfold supplyFailed; dsimp only
  refine wake_queuesOk ?_
  (repeat' split) <;> simpa [queuesOk_eq] using h

@[simp] theorem supplyEdge_fits (l : Bool) (e : Event) (s : State) :
    eventsFit (supplyEdge l e s).ml.events = eventsFit s.ml.events := by
  unfold supplyEdge; dsimp only; split <;> simp

@[simp] theorem adoptPulsePeriod_fits (s : State) :
    eventsFit (adoptPulsePeriod s).ml.events = eventsFit s.ml.events := by
  unfold adoptPulsePeriod; split
  · refine (foldl_keeps (fun t : State => eventsFit t.ml.events) _ (fun t n => ?_) nodes _).trans rfl
    unfold markPeriod; (repeat' split) <;> simp
  · rfl

@[simp] theorem restartPulse_control (d : Nat) (s : State) : (restartPulse d s).bu.control = s.bu.control := rfl
@[simp] theorem restartSight_control (d : Nat) (s : State) : (restartSight d s).bu.control = s.bu.control := rfl

@[simp] theorem timedPulse_fits (s : State) : controlFit (timedPulse s).bu.control = controlFit s.bu.control := by
  unfold timedPulse; split
  · simp [controlFit]
  · simp

@[simp] theorem sendSightings_fits (s : State) :
    controlFit (sendSightings s).bu.control = controlFit s.bu.control := by
  unfold sendSightings
  exact foldl_keeps (fun t : State => controlFit t.bu.control) _ (fun t l => sendBulletin_fits _ _ t) _ s

theorem afterOp_queuesOk {s : State} (h : queuesOk s = true) : queuesOk (afterOp s) = true :=
  wake_queuesOk (by simpa [queuesOk_eq] using h)

@[simp] theorem bringToEmpty_fits (s : State) :
    eventsFit (bringToEmpty s).ml.events = eventsFit s.ml.events ∧
      controlFit (bringToEmpty s).bu.control = controlFit s.bu.control := by
  unfold bringToEmpty; split <;> simp

@[simp] theorem endWait_fits (w : Bool) (s : State) :
    eventsFit (endWait w s).ml.events = eventsFit s.ml.events ∧
      controlFit (endWait w s).bu.control = controlFit s.bu.control := by
  unfold endWait; split <;> simp

@[simp] theorem chunkGood_events (sl : Slot) (k : Nat) (p : Prog) (l : Bool) (s : State) :
    (chunkGood sl k p l s).ml.events = s.ml.events := by
  unfold chunkGood; dsimp only; (repeat' split) <;> simp

@[simp] theorem recordFault_fits (f : FaultRec) (s : State) :
    eventsFit (recordFault f s).ml.events = eventsFit s.ml.events := by simp [recordFault]

@[simp] theorem pageFault_fits (f : FaultRec) (p : Nat) (s : State) :
    eventsFit (pageFault f p s).ml.events = eventsFit s.ml.events := by
  unfold pageFault secondFault; dsimp only; (repeat' split) <;> simp

@[simp] theorem chunkBad_fits (sl : Slot) (k : Nat) (p : Prog) (l : Bool) (s : State) :
    eventsFit (chunkBad sl k p l s).ml.events = eventsFit s.ml.events := by
  unfold chunkBad; dsimp only; (repeat' split) <;> simp

@[simp] theorem swapDone_fits (s : State) : eventsFit (swapDone s).ml.events = eventsFit s.ml.events := by
  simp [swapDone]

@[simp] theorem checkRead_fits (d : Desc) (c : Check) (s : State) :
    eventsFit (checkRead d c s).ml.events = eventsFit s.ml.events := by
  unfold checkRead checkPassed checkFailed; dsimp only; (repeat' split) <;> simp

@[simp] theorem imageReadOne_events (r : ImageRead) (s : State) : (imageReadOne r s).ml.events = s.ml.events := by
  unfold imageReadOne; dsimp only; split <;> simp

theorem startWritten_queuesOk {d r : List Byte} {s : State} (h : queuesOk s = true) :
    queuesOk (startWritten d r s) = true := by
  have := reload_queuesOk (s := s.setFlash { s.flash with mem := replaceBlock s.flash.mem 0 (readBackOf d.length r) }) h
  simpa [queuesOk_eq, startWritten] using this

/-! ## Requests -/

/-- A SUBMIT keeps the bounds when the request it hands on does. -/
theorem submit_queuesOk {k : Nat} {l : List Byte → Bool} {run : List Byte → State → State} {t : Submit} {s : State}
    (hr : ∀ d u, queuesOk u = true → queuesOk (run d u) = true) (h : queuesOk s = true) :
    queuesOk (submit k l run t s) = true := by
  have ht : queuesOk (takeSubmit k (submitTag t) (shiftOut (2 + t.length) (echoBytes s) s)) = true := h
  unfold submit dispatch; dsimp only
  split
  · split
    · exact h
    · split
      · exact ht
      · split
        · exact ht
        · exact hr _ _ ht
  · exact h

theorem runClientAttach_queuesOk (d : List Byte) {s : State} (h : queuesOk s = true) :
    queuesOk (runClientAttach d s) = true := by
  have attached {i : Nat} {o : Option Nat} {c : Client} {u : State} (hu : queuesOk u = true) :
      queuesOk (wake (offerFill (attachAt i o c u))) = true :=
    wake_queuesOk (by simpa [queuesOk_eq, attachAt] using hu)
  unfold runClientAttach; dsimp only
  (repeat' split)
  · exact h
  · exact h
  · exact attached h
  · rename_i i t hm
    obtain rfl | rfl := makeRoom_frame hm
    · exact attached h
    · exact attached (by simpa [queuesOk_eq] using h)
  · exact h

theorem runClientDetach_queuesOk (d : List Byte) {s : State} (h : queuesOk s = true) :
    queuesOk (runClientDetach d s) = true := by
  have detached (i : Nat) : queuesOk (wake (drainSettle (complete .ok []
      (removeFlowsOf i (toRole i .departed (setServing 0) s))))) = true :=
    wake_queuesOk (by simpa [queuesOk_eq] using h)
  have refused (o : ReqOutcome) : queuesOk (complete o [] s) = true := h
  unfold runClientDetach
  (repeat' split) <;> simp only [detached, refused]

theorem runImageBegin_queuesOk (d : List Byte) {s : State} (h : queuesOk s = true) :
    queuesOk (runImageBegin d s) = true := by
  have begun (n l c : Nat) (r : List Byte) : queuesOk (wake (complete .ok r (beginImage n l c s))) = true :=
    wake_queuesOk (by simpa [queuesOk_eq, beginImage] using h)
  have answered (o : ReqOutcome) (r : List Byte) : queuesOk (complete o r s) = true := h
  have noted (n l c : Nat) : queuesOk (complete .badField [] (noteConflicts 0 n l c s)) = true := by
    simpa [queuesOk_eq] using h
  unfold runImageBegin; dsimp only
  (repeat' split) <;> simp only [begun, answered, noted]

theorem runBlockReset_queuesOk (d : List Byte) {s : State} (h : queuesOk s = true) :
    queuesOk (runBlockReset d s) = true := by
  have peers : queuesOk (resetPeers s) = true := by
    have := wake_queuesOk (s := issueFetches (offerFill (allPeersAbsent s))) (by simpa [queuesOk_eq] using h)
    simpa [queuesOk_eq, resetPeers] using this
  simp only [queuesOk_eq, Bool.and_eq_true] at h
  have image : queuesOk (resetImage s) = true := by
    unfold resetImage; dsimp only; (repeat' split) <;> simp [queuesOk_eq, h]
  unfold runBlockReset
  split
  · exact peers
  · simp [queuesOk_eq, resetClients, h]
  · simp [queuesOk_eq, resetFlows, h]
  · simp [queuesOk_eq, resetShare, h]
  · simp [queuesOk_eq, resetSchedules, h]
  · exact image
  · simp [queuesOk_eq, resetEvents, h]
  · simp [queuesOk_eq, h]

/-! ## Commands -/

/-- A command that the living part takes keeps what its meaning keeps. -/
theorem taken_keeps {P : State → Prop} {f : State → State} {s t : State} (hf : P (f s)) (h : P s)
    (ht : taken f s = .next t) : P t := by
  unfold taken at ht
  obtain rfl := Host.Outcome.next.inj ht
  split
  · exact hf
  · exact h

theorem receivePulse_queuesOk {f : MeshFrame} {s : State} (h : queuesOk s = true) :
    queuesOk (receivePulse f pulseFollow s) = true := by
  have hc (n : Nat) : queuesOk (nodeClash n f.srcAddr s) = true := by simpa [queuesOk_eq] using h
  have hp (n : Nat) (b : PulseBody) (o : Option Peer) : queuesOk (pulseFollow n b (acceptPulse n f b o s)) = true :=
    pulseFollow_queuesOk (by simpa [queuesOk_eq] using h)
  unfold receivePulse
  (repeat' split) <;> simp only [h, hc, hp]

theorem roleExpiry_queuesOk {i : Nat} {r : Role → Bool} {f : Client → State → State} {s : State}
    (hf : ∀ c u, queuesOk u = true → queuesOk (f c u) = true) (h : queuesOk s = true) :
    queuesOk (roleExpiry i r f s) = true := by
  have hd (c : Client) (d : Nat) : queuesOk (f c (runTo d s)) = true := hf _ _ (by simpa [queuesOk_eq] using h)
  unfold roleExpiry onExpiry
  (repeat' split) <;> simp only [h, hd]

/-- Every command keeps both queues within their sizes. -/
theorem exec_queuesOk {c : Instr} {s t : State} (h : queuesOk s = true) (he : exec c s = .next t) :
    queuesOk t = true := by
  have h' := h
  have keeps {f : State → State} (hf : queuesOk (f s) = true) (ht : taken f s = .next t) : queuesOk t = true :=
    taken_keeps (P := fun u => queuesOk u = true) hf h ht
  simp only [queuesOk_eq, Bool.and_eq_true] at h'
  cases c with
  | powerUp x cut =>
    obtain rfl := Host.Outcome.next.inj he
    simp [queuesOk_eq]
  | resetInputAssert cut =>
    obtain rfl := Host.Outcome.next.inj he
    (repeat' split) <;> simp [queuesOk_eq, h']
  | resetInputRelease x =>
    obtain rfl := Host.Outcome.next.inj he
    split <;> simp [queuesOk_eq, h']
  | powerLoss =>
    obtain rfl := Host.Outcome.next.inj he
    split <;> simp [queuesOk_eq, h']
  | supplyFailAssert =>
    obtain rfl := Host.Outcome.next.inj he
    have : queuesOk (supplyEdge true .supplyFail s) = true := by simp [queuesOk_eq, h']
    dsimp only
    (repeat' split) <;> simp only [h, this, supplyFailed_queuesOk]
  | supplyFailDeassert =>
    obtain rfl := Host.Outcome.next.inj he
    have edge : queuesOk (supplyEdge false .supplyRestored s) = true := by simp [queuesOk_eq, h']
    have := wake_queuesOk (s := issueFetches (startFlash (supplyEdge false .supplyRestored s))) (by
      simpa [queuesOk_eq] using h)
    dsimp only
    (repeat' split) <;> simp only [h, this, edge]
  | startUpComplete =>
    refine keeps ?_ he
    have := finishStart_queuesOk h
    split <;> simp only [h, this]
  | pulseReceive f => exact keeps (receivePulse_queuesOk h) he
  | sightingReceive f => exact keeps (receive_queuesOk (fun _ _ _ => takeSighting_queuesOk) h) he
  | claimReceive f => exact keeps (receive_queuesOk (fun _ _ _ => takeClaim_queuesOk) h) he
  | grantReceive f => exact keeps (receive_queuesOk (fun _ _ _ => takeGrant_queuesOk) h) he
  | refuseReceive f => exact keeps (receive_queuesOk (fun _ _ _ => takeRefuse_queuesOk) h) he
  | withdrawReceive f => exact keeps (receive_queuesOk (fun _ _ _ => takeWithdraw_queuesOk) h) he
  | arrivedReceive f => exact keeps (receive_queuesOk (fun _ _ _ => takeArrived_queuesOk) h) he
  | contextReceive f => exact keeps (receive_queuesOk (fun _ _ _ => takeContext_queuesOk) h) he
  | offerReceive f => exact keeps (receive_queuesOk (fun _ _ _ => takeOffer_queuesOk) h) he
  | fetchReceive f => exact keeps (receive_queuesOk (fun _ _ _ => takeFetch_queuesOk) h) he
  | chunkReceive f => exact keeps (receive_queuesOk (fun _ _ _ => takeChunk_queuesOk) h) he
  | unknownKindBulletinReceive k f =>
    refine keeps ?_ he
    (repeat' split) <;> simp [queuesOk_eq, h']
  | carriedFrameReceive f =>
    refine keeps ?_ he
    have hc (n : Nat) : queuesOk (nodeClash n f.srcAddr s) = true := by simp [queuesOk_eq, h']
    have hd (c : Class) (d : List Byte) : queuesOk (takeCarried f c d s) = true := takeCarried_queuesOk h
    unfold receiveCarried
    (repeat' split) <;> simp only [h, hc, hd]
  | pauseFrameReceive f =>
    refine keeps ?_ he
    have ended : queuesOk (wake (s.setEs { s.es with pause := none })) = true := wake_queuesOk h
    have paused (d : Nat) : queuesOk (s.setEs { s.es with pause := some d }) = true := h
    (repeat' split) <;> simp only [h, ended, paused]
  | pauseExpiry =>
    refine keeps ?_ he
    unfold onExpiry; split
    · exact wake_queuesOk (by simp [queuesOk_eq, h'])
    · exact h
  | nodePortData it =>
    refine keeps ?_ he
    have := takeItem_queuesOk (it := it) h
    split <;> simp only [h, this]
  | nodePortSamples it =>
    refine keeps ?_ he
    split
    · exact (foldl_keeps queuesOk _ (fun u p => by simp [queuesOk_eq]) _ s).trans h
    · exact h
  | backhaulTxDone =>
    simp only [exec] at he; unfold execBackhaulTxDone at he
    refine keeps ?_ he
    split
    · exact wake_queuesOk (by simp [queuesOk_eq, h'])
    · exact h
  | nodePortTxDone =>
    simp only [exec] at he; unfold execNodePortTxDone at he
    refine keeps ?_ he
    split <;> simp [queuesOk_eq, h']
  | pulseTimerExpiry =>
    simp only [exec] at he; unfold execPulseTimerExpiry at he
    refine keeps ?_ he
    split
    · exact wake_queuesOk (by simp [queuesOk_eq, h'])
    · exact h
  | sightingTimerExpiry =>
    simp only [exec] at he; unfold execSightingTimerExpiry at he
    refine keeps ?_ he
    split
    · exact wake_queuesOk (by simp [queuesOk_eq, h'])
    · exact h
  | clashTimerExpiry n =>
    refine keeps ?_ he
    unfold onExpiry; split <;> simp [queuesOk_eq, h']
  | noUplinkTimerExpiry =>
    refine keeps ?_ he
    unfold onExpiry; split <;> simp [queuesOk_eq, h']
  | readingLapse i w =>
    simp only [exec] at he; unfold execReadingLapse at he
    refine keeps ?_ he
    (repeat' split) <;> simp [queuesOk_eq, h']
  | sampleAgeLapse i =>
    simp only [exec] at he; unfold execSampleAgeLapse at he
    refine keeps ?_ he
    split <;> simp [queuesOk_eq, h']
  | holddownExpiry i =>
    simp only [exec] at he; unfold execHolddownExpiry at he
    refine keeps ?_ he
    split <;> simp [queuesOk_eq, h']
  | claimWaitExpiry i =>
    exact keeps (roleExpiry_queuesOk (fun c u hu => by simpa [queuesOk_eq] using hu) h) he
  | handWaitExpiryExpecting i =>
    exact keeps (roleExpiry_queuesOk (fun c u hu => by simpa [queuesOk_eq] using hu) h) he
  | removalTimerExpiry i =>
    exact keeps (roleExpiry_queuesOk (fun c u hu => by simpa [queuesOk_eq] using hu) h) he
  | handWaitExpiryHanding i =>
    exact keeps (roleExpiry_queuesOk (fun c u hu => wake_queuesOk (by simpa [queuesOk_eq] using hu)) h) he
  | offerTimerExpiry i =>
    simp only [exec] at he; unfold execOfferTimerExpiry at he
    refine keeps ?_ he
    split
    · exact wake_queuesOk (by simp [queuesOk_eq, h'])
    · exact h
  | flowIdleExpiry j =>
    simp only [exec] at he; unfold execFlowIdleExpiry at he
    refine keeps ?_ he
    (repeat' split) <;> simp [queuesOk_eq, h']
  | gameQuietElapsed =>
    simp only [exec] at he; unfold execGameQuietElapsed at he
    refine keeps ?_ he
    split <;> simp [queuesOk_eq, h']
  | fetchTimeout k =>
    simp only [exec] at he; unfold execFetchTimeout at he
    refine keeps ?_ he
    split
    · exact wake_queuesOk (by simp [queuesOk_eq, h'])
    · exact h
  | skipTimerExpiry n =>
    refine keeps ?_ he
    unfold onExpiry; split
    · exact wake_queuesOk (by simp [queuesOk_eq, h'])
    · exact h
  | drainTimerExpiry =>
    refine keeps ?_ he
    unfold onExpiry; split
    · dsimp only; split <;> simp [queuesOk_eq, h']
    · exact h
  | lapseTimerExpiry =>
    refine keeps ?_ he
    unfold onExpiry; split
    · dsimp only; split <;> simp [queuesOk_eq, h']
    · exact h
  | holdoffExpiry =>
    simp only [exec] at he; unfold execHoldoffExpiry at he
    exact keeps (by simp [queuesOk_eq, h']) he
  | minuteTick =>
    simp only [exec] at he; unfold execMinuteTick at he
    refine keeps ?_ he
    split <;> simp [queuesOk_eq, h']
  | shareComputationDone =>
    simp only [exec] at he; unfold execShareComputationDone at he
    exact keeps h he
  | chunkProgramDone d =>
    simp only [exec] at he; unfold execChunkProgramDone at he
    refine keeps ?_ he
    split
    · dsimp only
      split <;> exact afterOp_queuesOk (by simp [queuesOk_eq, h'])
    · exact h
  | headerProgramDone =>
    simp only [exec] at he; unfold execHeaderProgramDone at he
    refine keeps ?_ he
    split
    · split
      · exact h
      · exact afterOp_queuesOk (by simp [queuesOk_eq, h'])
    · exact h
  | swapProgramDone =>
    simp only [exec] at he; unfold execSwapProgramDone at he
    refine keeps ?_ he
    split
    · exact afterOp_queuesOk (by simp [queuesOk_eq, h'])
    · exact afterOp_queuesOk (by simp [queuesOk_eq, h'])
    · exact h
  | blockEraseDone =>
    simp only [exec] at he; unfold execBlockEraseDone at he
    refine keeps ?_ he
    split
    · dsimp only
      split <;> exact afterOp_queuesOk (by simp [queuesOk_eq, h'])
    · exact h
  | checkReadDone =>
    simp only [exec] at he; unfold execCheckReadDone at he
    refine keeps ?_ he
    split
    · dsimp only
      (repeat' split) <;> exact afterOp_queuesOk (by simp [queuesOk_eq, h'])
    · exact h
  | serveReadDone =>
    simp only [exec] at he; unfold execServeReadDone at he
    refine keeps ?_ he
    split
    · dsimp only
      (repeat' split) <;> exact afterOp_queuesOk (by simp [queuesOk_eq, h'])
    · exact h
  | imageReadDone =>
    simp only [exec] at he; unfold execImageReadDone at he
    refine keeps ?_ he
    split
    · dsimp only
      split <;> exact afterOp_queuesOk (by simp [queuesOk_eq, h'])
    · exact h
  | startWriteDone d =>
    simp only [exec] at he; unfold execStartWriteDone at he
    refine keeps ?_ he
    split
    · exact afterOp_queuesOk (startWritten_queuesOk (by simp [queuesOk_eq, h']))
    · exact h
  | poll o k =>
    simp only [exec] at he; unfold execPoll at he
    refine keeps ?_ he
    dsimp only; split <;> simpa [queuesOk_eq, shiftOut] using h'
  | collect k =>
    simp only [exec] at he; unfold execCollect at he
    refine keeps ?_ he
    have drops : eventsFit s.ml.events.tail = true := by
      simp only [eventsFit, decide_eq_true_eq, List.length_tail] at h' ⊢; omega
    dsimp only; split <;> simp [queuesOk_eq, shiftOut, h', drops]
  | submitUnknownRequest d =>
    simp only [exec] at he; unfold execSubmitUnknownRequest at he
    refine keeps ?_ he
    split
    · exact submit_queuesOk (fun _ _ hu => hu) h
    · exact h
  | clientAttach x => exact keeps (submit_queuesOk (fun d _ => runClientAttach_queuesOk d) h) he
  | clientDetach x => exact keeps (submit_queuesOk (fun d _ => runClientDetach_queuesOk d) h) he
  | imageBegin x => exact keeps (submit_queuesOk (fun d _ => runImageBegin_queuesOk d) h) he
  | blockResetPeers x => exact keeps (submit_queuesOk (fun d _ => runBlockReset_queuesOk d) h) he
  | blockResetClients x => exact keeps (submit_queuesOk (fun d _ => runBlockReset_queuesOk d) h) he
  | blockResetFlows x => exact keeps (submit_queuesOk (fun d _ => runBlockReset_queuesOk d) h) he
  | blockResetShare x => exact keeps (submit_queuesOk (fun d _ => runBlockReset_queuesOk d) h) he
  | blockResetSchedules x => exact keeps (submit_queuesOk (fun d _ => runBlockReset_queuesOk d) h) he
  | blockResetImage x => exact keeps (submit_queuesOk (fun d _ => runBlockReset_queuesOk d) h) he
  | blockResetEvents x => exact keeps (submit_queuesOk (fun d _ => runBlockReset_queuesOk d) h) he
  | setTime x =>
    refine keeps (submit_queuesOk (fun d u hu => ?_) h) he
    unfold runSetTime; dsimp only; split <;> simpa [queuesOk_eq] using hu
  | clientAssign x =>
    refine keeps (submit_queuesOk (fun d u hu => ?_) h) he
    unfold runClientAssign; dsimp only; (repeat' split) <;> simpa [queuesOk_eq] using hu
  | profileWrite x =>
    refine keeps (submit_queuesOk (fun d u hu => ?_) h) he
    unfold runProfileWrite; dsimp only; (repeat' split) <;> simpa [queuesOk_eq] using hu
  | profilePause x =>
    refine keeps (submit_queuesOk (fun d u hu => ?_) h) he
    unfold runPaused; dsimp only; split <;> simpa [queuesOk_eq] using hu
  | profileResume x =>
    refine keeps (submit_queuesOk (fun d u hu => ?_) h) he
    unfold runPaused; dsimp only; split <;> simpa [queuesOk_eq] using hu
  | ruleWrite x =>
    refine keeps (submit_queuesOk (fun d u hu => ?_) h) he
    unfold runRuleWrite; split <;> exact hu
  | ruleClear x =>
    refine keeps (submit_queuesOk (fun d u hu => ?_) h) he
    unfold runRuleClear; split <;> exact hu
  | imageChunk x =>
    refine keeps (submit_queuesOk (fun d u hu => ?_) h) he
    unfold runImageChunk; dsimp only; split <;> simpa [queuesOk_eq] using hu
  | imageRead x =>
    refine keeps (submit_queuesOk (fun d u hu => ?_) h) he
    unfold runImageRead; dsimp only; (repeat' split) <;> simpa [queuesOk_eq] using hu
  | activateNow x =>
    refine keeps (submit_queuesOk (fun d u hu => ?_) h) he
    unfold runActivateNow; split <;> simpa [queuesOk_eq] using hu
  | swapSlots x =>
    refine keeps (submit_queuesOk (fun d u hu => ?_) h) he
    unfold runSwapSlots; (repeat' split) <;> simpa [queuesOk_eq] using hu
  | cancelActivation x =>
    refine keeps (submit_queuesOk (fun d u hu => ?_) h) he
    unfold runCancelActivation; split <;> simpa [queuesOk_eq] using hu
  | readStatus x =>
    simp only [exec] at he; unfold execReadStatus at he
    exact keeps (submit_queuesOk (fun _ _ hu => by simpa [queuesOk_eq] using hu) h) he
  | readShare x =>
    simp only [exec] at he; unfold execReadShare at he
    exact keeps (submit_queuesOk (fun _ _ hu => by simpa [queuesOk_eq] using hu) h) he
  | readFault x =>
    simp only [exec] at he; unfold execReadFault at he
    exact keeps (submit_queuesOk (fun _ _ hu => by simpa [queuesOk_eq] using hu) h) he
  | eventMask x =>
    simp only [exec] at he; unfold execEventMask at he
    exact keeps (submit_queuesOk (fun _ _ hu => by simpa [queuesOk_eq, runEventMask] using hu) h) he
  | readPeer x =>
    refine keeps (submit_queuesOk (fun d u hu => ?_) h) he
    unfold runReadPeer; dsimp only; split <;> exact hu
  | readClient x =>
    refine keeps (submit_queuesOk (fun d u hu => ?_) h) he
    unfold runReadClient; (repeat' split) <;> exact hu
  | readFlow x =>
    refine keeps (submit_queuesOk (fun d u hu => ?_) h) he
    unfold runReadFlow; dsimp only; (repeat' split) <;> exact hu
  | readProfile x =>
    refine keeps (submit_queuesOk (fun d u hu => ?_) h) he
    unfold runReadProfile; split <;> exact hu
  | startWrite x =>
    exact keeps (submit_queuesOk (fun d u hu => by simpa [queuesOk_eq] using hu) h) he
  | resetPart x =>
    exact keeps (submit_queuesOk (fun d u hu => by simp [queuesOk_eq, runResetPart]) h) he

/-- Settles O8: a step is a command, which keeps both queues within their sizes, or 1 ms, which touches neither. -/
theorem stepKeepsQueueBounds : Obligations.StepKeepsQueueBounds := by
  intro s t h ht
  unfold step at ht
  split at ht
  · obtain rfl := Host.Outcome.next.inj ht
    simpa [queuesOk_eq, tick] using h
  · rename_i c rest _
    exact exec_queuesOk (s := s.setPending rest) h ht

end Sys2Proof.Machine
end
section
/-! SUPPORT. Bytes laid out most significant first are read back as they were laid out (R22, section 1.11). -/

namespace Sys2Proof.Machine

/-! ## Fields -/

@[simp] theorem toBE_length (k v : Nat) : (toBE k v).length = k := by
  induction k with
  | zero => rfl
  | succ k ih => simp [toBE, ih]

theorem beNat_foldl (l : List Byte) (a : Nat) :
    l.foldl (fun a b => a * 256 + b.toNat) a = a * 256 ^ l.length + beNat l := by
  induction l generalizing a with
  | nil => simp [beNat]
  | cons b r ih =>
    have hb : beNat (b :: r) = b.toNat * 256 ^ r.length + beNat r := by simpa [beNat] using ih b.toNat
    rw [List.foldl_cons, ih, hb, List.length_cons, Nat.pow_succ]
    ring

theorem beNat_cons (b : Byte) (r : List Byte) : beNat (b :: r) = b.toNat * 256 ^ r.length + beNat r := by
  simpa [beNat] using beNat_foldl r b.toNat

theorem beNat_toBE (k v : Nat) : beNat (toBE k v) = v % 256 ^ k := by
  induction k with
  | zero => simp [toBE, beNat, Nat.mod_one]
  | succ k ih =>
    have hb : (BitVec.ofNat 8 (v / 256 ^ k)).toNat = v / 256 ^ k % 256 := rfl
    rw [toBE, beNat_cons, ih, toBE_length, hb, Nat.pow_succ, Nat.mod_mul, Nat.add_comm, Nat.mul_comm]

/-- A field that stands after the first piece is a field of the rest. -/
theorem field_append {a r : List Byte} {off n : Nat} (h : a.length ≤ off) :
    field off n (a ++ r) = field (off - a.length) n r := by
  simp [field, slice, List.drop_append, List.drop_eq_nil_of_le h]

theorem field_toBE_append (n v : Nat) (r : List Byte) : field 0 n (toBE n v ++ r) = v % 256 ^ n := by
  simp [field, slice, beNat_toBE]

theorem field_toBE (n v : Nat) : field 0 n (toBE n v) = v % 256 ^ n := by
  simpa using field_toBE_append n v []

theorem addrBytes_length (a : Addr) : (addrBytes a).length = 6 := toBE_length 6 _

theorem addrAt_addrBytes (a : Addr) (r : List Byte) : addrAt 0 (addrBytes a ++ r) = a := by
  rw [addrAt, addrBytes, field_toBE_append, Nat.mod_eq_of_lt (show a.toNat < 256 ^ 6 from a.isLt)]
  simp

theorem ofNat_toNat_mod (v : BitVec 16) : BitVec.ofNat 16 (v.toNat % 256 ^ 2) = v := by
  rw [Nat.mod_eq_of_lt (show v.toNat < 256 ^ 2 from v.isLt)]
  simp

theorem signed16_unsigned16 {v : Int} (h : fits16 v = true) : signed16 (unsigned16 v % 256 ^ 2) = v := by
  simp only [fits16, Bool.and_eq_true, decide_eq_true_eq] at h
  unfold signed16 unsigned16
  split <;> omega

/-- Bit k of a byte of flags is the k-th flag. -/
theorem testBit_flagBits (l : List Bool) (k : Nat) : (flagBits l).testBit k = l.getD k false := by
  induction l generalizing k with
  | nil => simp [flagBits]
  | cons b r ih =>
    cases k with
    | zero => cases b <;> simp [flagBits, Nat.testBit_zero]
    | succ k =>
      rw [Nat.testBit_succ]
      have : (flagBits (b :: r)) / 2 = flagBits r := by
        simp only [flagBits]
        split <;> omega
      simp [this, ih]

/-- The flag at bit k of the one byte of flags at the front. -/
theorem bitOf_flagByte {l : List Bool} {k : Nat} (r : List Byte) (h : k < 8) :
    bitOf ((toBE 1 (flagBits l) ++ r).headD 0#8) k = l.getD k false := by
  have : (toBE 1 (flagBits l) ++ r).headD 0#8 = BitVec.ofNat 8 (flagBits l) := by simp [toBE]
  rw [this, bitOf, BitVec.getLsbD_ofNat, testBit_flagBits]
  simp [h]

theorem drop_append_of_le {a r : List Byte} {k : Nat} (h : a.length ≤ k) : (a ++ r).drop k = r.drop (k - a.length) := by
  simp [List.drop_append, List.drop_eq_nil_of_le h]

/-! ## Bodies -/

theorem gradeOf_gradeCode (g : Grade) : gradeOf (gradeCode g) = some g := by cases g <;> rfl
theorem incStateOf_incCode (i : IncState) : incStateOf (incCode i) = some i := by cases i <;> rfl

theorem gradeCode_mod (g : Grade) : gradeCode g % 256 ^ 1 = gradeCode g := by cases g <;> rfl
theorem incCode_mod (i : IncState) : incCode i % 256 ^ 1 = incCode i := by cases i <;> rfl

theorem decodePulse_encodePulse {b : PulseBody} (h : pulseOk b = true) : decodePulse (encodePulse b) = some b := by
  simp only [pulseOk, Bool.and_eq_true, decide_eq_true_eq] at h
  obtain ⟨⟨⟨⟨⟨⟨⟨⟨⟨⟨⟨⟨⟨⟨hp, hp'⟩, h5⟩, hm⟩, hms⟩, hs⟩, hg⟩, hst⟩, hb⟩, hu⟩, ha⟩, hi⟩, hl⟩, hc⟩, hh⟩ := h
  have byte : b.period % 256 ^ 1 = b.period := Nat.mod_eq_of_lt (by omega)
  have half {v : Nat} (hv : v < 65536) : v % 256 ^ 2 = v := Nat.mod_eq_of_lt hv
  have word {v : Nat} (hv : v < 4294967296) : v % 256 ^ 4 = v := Nat.mod_eq_of_lt hv
  simp only [decodePulse, encodePulse, List.append_assoc, List.length_append, toBE_length, if_true,
    field_append, field_toBE_append, field_toBE, drop_append_of_le, Nat.le_refl, Nat.reduceLeDiff, Nat.reduceSub,
    Nat.sub_self, List.drop_zero, gradeCode_mod, incCode_mod, gradeOf_gradeCode, incStateOf_incCode, byte,
    half (show b.minute < 65536 by omega), half (show b.milli < 65536 by omega), half hs, half hg, half hst, half hb,
    half hu, word ha, word hi, word hl, word hc, half hh, hp, hp', h5, hm, hms, and_self, Nat.reduceAdd,
    bitOf_flagByte, Nat.reduceLT]
  rfl

theorem encodeListing_length (e : Listing) : (encodeListing e).length = 11 := by
  simp [encodeListing, addrBytes_length]

theorem decodeListings_flatMap {l : List Listing} (h : ∀ e ∈ l, fits16 e.reading = true) :
    decodeListings l.length (l.flatMap encodeListing) = l := by
  induction l with
  | nil => rfl
  | cons e l ih =>
    have he := signed16_unsigned16 (h e (List.mem_cons_self))
    have hl := ih (fun x hx => h x (List.mem_cons_of_mem _ hx))
    have hd : ∀ r : List Byte, (encodeListing e ++ r).drop 11 = r := fun r => by
      rw [drop_append_of_le (encodeListing_length e).le, encodeListing_length]; rfl
    simp only [List.flatMap_cons, List.length_cons, decodeListings, hd, hl]
    simp only [encodeListing, List.append_assoc, addrAt_addrBytes, field_append, addrBytes_length, toBE_length,
      Nat.le_refl, Nat.reduceLeDiff, Nat.reduceSub, Nat.sub_self, field_toBE_append, he, ofNat_toNat_mod,
      drop_append_of_le, List.drop_zero, bitOf_flagByte, Nat.reduceLT]
    rfl

/-- Settles O10, kind by kind: each field is read at the offset it was laid out at. -/
theorem bulletinBodiesRoundTrip : Obligations.BulletinBodiesRoundTrip := by
  intro b h
  have byte {v : Nat} (hv : v < 256) : v % 256 ^ 1 = v := Nat.mod_eq_of_lt hv
  have half {v : Nat} (hv : v < 65536) : v % 256 ^ 2 = v := Nat.mod_eq_of_lt hv
  have word {v : Nat} (hv : v < 4294967296) : v % 256 ^ 4 = v := Nat.mod_eq_of_lt hv
  have lone (a : Addr) : addrAt 0 (addrBytes a) = a := by simpa using addrAt_addrBytes a []
  cases b with
  | pulse b => simp [bodyKind, decodeBody, encodeBody, decodePulse_encodePulse (b := b) h]
  | sighting es =>
    simp only [bodyOk, Bool.and_eq_true, decide_eq_true_eq, List.all_eq_true] at h
    obtain ⟨⟨h1, h48⟩, hf⟩ := h
    have hn : field 0 1 (toBE 1 es.length ++ es.flatMap encodeListing) = es.length := by
      rw [field_toBE_append, byte (by omega)]
    have hlen : (es.flatMap encodeListing).length = 11 * es.length := by
      simp [List.length_flatMap, encodeListing_length, Nat.mul_comm]
    have hd : (toBE 1 es.length ++ es.flatMap encodeListing).drop 1 = es.flatMap encodeListing := by simp
    simp [bodyKind, decodeBody, encodeBody, decodeSighting, hn, h1, h48, hlen, hd, decodeListings_flatMap hf]
  | claim a n r =>
    simp [bodyKind, decodeBody, encodeBody, addrAt_addrBytes, field_append, addrBytes_length, field_toBE_append,
      field_toBE]
    exact ⟨ofNat_toNat_mod n, signed16_unsigned16 h⟩
  | grant a n | withdraw a n | arrived a n =>
    simp [bodyKind, decodeBody, encodeBody, addrAt_addrBytes, field_append, addrBytes_length, field_toBE]
    exact ofNat_toNat_mod n
  | refuse a n r =>
    simp [bodyKind, decodeBody, encodeBody, addrAt_addrBytes, field_append, addrBytes_length, field_toBE_append,
      field_toBE]
    exact ⟨ofNat_toNat_mod n, by simpa [bodyOk] using h⟩
  | context a t p d u x =>
    simp only [bodyOk, Bool.and_eq_true, decide_eq_true_eq] at h
    obtain ⟨⟨⟨hp, hd⟩, hu⟩, hx⟩ := h
    simp [bodyKind, decodeBody, encodeBody, addrAt_addrBytes, field_append, addrBytes_length, field_toBE_append,
      field_toBE]
    exact ⟨ofNat_toNat_mod t, hp, hd, hu, hx⟩
  | offer a => simp [bodyKind, decodeBody, encodeBody, addrBytes_length, lone]
  | fetch i f c n =>
    simp only [bodyOk, Bool.and_eq_true, decide_eq_true_eq] at h
    obtain ⟨⟨hi, hf⟩, hc⟩ := h
    simp [bodyKind, decodeBody, encodeBody, field_append, field_toBE_append, field_toBE]
    exact ⟨hi, hf, hc, ofNat_toNat_mod n⟩
  | chunk i x n p crc d =>
    simp only [bodyOk, Bool.and_eq_true, decide_eq_true_eq] at h
    obtain ⟨⟨⟨⟨hi, hx⟩, hp⟩, hcrc⟩, hd⟩ := h
    have hlen : field 9 2 (encodeBody (.chunk i x n p crc d)) = d.length := by
      simpa [encodeBody, field_append, field_toBE_append] using half hd
    have hdrop : (encodeBody (.chunk i x n p crc d)).drop 15 = d := by simp [encodeBody, drop_append_of_le]
    simp only [bodyKind, decodeBody, hlen, hdrop]
    simp [encodeBody, field_append, field_toBE_append]
    exact ⟨⟨by omega, by omega⟩, hi, hx, ofNat_toNat_mod n, hp, hcrc⟩

end Sys2Proof.Machine
end
section
/-! SUPPORT. What the three sorts of queue do with one more entry (R9, R10, R100 to R104, R178, R179). -/

namespace Sys2Proof.Machine

/-! ## The event queue -/

theorem markTail_append (q : List EventRec) (e : EventRec) : markTail (q ++ [e]) = q ++ [{ e with overrun := true }] := by
  induction q with
  | nil => rfl
  | cons a r ih =>
    cases hr : r ++ [e] with
    | nil => simp at hr
    | cons b l => rw [List.cons_append, List.cons_append, ← ih, hr]; rfl

/-- A masked event leaves the queue as it is (R178). -/
theorem offerEvent_masked {r : EventRec} {m : Ml} (h : m.mask.getLsbD (eventCode r.event) = false) :
    offerEvent r m = m := by simp [offerEvent, h]

/-- An event that finds room joins at the tail (R178). -/
theorem offerEvent_joins {r : EventRec} {m : Ml} (h : m.mask.getLsbD (eventCode r.event) = true)
    (hl : m.events.length < 64) : offerEvent r m = { m with events := m.events ++ [r] } := by
  simp [offerEvent, h, show m.events.length < Config.eventQueue from hl]

/-- An event that finds 64 is lost, and the newest one is marked (R179). -/
theorem offerEvent_overrun {r : EventRec} {m : Ml} (h : m.mask.getLsbD (eventCode r.event) = true)
    (hl : 64 ≤ m.events.length) : offerEvent r m = { m with events := markTail m.events } := by
  simp [offerEvent, h, show ¬ m.events.length < Config.eventQueue from Nat.not_lt.mpr hl]

/-! ## The control transmit queue -/

theorem joinControl_room {c : Control} {q : List Control} (h : q.length < 16) : joinControl c q = q ++ [c] :=
  if_pos h

/-- A full queue that holds a SIGHTING takes another one in place of its oldest (R10). -/
theorem joinControl_sighting {c : Control} {q : List Control} (h : 16 ≤ q.length) (hc : isSighting c = true)
    (hq : ∃ x ∈ q, isSighting x = true) : joinControl c q = q.eraseP isSighting ++ [c] := by
  rw [joinControl, if_neg (show ¬ q.length < Config.controlQueue from Nat.not_lt.mpr h), if_pos (by simpa [hc] using hq)]

/-- Any other bulletin that finds 16 waiting is not sent (R10). -/
theorem joinControl_refused {c : Control} {q : List Control} (h : 16 ≤ q.length)
    (hc : isSighting c = false ∨ ∀ x ∈ q, isSighting x = false) : joinControl c q = q := by
  rw [joinControl, if_neg (show ¬ q.length < Config.controlQueue from Nat.not_lt.mpr h), if_neg]
  rcases hc with hc | hq
  · simp [hc]
  · simpa using fun _ x hx => hq x hx

theorem eraseP_isSighting {a b : List Control} {x : Control} (ha : ∀ y ∈ a, isSighting y = false)
    (hx : isSighting x = true) : (a ++ x :: b).eraseP isSighting = a ++ b := by
  rw [List.eraseP_append_right _ (by simpa using ha), List.eraseP_cons_of_pos hx]

/-! ## The frame queues -/

theorem fits_eq_true {limit free cells : Nat} {q : List QEntry} :
    fits limit q free cells = true ↔ cellsOf q + cells ≤ limit ∧ cells ≤ free := by
  simp [fits]

theorem fits_eq_false {limit free cells : Nat} {q : List QEntry} :
    fits limit q free cells = false ↔ limit < cellsOf q + cells ∨ free < cells := by
  rw [← Bool.not_eq_true, fits_eq_true]; omega

/-- The head drop passes over frames with which the new one does not fit; their cells return (R104). -/
theorem headDrop_append {limit cells : Nat} (a b : List QEntry) (free : Nat)
    (h : ∀ c y d, a = c ++ y :: d → fits limit (y :: d ++ b) (free + cellsOf c) cells = false) :
    headDrop limit cells (a ++ b) free = headDrop limit cells b (free + cellsOf a) := by
  induction a generalizing free with
  | nil => simp [cellsOf]
  | cons e r ih =>
    have he : fits limit (e :: (r ++ b)) free cells = false := by simpa [cellsOf] using h [] e r rfl
    rw [List.cons_append, headDrop, if_neg (by simp [he]), ih (free + e.cells)]
    · simp [cellsOf, Nat.add_assoc]
    · intro c y d hr
      simpa [cellsOf, Nat.add_assoc] using h (e :: c) y d (by simp [hr])

/-- The head drop stops where the new frame fits. -/
theorem headDrop_of_fits {limit cells free : Nat} {b : List QEntry} (h : fits limit b free cells = true) :
    headDrop limit cells b free = (b, free) := by
  cases b with
  | nil => rfl
  | cons e r => exact if_pos h

/-- The head drop empties a queue when the new frame fits with no part of it. -/
theorem headDrop_all {limit cells : Nat} (a : List QEntry) (free : Nat)
    (h : limit < cells ∨ free + cellsOf a < cells) : headDrop limit cells a free = ([], free + cellsOf a) := by
  have := headDrop_append (limit := limit) (cells := cells) a [] free (fun c y d hc => fits_eq_false.2 (by
    subst hc
    simp only [cellsOf, List.map_append, List.sum_append] at h ⊢
    omega))
  simpa [headDrop] using this

/-- A frame that fits joins the queue's tail, whichever queue it is (R102). -/
theorem admitFrame_fits {p : Params} {q : QName} {x : QEntry} {e : Es}
    (h : fits (limitOf p q) (e.queue q) e.free x.cells = true) :
    admitFrame p q x e = ({ e.setQueue q (e.queue q ++ [x]) with free := e.free - x.cells }, true) := by
  cases q with
  | game =>
    have hd := headDrop_of_fits (b := e.game) h
    have hf : fits (limitOf p .game) e.game e.free x.cells = true := h
    simp [admitFrame, admitGame, hd, hf, Es.queue, Es.setQueue]
  | standard | bulk | update | node => exact if_pos h

/-- A queue other than GAME drops a frame that does not fit (R103). -/
theorem admitFrame_dropped {p : Params} {q : QName} {x : QEntry} {e : Es}
    (h : fits (limitOf p q) (e.queue q) e.free x.cells = false) (hq : q ≠ .game) : admitFrame p q x e = (e, false) := by
  cases q with
  | game => exact absurd rfl hq
  | standard | bulk | update | node => exact if_neg (by simp [h])

theorem admitGame_of_headDrop {limit n : Nat} {x : QEntry} {e : Es} {l : List QEntry}
    (h : headDrop limit x.cells e.game e.free = (l, n)) :
    admitGame limit x e = if fits limit l n x.cells then ({ e with game := l ++ [x], free := n - x.cells }, true)
      else ({ e with game := l, free := n }, false) := by
  simp [admitGame, h]

/-- Settles O18, queue by queue: the event queue by its mask and length, the control transmit queue by its length and what it
holds, the frame queues by what fits; GAME drops exactly the frames with which the new one does not fit. -/
theorem queuesWhenFull : Obligations.QueuesWhenFull := by
  refine ⟨fun r m => ⟨offerEvent_masked, offerEvent_joins, fun q e hm he hl => ?_⟩, fun c q =>
    ⟨joinControl_room, fun hl hc => joinControl_refused hl (.inl hc), fun hl hq => joinControl_refused hl (.inr hq),
      fun a b x hq ha hx hl hc => ?_⟩,
    fun p q x e => ⟨fun hl hf => admitFrame_fits (fits_eq_true.2 ⟨hl, hf⟩),
      fun hf hq => admitFrame_dropped (fits_eq_false.2 hf) hq, fun a b hq hg hl hf hd => ?_, fun hq hf => ?_⟩⟩
  · rw [offerEvent_overrun hm hl, he, markTail_append]
  · rw [joinControl_sighting hl hc ⟨x, by simp [hq], hx⟩, hq, eraseP_isSighting ha hx]
  · subst hq
    have fit : fits (limitOf p .game) b (e.free + cellsOf a) x.cells = true := fits_eq_true.2 ⟨hl, hf⟩
    have drop := headDrop_append a b e.free (fun c y d hc => fits_eq_false.2 (hd c y d hc))
    rw [headDrop_of_fits fit, ← hg] at drop
    exact (admitGame_of_headDrop drop).trans (if_pos fit)
  · subst hq
    have not : fits (limitOf p .game) [] (e.free + cellsOf e.game) x.cells = false :=
      fits_eq_false.2 (hf.imp_left (by simp [cellsOf]))
    exact (admitGame_of_headDrop (headDrop_all e.game e.free hf)).trans (if_neg (by simp [not]))

end Sys2Proof.Machine
end
section
/-! SUPPORT. Commands that a living part takes, timers' ends, and single Client Table entries (assumption log 7). -/

namespace Sys2Proof.Machine

theorem taken_alive {f : State → State} {s : State} (h : alive s = true) : taken f s = .next (f s) := by
  rw [taken, if_pos h]

theorem onExpiry_none (f : State → State) (s : State) : onExpiry none f s = s := rfl
theorem onExpiry_some (d : Nat) (f : State → State) (s : State) : onExpiry (some d) f s = f (runTo d s) := rfl

@[simp] theorem clientAt_runTo (d i : Nat) (s : State) : clientAt (runTo d s) i = clientAt s i := by simp [clientAt]
@[simp] theorem peerOf_runTo (d n : Nat) (s : State) : peerOf (runTo d s) n = peerOf s n := by simp [peerOf]
@[simp] theorem alive_runTo (d : Nat) (s : State) : alive (runTo d s) = alive s := by simp [alive]
@[simp] theorem running_runTo (d : Nat) (s : State) : running (runTo d s) = running s := by simp [running]
@[simp] theorem txWaits_runTo (d : Nat) (s : State) : txWaits (runTo d s) = txWaits s := by simp [txWaits]

theorem runTo_now (d : Nat) (s : State) : (runTo d s).now = max s.now d := by
  unfold runTo
  split
  · exact (max_eq_right (Nat.le_of_lt ‹_›)).symm
  · exact (max_eq_left (Nat.not_lt.mp ‹_›)).symm

/-! ## One Client Table entry -/

theorem modClient_some {i : Nat} {c : Client} {s : State} (f : Client → Client) (h : clientAt s i = some c) :
    modClient i f s = s.setRc { s.rc with clients := tabSet s.rc.clients i (f c) } := by
  simp [modClient, h, putClient, setClients]

theorem modClient_none {i : Nat} {s : State} (f : Client → Client) (h : clientAt s i = none) : modClient i f s = s := by
  simp [modClient, h]

theorem clientAt_modClient_self (i : Nat) (f : Client → Client) (s : State) :
    clientAt (modClient i f s) i = (clientAt s i).map f := by
  cases h : clientAt s i with
  | none => simp [modClient_none f h, h]
  | some c => simp [modClient_some f h, clientAt]

theorem clientAt_modClient_ne {i j : Nat} (f : Client → Client) (s : State) (h : j ≠ i) :
    clientAt (modClient i f s) j = clientAt s j := by
  cases hc : clientAt s i with
  | none => rw [modClient_none f hc]
  | some c => simp [modClient_some f hc, clientAt, tabGet_tabSet_ne _ _ h]

/-- Work of a role timer in the role that runs it (R24). -/
theorem roleExpiry_runs {i : Nat} {roles : Role → Bool} {f : Client → State → State} {c : Client} {s : State} {d : Nat}
    (hc : clientAt s i = some c) (ht : c.timer = some d) (hr : roles c.role = true) :
    roleExpiry i roles f s = f c (runTo d s) := by simp [roleExpiry, hc, hr, ht, onExpiry_some]

theorem roleExpiry_other {i : Nat} {roles : Role → Bool} {f : Client → State → State} {c : Client} {s : State}
    (hc : clientAt s i = some c) (hr : roles c.role = false) : roleExpiry i roles f s = s := by
  simp [roleExpiry, hc, hr]

/-! ## Removal of an entry (R25, R76) -/

theorem removeFlowsOf_flows (i : Nat) (s : State) :
    (removeFlowsOf i s).fc.flows = s.fc.flows.filter (fun e => e.2.client != i) := by simp [removeFlowsOf, dropGames]

theorem clientAt_removeFlowsOf_ne {i j : Nat} (s : State) (h : j ≠ i) :
    clientAt (removeFlowsOf i s) j = clientAt s j := by rw [removeFlowsOf, clientAt_modClient_ne _ _ h]; rfl

theorem removeClient_flows (i : Nat) (s : State) :
    (removeClient i s).fc.flows = s.fc.flows.filter (fun e => e.2.client != i) := removeFlowsOf_flows i s

theorem clientAt_removeClient_self (i : Nat) (s : State) : clientAt (removeClient i s) i = none :=
  tabGet_tabErase_self _ i

theorem clientAt_removeClient_ne {i j : Nat} (s : State) (h : j ≠ i) :
    clientAt (removeClient i s) j = clientAt s j :=
  (tabGet_tabErase_ne _ h).trans (clientAt_removeFlowsOf_ne s h)

/-! ## The timers of O39 -/

theorem exec_removalTimerExpiry {i : Nat} {c : Client} {d : Nat} {s : State} (ha : alive s = true)
    (hc : clientAt s i = some c) (ht : c.timer = some d) (hr : c.role = .orphan ∨ c.role = .departed) :
    exec (.removalTimerExpiry i) s = .next (removeClient i (runTo d s)) := by
  refine (taken_alive ha).trans (congrArg _ (roleExpiry_runs hc ht ?_))
  rcases hr with h | h <;> simp [h]

/-- The end of a reading: it goes, and nothing else (R29). -/
theorem exec_readingLapse_best {i : Nat} {c : Client} {b : BestReading} {s : State} (ha : alive s = true)
    (hc : clientAt s i = some c) (h : c.best = some b) :
    exec (.readingLapse i .best) s =
      .next (modClient i (fun x => { x with best := none }) (runTo (lapseOf s b.since) s)) := by
  show execReadingLapse i .best s = _
  rw [execReadingLapse, taken_alive ha]
  simp only [hc, h]

theorem exec_readingLapse_serving {i : Nat} {c : Client} {r : Signal} {s : State} (ha : alive s = true)
    (hc : clientAt s i = some c) (h : c.servingReading = some r) :
    exec (.readingLapse i .serving) s =
      .next (modClient i (fun x => { x with servingReading := none, better := 0 }) (runTo (lapseOf s r.since) s)) := by
  show execReadingLapse i .serving s = _
  rw [execReadingLapse, taken_alive ha]
  simp only [hc, h]

theorem exec_readingLapse_absent {i : Nat} {c : Client} {which : ReadingKind} {s : State} (ha : alive s = true)
    (hc : clientAt s i = some c)
    (h : (which = .best ∧ c.best = none) ∨ (which = .serving ∧ c.servingReading = none)) :
    exec (.readingLapse i which) s = .next s := by
  show execReadingLapse i which s = _
  rw [execReadingLapse, taken_alive ha]
  rcases h with ⟨rfl, h⟩ | ⟨rfl, h⟩
  · simp only [hc, h]
  · simp only [hc, h]

theorem exec_readingLapse_free {i : Nat} {which : ReadingKind} {s : State} (ha : alive s = true)
    (hc : clientAt s i = none) : exec (.readingLapse i which) s = .next s := by
  show execReadingLapse i which s = _
  simp only [execReadingLapse, taken_alive ha, hc]

theorem exec_holddownExpiry {i : Nat} {c : Client} {s : State} (ha : alive s = true) (hc : clientAt s i = some c) :
    exec (.holddownExpiry i) s = .next (runTo c.holddownEnds s) := by
  show execHolddownExpiry i s = _
  simp only [execHolddownExpiry, taken_alive ha, hc]

theorem exec_holddownExpiry_free {i : Nat} {s : State} (ha : alive s = true) (hc : clientAt s i = none) :
    exec (.holddownExpiry i) s = .next s := by
  show execHolddownExpiry i s = _
  simp only [execHolddownExpiry, taken_alive ha, hc]

/-- Settles O39, timer by timer: one that does not run, or belongs to another role, does nothing; one that runs brings time to
its end and writes the one entry it times. -/
theorem timersEndWhatTheyTime : Obligations.TimersEndWhatTheyTime := by
  refine ⟨⟨fun n s ha => ⟨fun h => ?_, fun d h => ?_⟩, fun s ha => ⟨fun h => ?_, fun d h => ?_⟩, fun i c s ha hc =>
    ⟨fun h => ?_, fun h => ?_, fun b h => ?_, fun r h => ?_, ?_⟩, fun i which s ha hc => ⟨?_, ?_⟩⟩,
    fun i c d s ha hc ht => ⟨fun h => ?_, fun h => ?_, fun h => ?_, fun h h' => ?_, fun h => ?_, fun h => ?_, fun h => ?_⟩⟩
  · exact (taken_alive ha).trans (by rw [h, onExpiry_none])
  · exact (taken_alive ha).trans (by rw [h, onExpiry_some]; simp [State.setBu])
  · exact (taken_alive ha).trans (by rw [h, onExpiry_none])
  · exact (taken_alive ha).trans (by rw [h, onExpiry_some]; simp [State.setRc])
  · exact exec_readingLapse_absent ha hc (.inl ⟨rfl, h⟩)
  · exact exec_readingLapse_absent ha hc (.inr ⟨rfl, h⟩)
  · simp [exec_readingLapse_best ha hc h, modClient_some _ ((clientAt_runTo _ i s).trans hc), lapseOf, State.setRc,
      Config.msNs]
  · simp [exec_readingLapse_serving ha hc h, modClient_some _ ((clientAt_runTo _ i s).trans hc), lapseOf,
      State.setRc, Config.msNs]
  · exact exec_holddownExpiry ha hc
  · exact exec_readingLapse_free ha hc
  · exact exec_holddownExpiry_free ha hc
  · exact (taken_alive ha).trans (congrArg _ (roleExpiry_other hc (by simpa using h)))
  · exact (taken_alive ha).trans (congrArg _ (roleExpiry_other hc (by simpa using h)))
  · exact (taken_alive ha).trans (congrArg _ (roleExpiry_other hc (by simpa using h)))
  · exact (taken_alive ha).trans (congrArg _ (roleExpiry_other hc (by simpa using ⟨h, h'⟩)))
  · refine (taken_alive ha).trans (congrArg _ ((roleExpiry_runs hc ht (by simp [h])).trans ?_))
    rw [toRole_leaving _ ((clientAt_runTo d i s).trans hc) (by decide)]
    simp [changeRole, roleTimer, isServing, h, State.setRc]
  · refine (taken_alive ha).trans (congrArg _ ((roleExpiry_runs hc ht (by simp [h])).trans ?_))
    rw [toRole_leaving _ ((clientAt_runTo d i s).trans hc) (by decide)]
    simp [changeRole, roleTimer, isServing, h, State.setRc, setHolddown, Config.secNs]
  · refine ⟨_, exec_removalTimerExpiry ha hc ht h, clientAt_removeClient_self i _, fun j hj => ?_, ?_⟩
    · rw [clientAt_removeClient_ne _ hj, clientAt_runTo]
    · simp [removeClient_flows]

end Sys2Proof.Machine
end
section
/-! SUPPORT. Entries found by their station address, offers that leave a busy transmitter waiting, and carried frames (R8, R23,
R40, R41, R102). -/

namespace Sys2Proof.Machine

/-! ## Tables written twice, entries found by address -/

theorem tabSet_tabSet {α : Type} (t : Table α) (i : Nat) (v w : α) : tabSet (tabSet t i v) i w = tabSet t i w := by
  induction t with
  | nil => simp [tabSet]
  | cons p r ih =>
    obtain ⟨j, u⟩ := p
    by_cases hlt : i < j
    · simp [tabSet, hlt]
    · by_cases heq : i = j
      · simp [tabSet, heq]
      · simp [tabSet, hlt, heq, ih]

/-- An entry found first stays the one found when its contents change and what it is found by does not. -/
theorem find?_tabSet {α : Type} {t : Table α} {i : Nat} {c v : α} {f : α → Bool}
    (h : t.find? (fun p => f p.2) = some (i, c)) (hv : f v = true) :
    (tabSet t i v).find? (fun p => f p.2) = some (i, v) := by
  induction t with
  | nil => cases h
  | cons p r ih =>
    obtain ⟨j, u⟩ := p
    by_cases hu : f u = true
    · obtain ⟨rfl, rfl⟩ : j = i ∧ u = c := by simpa [List.find?_cons_of_pos, hu] using h
      simp [tabSet, hv]
    · have hr : r.find? (fun p => f p.2) = some (i, c) := by simpa [List.find?_cons_of_neg, hu] using h
      by_cases hlt : i < j
      · simp [tabSet, hlt, hv]
      · by_cases heq : i = j
        · simp [tabSet, heq, hv]
        · simp [tabSet, hlt, heq, List.find?_cons_of_neg, hu, ih hr]

/-- An entry found by an address has that address, which is no group address (R23). -/
theorem findClient_some {s : State} {a : Addr} {i : Nat} {c : Client} (h : findClient s a = some (i, c)) :
    c.addr = a ∧ isGroup a = false := by
  unfold findClient at h
  split at h
  · cases h
  · exact ⟨by simpa using List.find?_some h, by simpa using ‹¬ isGroup a = true›⟩

theorem findClient_eq {s : State} {a : Addr} (h : isGroup a = false) :
    findClient s a = s.rc.clients.find? (fun p => p.2.addr == a) := by simp [findClient, h]

/-- After a change of its contents an entry is found by its address as before (R23). -/
theorem findClient_tabSet {s t : State} {a : Addr} {i : Nat} {c v : Client} (h : findClient s a = some (i, c))
    (hv : v.addr = c.addr) (ht : t.rc.clients = tabSet s.rc.clients i v) : findClient t a = some (i, v) := by
  obtain ⟨hc, hg⟩ := findClient_some h
  rw [findClient_eq hg] at h ⊢
  rw [ht]
  exact find?_tabSet (f := fun x : Client => x.addr == a) h (by simp [hv, hc])

/-! ## Offers, with both transmitters busy or held -/

/-- An admission leaves the transmitters and the pause as they were (R102). -/
@[simp] theorem admitFrame_tx (p : Params) (q : QName) (x : QEntry) (e : Es) :
    (admitFrame p q x e).1.nodeTx = e.nodeTx ∧ (admitFrame p q x e).1.backhaulTx = e.backhaulTx ∧
      (admitFrame p q x e).1.pause = e.pause := by
  cases q with
  | game =>
    simp only [admitFrame, admitGame]
    split <;> exact ⟨rfl, rfl, rfl⟩
  | standard | bulk | update | node =>
    simp only [admitFrame, admitTail, Es.setQueue]
    split <;> exact ⟨rfl, rfl, rfl⟩

theorem nodePump_busy {s : State} (h : s.es.nodeTx.isSome = true) : nodePump s = s := by
  have : nodePortReady s = false := by simp [nodePortReady, Option.isNone_eq_false_iff.mpr h]
  simp [nodePump, this]

theorem offer_running {q : QName} {x : QEntry} {s : State} (h : running s = true) :
    offer q x s = (s.setEs (admitFrame s.sl.params q x s.es).1, (admitFrame s.sl.params q x s.es).2) := if_pos h

theorem offerClass_running {c : Class} {x : QEntry} {s : State} (h : running s = true) :
    offerClass c x s =
      (let r := admitFrame s.sl.params (queueName c) x s.es
       ({ s with
          es := r.1
          fc := if r.2 then { s.fc with arrivals := s.fc.arrivals.put c (addBytes (s.fc.arrivals.at c) x.len) } else s.fc },
        r.2)) := by
  simp only [offerClass, offer_running h, countArrival]
  split <;> rfl

/-! ## A carried frame for this node -/

theorem touch_some {i : Nat} {c : Client} {s : State} (h : clientAt s i = some c) :
    touch i s = s.setRc { s.rc with clients := tabSet s.rc.clients i { c with lastActivity := s.now } } :=
  modClient_some _ h

/-- A carried frame that passes its checks and is for this node reaches it (R2, R3, R8). -/
theorem receiveCarried_delivered {f : CarriedFrame} {p : Peer} {c : Class} {s : State}
    (k : Class → List Byte → State → State) (hl : live s = true)
    (hm : fromMesh f.frameType f.meshTag f.source f.dest s = true) (hp : peerOf s f.source.toNat = some p)
    (ha : p.addr = f.srcAddr) (hd : f.dest.toNat = s.sl.params.node) (hc : carrierClass f.cls = some c)
    (h14 : 14 ≤ f.frameLen.toNat) (h1536 : f.frameLen.toNat ≤ 1536) (hb : f.frameLen.toNat ≤ f.bytes.length) :
    receiveCarried f k s = k c (f.bytes.take f.frameLen.toNat) s := by
  have hr : running s = true := by simp only [live, Bool.and_eq_true] at hl; exact hl.2
  simp [receiveCarried, portTakes_fromMesh hm hr, hc, hb, h14, h1536, gate_fromMesh (a := f.srcAddr) hm hp, ha, hd]

/-- The node-side delivery of uplink traffic while the node port sends (R40). -/
theorem uplinkDelivery_busy {c : Class} {frame : List Byte} {s : State} (hr : running s = true)
    (hn : s.es.nodeTx.isSome = true) :
    uplinkDelivery c frame s = { s with
      es := if s.sl.params.uplink
        then (admitFrame s.sl.params .node (mkEntry frame.length c (.nodeSide false frame)) s.es).1 else s.es } := by
  unfold uplinkDelivery
  split
  · rw [nodePump_busy (by simp [offerFrame, offer_running hr, hn])]
    simp [offerFrame, offer_running hr, State.setEs, *]
  · simp [*]

/-- An admitted frame marks the entry it was found with active (R79). -/
theorem markActive_found {a : Addr} {i : Nat} {c : Client} {s : State} (h : findClient s a = some (i, c))
    (hs : isServing c.role = true) : markActive a s = putClient i { c with active := true } s := by
  simp [markActive, h, hs]

section
variable {f : CarriedFrame} {cls : Class} {frame : List Byte} {s : State} {i : Nat} {c : Client}

theorem takeCarried_unknown (h : findClient s (addrAt 0 frame) = none) :
    takeCarried f cls frame s = uplinkDelivery cls frame s := by simp [takeCarried, h]

theorem takeCarried_serving (h : findClient s (addrAt 0 frame) = some (i, c)) (hr : isServing c.role = true) :
    takeCarried f cls frame s = if c.verdict = some .blocked then touch i s
      else nodePump (if (offerFrame (.nodeSide true) cls false frame (touch i s)).2
        then markActive c.addr (offerFrame (.nodeSide true) cls false frame (touch i s)).1
        else (offerFrame (.nodeSide true) cls false frame (touch i s)).1) := by
  have : c.role = .served ∨ c.role = .handing := by simpa [isServing] using hr
  rcases this with hr | hr <;> simp [takeCarried, h, hr]

theorem takeCarried_elsewhere (h : findClient s (addrAt 0 frame) = some (i, c))
    (hr : c.role = .remote ∨ c.role = .claiming ∨ c.role = .expecting) :
    takeCarried f cls frame s = if isReForwarded f then touch i s
      else wake (offerFrame (.peer c.serving) cls true frame (touch i s)).1 := by
  rcases hr with hr | hr | hr <;> simp [takeCarried, h, hr]

theorem takeCarried_gone (h : findClient s (addrAt 0 frame) = some (i, c))
    (hr : c.role = .orphan ∨ c.role = .departed) :
    takeCarried f cls frame s = uplinkDelivery cls frame (touch i s) := by
  rcases hr with hr | hr <;> simp [takeCarried, h, hr]

end

/-- Settles O29, by the role of the destination's entry; with the transmitters busy the queues alone take the frame. -/
theorem carriedFrameGoesByRole : Obligations.CarriedFrameGoesByRole := by
  intro f p cls s hl hw hn hm hp ha hd hc h14 h1536 hb frame up down
  have hr : running s = true := by simp only [live, Bool.and_eq_true] at hl; exact hl.2
  have hlive : alive s = true := by simp only [live, Bool.and_eq_true] at hl; exact hl.1
  have hlen : frame.length = f.frameLen.toNat := by simp [frame, hb]
  have he : exec (.carriedFrameReceive f) s = .next (takeCarried f cls frame s) :=
    (taken_alive hlive).trans (congrArg _ (receiveCarried_delivered _ hl hm hp ha hd hc h14 h1536 hb))
  rw [he]
  refine ⟨fun h => ?_, fun i c hf => ?_⟩
  · rw [takeCarried_unknown h, uplinkDelivery_busy hr hn, hlen]
  · obtain ⟨hf, hi⟩ := hf
    intro seen on
    have ht : touch i s = s.setRc seen := touch_some hi
    have hr' : running (s.setRc seen) = true := hr
    refine ⟨fun h hv => ?_, fun h hv => ?_, fun h hre => ?_, fun h hre => ?_, fun h => ?_⟩
    · rw [takeCarried_serving hf h, if_pos hv, ht]; rfl
    · rw [takeCarried_serving hf h, if_neg hv, ht]
      simp only [offerFrame, offer_running hr', hlen]
      have hfound := findClient_tabSet (t := (s.setRc seen).setEs down.1) hf
        (v := { c with lastActivity := s.now }) rfl rfl
      rw [← (findClient_some hf).1] at hfound
      cases hd : down.2 with
      | false =>
        rw [if_neg (by simpa [down] using hd), nodePump_busy (by simp [hn])]
        simp [State.setRc, State.setEs, seen, down]
      | true =>
        rw [if_pos (by simpa [down] using hd), nodePump_busy (by simp [hn])]
        refine congrArg _ ((markActive_found hfound h).trans ?_)
        simp [putClient, setClients, State.setRc, State.setEs, seen, tabSet_tabSet]
    · rw [takeCarried_elsewhere hf h, if_pos (show isReForwarded f = true from hre), ht]; rfl
    · rw [takeCarried_elsewhere hf h, if_neg (by simpa [isReForwarded, bitOf] using hre), ht]
      simp only [offerFrame, offerClass_running hr', hlen]
      rw [wake_waits (by simpa [txWaits] using hw)]
      rfl
    · rw [takeCarried_gone hf h, ht, uplinkDelivery_busy hr' hn, hlen]
      rfl

end Sys2Proof.Machine
end
section
/-! SUPPORT. What the two transmitters take when they end a frame (R4, R12, R42, R106 to R112). -/

namespace Sys2Proof.Machine

/-- The PULSE is built as R12 states. -/
theorem pulseBody_eq_advertisement (d : Quad) (s : State) : pulseBody d s = advertisement d s := by
  have served : servedCount s =
      (s.rc.clients.filter (fun q => decide (q.2.role = .served ∨ q.2.role = .handing))).length := by
    rw [servedCount, List.countP_eq_length_filter]
    congr 1
    exact List.filter_congr fun q _ => by cases q.2.role <;> rfl
  have held : heldCount s = (s.ie.presence.filter (fun q => q.2 = .present)).length := by
    rw [heldCount, List.countP_eq_length_filter]
    congr 1
  have image : advertised s = match s.ie.inc with
      | .filling | .checking | .ready => s.ie.incDesc
      | .empty | .erasing | .rejected => s.ie.activeDesc := by
    unfold advertised
    cases s.ie.inc <;> rfl
  have active : activeNumber s = (s.ie.activeDesc.map Desc.number).getD 0 := by
    unfold activeNumber
    cases s.ie.activeDesc <;> rfl
  simp only [pulseBody, advertisement, served, held, image, active]
  cases s.ac.state <;> rfl

/-- The transmitter is READY once its frame has ended, outside a pause (R106). -/
theorem wake_ready {s : State} (hr : running s = true) (ht : s.es.backhaulTx = none) (hp : s.es.pause = none) :
    backhaulReady s = true := by simp [backhaulReady, hr, ht, hp]

section
variable {s : State} (h : backhaulReady s = true)
include h

/-- A bulletin waiting goes first (R109). -/
theorem wake_bulletin {target : Nat} {b : Body} {r : List Control} (hc : s.bu.control = .bulletin target b :: r) :
    wake s = txBulletin target b (s.setBu { s.bu with control := r }) := by simp [wake, h, hc]

theorem wake_pulse {timed : Bool} {r : List Control} (hc : s.bu.control = .pulse timed :: r) :
    wake s = takePulse timed (s.setBu { s.bu with control := r }) := by simp [wake, h, hc]

/-- With no bulletin waiting the class chosen is served (R107). -/
theorem wake_class {c : Class} (hc : s.bu.control = []) (hcl : chooseClass s.es = some c) : wake s = takeClass c s := by
  simp [wake, h, hc, hcl]

theorem wake_idle (hc : s.bu.control = []) (hcl : chooseClass s.es = none) : wake s = s := by simp [wake, h, hc, hcl]

end

theorem classFound_eq_true {e : Es} {c : Class} :
    classFound e c = true ↔ e.queue (queueName c) ≠ [] ∧ 0 < e.tokens.at c := by simp [classFound]

theorem classFound_eq_false {e : Es} {c : Class} :
    classFound e c = false ↔ e.queue (queueName c) = [] ∨ e.tokens.at c ≤ 0 := by
  rw [← Bool.not_eq_true, classFound_eq_true]
  by_cases hq : e.queue (queueName c) = []
  · simp [hq]
  · simp [hq]

theorem chooseClass_game {e : Es} (h : classFound e .game = true) : chooseClass e = some .game := by
  simp [chooseClass, h]

/-- GAME not found, the classes are looked at in their cycle from the pointer on (R107, R108). -/
theorem chooseClass_cycle {e : Es} (h : classFound e .game = false) :
    chooseClass e = [e.pointer, nextClass e.pointer, nextClass (nextClass e.pointer)].find? (classFound e) := by
  simp [chooseClass, h]

theorem chooseClass_found {e : Es} {c : Class} (hg : classFound e .game = false) (hc : classFound e c = true)
    (h : c = e.pointer ∨ (c = nextClass e.pointer ∧ classFound e e.pointer = false) ∨
      (c = nextClass (nextClass e.pointer) ∧ classFound e e.pointer = false ∧
        classFound e (nextClass e.pointer) = false)) : chooseClass e = some c := by
  rw [chooseClass_cycle hg]
  rcases h with rfl | ⟨rfl, h1⟩ | ⟨rfl, h1, h2⟩
  · simp [hc]
  · simp [hc, h1]
  · simp [hc, h1, h2]

theorem chooseClass_none {e : Es} (h : ∀ c, classFound e c = false) : chooseClass e = none := by
  simp [chooseClass_cycle (h .game), h]

/-- The frame-end of a transmitter that sends: time comes to its end, and a choice is made (R106). -/
theorem exec_backhaulTxDone {s : State} {fr : TxFrame} (ha : alive s = true) (h : s.es.backhaulTx = some fr) :
    exec .backhaulTxDone s = .next (wake ((runTo fr.ends s).setEs { s.es with backhaulTx := none })) := by
  show execBackhaulTxDone s = _
  rw [execBackhaulTxDone, taken_alive ha]
  simp [h]

theorem exec_nodePortTxDone {s : State} {fr : TxFrame} (ha : alive s = true) (h : s.es.nodeTx = some fr) :
    exec .nodePortTxDone s = .next (nodePump ((runTo fr.ends s).setEs { s.es with nodeTx := none })) := by
  show execNodePortTxDone s = _
  rw [execNodePortTxDone, taken_alive ha]
  simp [h]

/-- A transmitter that sends nothing ends no frame (assumption log 8). -/
theorem exec_txDone_idle {s : State} (ha : alive s = true) :
    (s.es.backhaulTx = none → exec .backhaulTxDone s = .next s) ∧
      (s.es.nodeTx = none → exec .nodePortTxDone s = .next s) := by
  constructor
  · intro h
    show execBackhaulTxDone s = _
    rw [execBackhaulTxDone, taken_alive ha]
    simp [h]
  · intro h
    show execNodePortTxDone s = _
    rw [execNodePortTxDone, taken_alive ha]
    simp [h]

/-- A round-robin class is not GAME. -/
theorem nextClass_ne_game (c : Class) : nextClass c ≠ .game := by cases c <;> decide

theorem nextClass_eq (c : Class) :
    nextClass c = if c = .standard then Class.bulk else if c = .bulk then .update else .standard := by cases c <;> rfl

/-- A READY transmitter with no bulletin waiting takes the head of the class it chooses (R109, R111). -/
theorem wake_head {c : Class} {x : QEntry} {r : List QEntry} {s : State} (h : backhaulReady s = true)
    (hc : s.bu.control = []) (hcl : chooseClass s.es = some c) (hq : s.es.queue (queueName c) = x :: r) :
    wake s = sendEntry x (s.setEs (takeHead c x r s.es)) := by
  rw [wake_class h hc hcl]
  simp [takeClass, hq]

/-- The queues and the counts are what a choice goes by; what was being sent is not (R107). -/
theorem classFound_backhaulTx (e : Es) (b : Option TxFrame) (c : Class) :
    classFound { e with backhaulTx := b } c = classFound e c := by cases c <;> rfl

theorem queue_backhaulTx (e : Es) (b : Option TxFrame) (q : QName) : ({ e with backhaulTx := b } : Es).queue q = e.queue q := by
  cases q <;> rfl

theorem nodePump_empty {s : State} (h : s.es.node = []) : nodePump s = s := by simp [nodePump, h]

/-- A node port that may take an entry sends the NODE-SIDE head (R42, R112). -/
theorem nodePump_head {x : QEntry} {r : List QEntry} {tc : Bool} {frame : List Byte} {s : State}
    (h : nodePortReady s = true) (hq : s.es.node = x :: r) (hx : x.load = .nodeSide tc frame) :
    nodePump s = s.setEs { s.es with
      node := r
      free := s.es.free + x.cells
      nodeTx := some { bytes := nodeItemBytes tc x.cls frame,
                       ends := s.now + wireNs s.pins.straps.ndFast (nodeItemBytes tc x.cls frame).length } } := by
  simp [nodePump, h, hq, hx]

/-- Time that runs on touches the instant and the clock alone. -/
theorem runTo_cases (d : Nat) (s : State) : ∃ n x, runTo d s = { s with now := n, su := x } := by
  unfold runTo
  split
  · exact ⟨d, _, rfl⟩
  · exact ⟨s.now, s.su, rfl⟩

/-- Settles O35, by what waits: a bulletin, then GAME, then the cycle from the pointer; NODE-SIDE by its queue. -/
theorem transmittersTakeTheNextEntry : Obligations.TransmittersTakeTheNextEntry := by
  intro s hl
  have ha : alive s = true := by simp only [live, Bool.and_eq_true] at hl; exact hl.1
  have hr : running s = true := by simp only [live, Bool.and_eq_true] at hl; exact hl.2
  refine ⟨(exec_txDone_idle ha).1, (exec_txDone_idle ha).2, fun fr h => ?_, fun fr h => ?_⟩
  · rw [exec_backhaulTxDone ha h]
    obtain ⟨n, y, hu⟩ := runTo_cases fr.ends s
    rw [hu]
    intro u
    have ready (hp : s.es.pause = none) : backhaulReady (u.setEs { s.es with backhaulTx := none }) = true :=
      wake_ready hr rfl hp
    refine ⟨fun hp => ?_, fun target b r hp hc => ?_, fun r hp hc => ?_, fun x r dest re frame hp hc hg ht hx => ?_, ?_⟩
    · rw [wake_waits (by simp [txWaits, hp])]
      rfl
    · rw [wake_bulletin (ready hp) hc]
      rfl
    · rw [wake_pulse (ready hp) hc, takePulse, pulseBody_eq_advertisement]
      rfl
    · have found : classFound s.es .game = true :=
        classFound_eq_true.2 ⟨by simp [Es.queue, queueName, hg], by simpa [IntQuad.at] using ht⟩
      rw [wake_head (c := .game) (ready hp) hc (chooseClass_game ((classFound_backhaulTx _ _ _).trans found)) hg,
        sendEntry, hx]
      rfl
    · intro next misses first second third
      have hn (c : Class) : next c = nextClass c := (nextClass_eq c).symm
      have missed {c : Class} (h : misses c) : classFound { s.es with backhaulTx := none } c = false :=
        (classFound_backhaulTx s.es none c).trans (classFound_eq_false.2 h)
      refine ⟨fun c x r hp hc hg hcy hq ht => ?_, fun hp hc hg h1 h2 h3 => ?_⟩
      · have found : classFound { s.es with backhaulTx := none } c = true :=
          (classFound_backhaulTx s.es none c).trans (classFound_eq_true.2 ⟨by simp [hq], ht⟩)
        have choice : chooseClass { s.es with backhaulTx := none } = some c := chooseClass_found (missed hg) found
          (hcy.imp id (Or.imp (fun h => ⟨h.1.trans (hn _), missed h.2⟩)
            (fun h => ⟨by rw [← hn, ← hn]; exact h.1, missed h.2.1, by rw [← hn]; exact missed h.2.2⟩)))
        rw [wake_head (ready hp) hc choice ((queue_backhaulTx _ _ _).trans hq)]
        intro served
        cases c with
        | game => simp [missed hg] at found
        | standard | bulk | update =>
          exact ⟨fun dest re frame hx => by rw [sendEntry, hx]; rfl, fun target b hx => by rw [sendEntry, hx]; rfl⟩
      · rw [wake_idle (ready hp) hc (chooseClass_none fun c => ?_)]
        · rfl
        · cases c with
          | game => exact missed hg
          | standard => exact missed h1
          | bulk => exact missed h2
          | update => exact missed h3
  · rw [exec_nodePortTxDone ha h]
    obtain ⟨n, y, hu⟩ := runTo_cases fr.ends s
    rw [hu]
    intro u
    have ready : nodePortReady (u.setEs { s.es with nodeTx := none }) = true := by
      simpa [nodePortReady, running] using hr
    refine ⟨fun hq => ?_, fun x r tc frame hq hx => ?_⟩
    · exact congrArg _ (nodePump_empty (s := u.setEs { s.es with nodeTx := none }) hq)
    · rw [nodePump_head ready hq hx]
      rfl

end Sys2Proof.Machine
end
section
/-! SUPPORT. Fetches: how they are failed back and how they are issued (R145, R146). -/

namespace Sys2Proof.Machine

/-! ## Tables written at a list of indexes -/

theorem tabGet_foldl_tabSet {α : Type} (l : List Nat) (p : Table α) (v : α) (k : Nat) :
    tabGet (l.foldl (fun q i => tabSet q i v) p) k = if k ∈ l then some v else tabGet p k := by
  induction l generalizing p with
  | nil => simp
  | cons i r ih =>
    rw [List.foldl_cons, ih]
    by_cases hk : k = i
    · subst hk; simp
    · simp [hk, tabGet_tabSet_ne p v hk]

theorem tabGet_unrequest (p : Table ChunkState) (i k : Nat) :
    tabGet (unrequest p i) k = if k = i ∧ tabGet p k = some .requested then none else tabGet p k := by
  unfold unrequest
  by_cases hk : k = i
  · subst hk
    split <;> simp [*]
  · split
    · simp [hk, tabGet_tabErase_ne p hk]
    · simp [hk]

theorem tabGet_foldl_unrequest (l : List Nat) (p : Table ChunkState) (k : Nat) :
    tabGet (l.foldl unrequest p) k = if k ∈ l ∧ tabGet p k = some .requested then none else tabGet p k := by
  induction l generalizing p with
  | nil => simp
  | cons i r ih =>
    rw [List.foldl_cons, ih, tabGet_unrequest]
    by_cases hk : k = i
    · by_cases hp : tabGet p k = some .requested
      · simp [hk, hk ▸ hp]
      · simp [hp]
    · simp [hk]

theorem mem_runOf {f : Fetch} {k : Nat} : k ∈ runOf f ↔ inRun f k := by
  simp only [runOf, List.mem_map, List.mem_range, inRun]
  constructor
  · rintro ⟨j, hj, rfl⟩; omega
  · rintro ⟨h1, h2⟩; exact ⟨k - f.first, by omega, by omega⟩

/-- A chunk is missing after a fetch was failed back when it was, or when the fetch had requested it and not received it
(R146). -/
theorem tabGet_failFetch (f : Fetch) (e : Ie) (k : Nat) :
    tabGet (failFetch f e).presence k =
      if f.first ≤ k ∧ k < f.first + f.count ∧ k ∉ f.received ∧ tabGet e.presence k = some .requested then none
      else tabGet e.presence k := by
  have hm : k ∈ (runOf f).filter (fun j => !f.received.contains j) ↔
      f.first ≤ k ∧ k < f.first + f.count ∧ k ∉ f.received := by
    simp [List.mem_filter, mem_runOf, inRun, and_assoc]
  simp only [failFetch, tabGet_foldl_unrequest, hm, and_assoc]

/-! ## The peer to fetch from -/

theorem mem_nodes {n : Nat} : n ∈ nodes ↔ 1 ≤ n ∧ n ≤ 8 := by
  simp only [nodes, List.mem_cons, List.not_mem_nil, or_false]
  omega

theorem nodes_pairwise : nodes.Pairwise (· < ·) := by decide

/-- The sum of demands a peer advertises (R145). -/
def demandSum (s : State) (n : Nat) : Nat := ((peerOf s n).map (fun p => p.adv.demand.sum)).getD 0

theorem cheaper_eq (s : State) (a b : Nat) : cheaper s a b = if demandSum s b < demandSum s a then b else a := rfl

theorem mayFetchFrom_iff {s : State} {d : Desc} {n : Nat} :
    mayFetchFrom d s n ↔ n ∈ nodes.filter (fetchEligible s d) := by
  rw [List.mem_filter, mem_nodes, mayFetchFrom, fetchEligible, and_assoc]
  cases peerOf s n with
  | none => simp
  | some p => simp [and_assoc, imp_iff_not_or]

/-- Of rising node numbers the fold keeps the one with the lowest sum, the lower number between equals (R145). -/
theorem foldl_cheaper (s : State) (l : List Nat) (a : Nat) (h : (a :: l).Pairwise (· < ·)) :
    l.foldl (cheaper s) a ∈ a :: l ∧
      ∀ m ∈ a :: l, demandSum s (l.foldl (cheaper s) a) < demandSum s m ∨
        (demandSum s (l.foldl (cheaper s) a) = demandSum s m ∧ l.foldl (cheaper s) a ≤ m) := by
  induction l generalizing a with
  | nil => simp
  | cons b r ih =>
    rw [List.pairwise_cons, List.pairwise_cons] at h
    obtain ⟨hab, hb, hr⟩ := h
    have hlt : a < b := hab b (by simp)
    rw [List.foldl_cons]
    generalize hc : cheaper s a b = c
    have hcr : (c :: r).Pairwise (· < ·) := by
      rw [List.pairwise_cons]
      refine ⟨fun x hx => ?_, hr⟩
      rw [← hc, cheaper_eq]
      split
      · exact hb x hx
      · exact hab x (by simp [hx])
    obtain ⟨hmem, hmin⟩ := ih c hcr
    have hmin_c := hmin c (by simp)
    refine ⟨?_, fun m hm => ?_⟩
    · rcases List.mem_cons.1 hmem with hm | hm
      · rw [hm, ← hc, cheaper_eq]
        split <;> simp
      · simp [hm]
    · rcases List.mem_cons.1 hm with rfl | hm
      · rw [cheaper_eq] at hc
        split at hc
        · subst hc; omega
        · subst hc; exact hmin_c
      · rcases List.mem_cons.1 hm with rfl | hm
        · rw [cheaper_eq] at hc
          split at hc
          · subst hc; exact hmin_c
          · subst hc; omega
        · exact hmin m (by simp [hm])

/-- The peer a fetch is issued to is eligible, and none eligible is cheaper (R145). -/
def Cheapest (d : Desc) (s : State) (n : Nat) : Prop :=
  mayFetchFrom d s n ∧
    ∀ m, mayFetchFrom d s m → demandSum s n < demandSum s m ∨ (demandSum s n = demandSum s m ∧ n ≤ m)

theorem fetchPeer_cheapest {s : State} {d : Desc} {n : Nat} (h : fetchPeer s d = some n) : Cheapest d s n := by
  unfold fetchPeer at h
  split at h
  · cases h
  · rename_i a r hl
    obtain rfl := Option.some.inj h
    have hs : (a :: r).Pairwise (· < ·) := hl ▸ nodes_pairwise.filter _
    obtain ⟨hmem, hmin⟩ := foldl_cheaper s r a hs
    exact ⟨mayFetchFrom_iff.2 (hl ▸ hmem), fun m hm => hmin m (hl ▸ mayFetchFrom_iff.1 hm)⟩

theorem fetchPeer_none {s : State} {d : Desc} (h : fetchPeer s d = none) (n : Nat) : ¬ mayFetchFrom d s n := by
  unfold fetchPeer at h
  split at h
  · rename_i hl
    simp [mayFetchFrom_iff, hl]
  · cases h

/-! ## The run of missing chunks -/

theorem missingRun_spec (p : Table ChunkState) (total n k : Nat) :
    missingRun p total n k ≤ n ∧
      (∀ j, k ≤ j → j < k + missingRun p total n k → j < total ∧ tabGet p j = none) ∧
      (missingRun p total n k = n ∨ total ≤ k + missingRun p total n k ∨ tabGet p (k + missingRun p total n k) ≠ none) := by
  induction n generalizing k with
  | zero => simp [missingRun]; intro j h1 h2; omega
  | succ n ih =>
    rw [missingRun]
    split
    · rename_i hk
      obtain ⟨h1, h2, h3⟩ := ih (k + 1)
      refine ⟨by omega, fun j hj hj' => ?_, ?_⟩
      · by_cases hjk : j = k
        · subst hjk; exact ⟨hk.1, by simpa using hk.2⟩
        · exact h2 j (by omega) (by omega)
      · rw [show k + (1 + missingRun p total n (k + 1)) = k + 1 + missingRun p total n (k + 1) by omega]
        rcases h3 with h3 | h3 | h3
        · left; omega
        · exact .inr (.inl h3)
        · exact .inr (.inr h3)
    · rename_i hk
      refine ⟨by omega, fun j hj hj' => by omega, ?_⟩
      by_cases hkt : k < total
      · right; right; simpa [hkt] using hk
      · right; left; omega

end Sys2Proof.Machine
end
section
/-! SUPPORT. What the issue of fetches amounts to, whatever their number (R145, R146). -/

namespace Sys2Proof.Machine

/-- The state u with these fetches issued, and with this presence map (R10, R145). -/
def issuedState (d : Desc) (u : State) (more : List Fetch) (p : Table ChunkState) : State :=
  { u with
    ie := { u.ie with
      fetches := u.ie.fetches ++ more, fetchCounter := u.ie.fetchCounter + BitVec.ofNat 16 more.length
      presence := p }
    bu := if running u then { u.bu with
        control := more.foldl (fun c f => joinControl (.bulletin f.peer (.fetch d.number f.first f.count f.number)) c)
          u.bu.control } else u.bu }

/-- The new fetches and what they have made of the state, without what ends their issue: the invariant of the loop that issues
them, in which every missing chunk lies past their runs (R145). -/
structure Issuing (d : Desc) (u t : State) (more : List Fetch) : Prop where
  eq : t = issuedState d u more t.ie.presence
  room : more = [] ∨ u.ie.fetches.length + more.length ≤ 4
  size : ∀ f ∈ more, 1 ≤ f.count ∧ f.count ≤ 8 ∧ f.received = [] ∧ f.ends = u.now + 250000000
  peer : ∀ f ∈ more, Cheapest d u f.peer
  below : ∀ f ∈ more, ∀ k, k < f.first → tabGet t.ie.presence k ≠ none
  inside : ∀ f ∈ more, f.first + f.count ≤ chunkCount d.length ∧
    (f.count = 8 ∨ f.first + f.count = chunkCount d.length ∨ tabGet u.ie.presence (f.first + f.count) ≠ none)
  taken : ∀ f ∈ more, ∀ k, inRun f k → tabGet u.ie.presence k = none ∧ tabGet t.ie.presence k = some .requested
  grown : ∀ k, tabGet t.ie.presence k ≠ tabGet u.ie.presence k → ∃ f ∈ more, inRun f k
  number : ∀ j f, more[j]? = some f → f.number = u.ie.fetchCounter + BitVec.ofNat 16 j
  past : ∀ f ∈ more, ∀ k, tabGet t.ie.presence k = none → f.first + f.count ≤ k

theorem Issuing.refl (d : Desc) (u : State) : Issuing d u u [] where
  eq := by simp [issuedState]
  room := .inl rfl
  size := by simp
  peer := by simp
  below := by simp
  inside := by simp
  taken := by simp
  grown := by simp
  number := by simp
  past := by simp

section
variable {d : Desc} {u v : State} {more : List Fetch} (h : Issuing d u v more)
include h

theorem Issuing.peers : v.bu.peers = u.bu.peers := by
  rw [h.eq]
  dsimp only [issuedState]
  split <;> rfl

theorem Issuing.fetches : v.ie.fetches = u.ie.fetches ++ more := by rw [h.eq]; rfl
theorem Issuing.counter : v.ie.fetchCounter = u.ie.fetchCounter + BitVec.ofNat 16 more.length := by rw [h.eq]; rfl
theorem Issuing.now : v.now = u.now := by rw [h.eq]; rfl
theorem Issuing.skips : v.ie.skips = u.ie.skips := by rw [h.eq]; rfl

theorem Issuing.mayFetchFrom {n : Nat} : mayFetchFrom d v n ↔ mayFetchFrom d u n := by
  simp only [Sys2Proof.Machine.mayFetchFrom, peerOf, h.peers, h.skips]

theorem Issuing.cheapest {n : Nat} : Cheapest d v n ↔ Cheapest d u n := by
  have hd : demandSum v = demandSum u := by
    funext n
    simp only [demandSum, peerOf, h.peers]
  simp only [Cheapest, h.mayFetchFrom, hd]

/-- What was missing and is not any more lies in a new run; what is missing was. -/
theorem Issuing.missing {k : Nat} (hk : tabGet v.ie.presence k = none) : tabGet u.ie.presence k = none := by
  by_contra hu
  obtain ⟨f, hf, hr⟩ := h.grown k (by rw [hk]; exact fun he => hu he.symm)
  exact hu (h.taken f hf k hr).1

theorem Issuing.untouched_past {first k : Nat} (hf : tabGet v.ie.presence first = none) (hk : first ≤ k)
    (hv : tabGet v.ie.presence k ≠ none) : tabGet u.ie.presence k ≠ none := by
  intro hu
  obtain ⟨f, hm, hr⟩ := h.grown k (by rw [hu]; exact hv)
  have := h.past f hm first hf
  have := hr.2
  omega

end

/-- The lowest missing chunk of an image (R145). -/
def lowestMissing (d : Desc) (s : State) : Option Nat :=
  (List.range (chunkCount d.length)).find? (fun k => (tabGet s.ie.presence k).isNone)

theorem lowestMissing_some {d : Desc} {s : State} {k : Nat} (h : lowestMissing d s = some k) :
    k < chunkCount d.length ∧ tabGet s.ie.presence k = none ∧ ∀ j, j < k → tabGet s.ie.presence j ≠ none := by
  obtain ⟨hk, hlt, hmin⟩ := List.find?_range_eq_some.1 h
  exact ⟨List.mem_range.1 hlt, by simpa using hk, fun j hj => by simpa [Option.isSome_iff_ne_none] using hmin j hj⟩

theorem lowestMissing_none {d : Desc} {s : State} (h : lowestMissing d s = none) (k : Nat)
    (hk : k < chunkCount d.length) : tabGet s.ie.presence k ≠ none := by
  have := List.find?_eq_none.1 h k (List.mem_range.2 hk)
  simpa using this

/-- The fetch issued next: the run from the lowest missing chunk on (R145). -/
def nextFetch (d : Desc) (n first : Nat) (s : State) : Fetch :=
  { number := s.ie.fetchCounter, peer := n, first := first,
    count := missingRun s.ie.presence (chunkCount d.length) 8 first, received := [], ends := s.now + Config.fetchNs }

theorem fetchOne_issues {d : Desc} {n first : Nat} {s : State} (hd : s.ie.incDesc = some d)
    (hf : lowestMissing d s = some first) (hn : fetchPeer s d = some n) :
    fetchOne s = setIe (sendBulletin n (.fetch d.number first (nextFetch d n first s).count s.ie.fetchCounter) s)
      (fun e => { e with
        fetches := e.fetches ++ [nextFetch d n first s]
        fetchCounter := e.fetchCounter + 1
        presence := (runOf (nextFetch d n first s)).foldl (fun p k => tabSet p k .requested) e.presence }) := by
  have hf' : (List.range (chunkCount d.length)).find? (fun k => (tabGet s.ie.presence k).isNone) = some first := hf
  simp only [fetchOne, hd, hf', hn]
  rfl

/-- No fetch is issued with no chunk missing or no peer eligible (R145). -/
theorem fetchOne_idle {d : Desc} {s : State} (hd : s.ie.incDesc = some d)
    (h : lowestMissing d s = none ∨ fetchPeer s d = none) : fetchOne s = s := by
  have hl : (List.range (chunkCount d.length)).find? (fun k => (tabGet s.ie.presence k).isNone) = lowestMissing d s := rfl
  simp only [fetchOne, hd, hl]
  split <;> simp_all

theorem Issuing.incDesc {d e : Desc} {u v : State} {more : List Fetch} (h : Issuing d u v more)
    (hd : u.ie.incDesc = some e) : v.ie.incDesc = some e := by rw [h.eq]; exact hd

theorem fetchOne_issuedState {d : Desc} {u : State} {more : List Fetch} {p : Table ChunkState} {n first : Nat}
    (hd : (issuedState d u more p).ie.incDesc = some d) (hf : lowestMissing d (issuedState d u more p) = some first)
    (hn : fetchPeer (issuedState d u more p) d = some n) :
    Sys2Proof.Machine.fetchOne (issuedState d u more p) =
      issuedState d u (more ++ [nextFetch d n first (issuedState d u more p)])
        (Sys2Proof.Machine.fetchOne (issuedState d u more p)).ie.presence := by
  have hc : u.ie.fetchCounter + BitVec.ofNat 16 more.length + 1#16 = u.ie.fetchCounter + BitVec.ofNat 16 (more.length + 1) := by
    rw [BitVec.ofNat_add, BitVec.add_assoc]
  have hr : running (issuedState d u more p) = running u := rfl
  rw [fetchOne_issues hd hf hn]
  generalize hg : nextFetch d n first (issuedState d u more p) = g
  have hnum : (issuedState d u more p).ie.fetchCounter = g.number := by rw [← hg]; rfl
  have hpeer : n = g.peer := by rw [← hg]; rfl
  have hfirst : first = g.first := by rw [← hg]; rfl
  rw [hnum, hpeer, hfirst, sendBulletin, queueControl, hr]
  by_cases hrun : running u = true
  · simp [issuedState, setIe, State.setIe, State.setBu, hrun, hc]
  · simp [issuedState, setIe, State.setIe, hrun, hc]

/-- One fetch more keeps what the loop keeps (R145). -/
theorem Issuing.fetchOne {d : Desc} {u v : State} {more : List Fetch} {n first : Nat} (h : Issuing d u v more)
    (hd : v.ie.incDesc = some d) (hf : lowestMissing d v = some first) (hn : fetchPeer v d = some n)
    (hroom : v.ie.fetches.length < 4) :
    Issuing d u (Sys2Proof.Machine.fetchOne v) (more ++ [nextFetch d n first v]) := by
  obtain ⟨hlt, hmiss, hlow⟩ := lowestMissing_some hf
  generalize hg : nextFetch d n first v = g
  have hcount : g.count = missingRun v.ie.presence (chunkCount d.length) 8 first := by rw [← hg]; rfl
  have hfirst : g.first = first := by rw [← hg]; rfl
  obtain ⟨h8, hrun, hstop⟩ := missingRun_spec v.ie.presence (chunkCount d.length) 8 first
  rw [← hcount] at h8 hrun hstop
  have hone : 1 ≤ g.count := by
    rcases hstop with hs | hs | hs
    · omega
    · omega
    · by_contra h0
      exact hs (by rw [show first + g.count = first by omega]; exact hmiss)
  have hpres (k : Nat) : tabGet (Sys2Proof.Machine.fetchOne v).ie.presence k =
      if k ∈ runOf g then some .requested else tabGet v.ie.presence k := by
    rw [fetchOne_issues hd hf hn, hg]
    simp [setIe, tabGet_foldl_tabSet]
  have hrun' (k : Nat) (hk : inRun g k) : tabGet v.ie.presence k = none :=
    (hrun k (hfirst ▸ hk.1) (hfirst ▸ hk.2)).2
  have hkeep {k : Nat} (hk : tabGet v.ie.presence k ≠ none) :
      tabGet (Sys2Proof.Machine.fetchOne v).ie.presence k = tabGet v.ie.presence k := by
    rw [hpres, if_neg (fun hi => hk (hrun' k (mem_runOf.1 hi)))]
  have hinside : g.first + g.count ≤ chunkCount d.length := by
    have := hrun (first + g.count - 1) (by omega) (by omega)
    omega
  constructor
  · have heq := h.eq
    generalize v.ie.presence = p at heq
    subst heq
    exact hg ▸ fetchOne_issuedState hd hf hn
  · right
    rw [h.fetches] at hroom
    simp only [List.length_append, List.length_singleton] at hroom ⊢
    omega
  · intro f hm
    rcases List.mem_append.1 hm with hm | hm
    · exact h.size f hm
    · obtain rfl := List.mem_singleton.1 hm
      refine ⟨hone, h8, by rw [← hg]; rfl, ?_⟩
      rw [← h.now, ← hg]
      rfl
  · intro f hm
    rcases List.mem_append.1 hm with hm | hm
    · exact h.peer f hm
    · obtain rfl := List.mem_singleton.1 hm
      have : f.peer = n := by rw [← hg]; rfl
      exact this ▸ h.cheapest.1 (fetchPeer_cheapest hn)
  · intro f hm k hk
    rcases List.mem_append.1 hm with hm | hm
    · rw [hkeep (h.below f hm k hk)]; exact h.below f hm k hk
    · obtain rfl := List.mem_singleton.1 hm
      have := hlow k (hfirst ▸ hk)
      rw [hkeep this]; exact this
  · intro f hm
    rcases List.mem_append.1 hm with hm | hm
    · exact h.inside f hm
    · obtain rfl := List.mem_singleton.1 hm
      refine ⟨hinside, ?_⟩
      rcases hstop with hs | hs | hs
      · exact .inl hs
      · right; left; omega
      · right; right
        rw [hfirst]
        exact h.untouched_past hmiss (by omega) hs
  · intro f hm k hk
    rcases List.mem_append.1 hm with hm | hm
    · obtain ⟨h1, h2⟩ := h.taken f hm k hk
      exact ⟨h1, by rw [hkeep (by simp [h2]), h2]⟩
    · obtain rfl := List.mem_singleton.1 hm
      exact ⟨h.missing (hrun' k hk), by rw [hpres, if_pos (mem_runOf.2 hk)]⟩
  · intro k hk
    by_cases hi : inRun g k
    · exact ⟨g, by simp, hi⟩
    · rw [hpres, if_neg (fun hm => hi (mem_runOf.1 hm))] at hk
      obtain ⟨f, hm, hr⟩ := h.grown k hk
      exact ⟨f, by simp [hm], hr⟩
  · intro j f hj
    rcases Nat.lt_trichotomy j more.length with hlt | rfl | hlt
    · exact h.number j f (by rwa [List.getElem?_append_left hlt] at hj)
    · obtain rfl : g = f := by simpa using hj
      rw [← h.counter, ← hg]
      rfl
    · rw [List.getElem?_eq_none (by simp; omega)] at hj
      cases hj
  · intro f hm k hk
    rw [hpres] at hk
    split at hk
    · cases hk
    · rename_i hi
      rcases List.mem_append.1 hm with hm | hm
      · exact h.past f hm k hk
      · obtain rfl := List.mem_singleton.1 hm
        by_contra hlt
        have hge : first ≤ k := by
          by_contra hc
          exact hlow k (by omega) hk
        exact hi (mem_runOf.2 ⟨by omega, by omega⟩)

/-- No fetch can be issued: no chunk is missing, or no peer is eligible (R145). -/
def Exhausted (d : Desc) (s : State) : Prop := lowestMissing d s = none ∨ fetchPeer s d = none

theorem fetchLoop_exhausted {d : Desc} {s : State} (hd : s.ie.incDesc = some d) (h : Exhausted d s) (n : Nat) :
    fetchLoop n s = s := by
  induction n with
  | zero => rfl
  | succ n ih =>
    rw [fetchLoop, fetchOne_idle hd h]
    split
    · exact ih
    · rfl

/-- The loop of n fetches keeps its invariant, and ends with the list full, with n fetches more, or with none to issue. -/
theorem Issuing.fetchLoop {d : Desc} {u : State} (hd : u.ie.incDesc = some d) (n : Nat) {v : State} {more : List Fetch}
    (h : Issuing d u v more) : ∃ m, Issuing d u (Sys2Proof.Machine.fetchLoop n v) m ∧
      (4 ≤ (Sys2Proof.Machine.fetchLoop n v).ie.fetches.length ∨ more.length + n ≤ m.length ∨
        Exhausted d (Sys2Proof.Machine.fetchLoop n v)) := by
  induction n generalizing v more with
  | zero => exact ⟨more, h, .inr (.inl le_rfl)⟩
  | succ n ih =>
    have hvd := h.incDesc hd
    rw [Sys2Proof.Machine.fetchLoop]
    split
    · rename_i hroom
      cases hf : lowestMissing d v with
      | none =>
        have hex : Exhausted d v := .inl hf
        rw [fetchOne_idle hvd hex, fetchLoop_exhausted hvd hex]
        exact ⟨more, h, .inr (.inr hex)⟩
      | some first =>
        cases hn : fetchPeer v d with
        | none =>
          have hex : Exhausted d v := .inr hn
          rw [fetchOne_idle hvd hex, fetchLoop_exhausted hvd hex]
          exact ⟨more, h, .inr (.inr hex)⟩
        | some p =>
          obtain ⟨m, hm, hend⟩ := ih (h.fetchOne hvd hf hn hroom)
          refine ⟨m, hm, hend.imp_right (Or.imp_left fun hl => ?_)⟩
          simp only [List.length_append, List.length_singleton] at hl
          omega
    · rename_i hfull
      exact ⟨more, h, .inl (Nat.not_lt.mp hfull)⟩

/-- The invariant at the loop's end says what R145 asks for. -/
theorem Issuing.fetchesIssued {d : Desc} {u t : State} {more : List Fetch} (h : Issuing d u t more)
    (hend : t.ie.fetches.length < 4 → Exhausted d t) : fetchesIssued d u t := by
  refine ⟨more, h.eq, h.room, fun f hf => ?_, h.grown, h.number, fun hl => ?_⟩
  · obtain ⟨h1, h8, hr, he⟩ := h.size f hf
    obtain ⟨hp, hmin⟩ := h.peer f hf
    obtain ⟨hi, hstop⟩ := h.inside f hf
    exact ⟨h1, h8, hr, he, hp, hmin, h.below f hf, hi, hstop, h.taken f hf⟩
  · rcases hend hl with he | he
    · exact .inl (lowestMissing_none he)
    · exact .inr fun n hn => fetchPeer_none he n (h.mayFetchFrom.2 hn)

/-- In FILLING, with supply-fail not asserted, the fetches that R145 calls for are issued. -/
theorem issueFetches_filling {d : Desc} {u : State} (hi : u.ie.inc = .filling) (hs : u.pins.supplyFail = false)
    (hd : u.ie.incDesc = some d) : fetchesIssued d u (issueFetches u) := by
  have he : issueFetches u = fetchLoop 4 u := by simp [issueFetches, hi, hs, Config.fetchListMax]
  obtain ⟨m, hm, hend⟩ := (Issuing.refl d u).fetchLoop hd 4
  rw [he]
  refine hm.fetchesIssued fun hl => ?_
  rcases hend with hend | hend | hend
  · omega
  · rw [hm.fetches, List.length_append] at hl
    simp only [List.length_nil] at hend
    omega
  · exact hend

/-- In any other case no fetch is issued (R145). -/
theorem issueFetches_idle {u : State} (h : u.ie.inc ≠ .filling ∨ u.pins.supplyFail = true) : issueFetches u = u := by
  rcases h with h | h <;> simp [issueFetches, h]

/-- Fetches are issued through the control transmit queue: what is being sent and held stays as it was. -/
theorem issueFetches_txWaits (u : State) : txWaits (issueFetches u) = txWaits u := by simp [txWaits]

end Sys2Proof.Machine
end
section
/-! SUPPORT. The timers of the fetches, and the supply-fail input (R141, R145, R146, R155, R168). -/

namespace Sys2Proof.Machine

/-! ## Fetch and skip timers -/

theorem exec_fetchTimeout {number : BitVec 16} {f : Fetch} {s : State} (ha : alive s = true)
    (h : s.ie.fetches.find? (fun f => f.number == number) = some f) :
    exec (.fetchTimeout number) s = .next (wake (issueFetches
      (setIe (runTo f.ends s) (fun e => strike f.peer (runTo f.ends s).now (failFetch f e))))) := by
  show execFetchTimeout number s = _
  rw [execFetchTimeout, taken_alive ha]
  simp only [h]

theorem exec_fetchTimeout_missing {number : BitVec 16} {s : State} (ha : alive s = true)
    (h : s.ie.fetches.find? (fun f => f.number == number) = none) : exec (.fetchTimeout number) s = .next s := by
  show execFetchTimeout number s = _
  rw [execFetchTimeout, taken_alive ha]
  simp only [h]

theorem exec_skipTimerExpiry {n d : Nat} {s : State} (ha : alive s = true) (h : tabGet s.ie.skips n = some d) :
    exec (.skipTimerExpiry n) s = .next (wake (issueFetches
      (setIe (runTo d s) (fun e => { e with skips := tabErase e.skips n })))) := by
  show execSkipTimerExpiry n s = _
  rw [execSkipTimerExpiry, taken_alive ha, h, onExpiry_some]

/-- A strike touches the peer's count and its skip timer alone (R146). -/
theorem strike_eq (n now : Nat) (e : Ie) : strike n now e = { e with
    strikes := if 2 ≤ (tabGet e.strikes n).getD 0 then tabErase e.strikes n
      else tabSet e.strikes n ((tabGet e.strikes n).getD 0 + 1)
    skips := if 2 ≤ (tabGet e.strikes n).getD 0 then tabSet e.skips n (now + 10000000000) else e.skips } := by
  unfold strike
  split <;> simp [Config.skipNs, Config.secNs]

/-- The transmitter waiting, an expiry of a fetch's timer ends with the issue of fetches (R145). -/
theorem wake_issueFetches {u : State} (h : txWaits u = true) : wake (issueFetches u) = issueFetches u :=
  wake_waits ((issueFetches_txWaits u).trans h)

/-- Settles O43: each timer's own work, then the fetches that R145 calls for. -/
theorem fetchAndSkipTimersStrikePeers : Obligations.FetchAndSkipTimersStrikePeers := by
  intro s ha hw struck
  refine ⟨fun number h => exec_fetchTimeout_missing ha h, fun number f h => ?_, fun n h => ?_, fun n i h => ?_⟩
  · have hwu : txWaits (setIe (runTo f.ends s) (fun e => strike f.peer (runTo f.ends s).now (failFetch f e))) = true :=
      (txWaits_runTo f.ends s).trans hw
    refine ⟨_, setIe (runTo f.ends s) (fun e => strike f.peer (runTo f.ends s).now (failFetch f e)),
      (exec_fetchTimeout ha h).trans (congrArg _ (wake_issueFetches hwu)), ⟨?_, fun k => ?_⟩, ?_, fun hn => ?_,
      fun d hi hs hd => ?_⟩
    · simp [setIe, strike_eq, failFetch]
    · simp only [setIe, State.setIe_ie, strike_eq, (runTo_frame f.ends s), tabGet_failFetch]
    · simp [setIe, State.setIe]
    · exact issueFetches_idle (by simpa [setIe, strike_eq, failFetch] using hn)
    · exact issueFetches_filling (by simpa [setIe, strike_eq, failFetch] using hi) (by simpa [setIe] using hs)
        (by simpa [setIe, strike_eq, failFetch] using hd)
  · show execSkipTimerExpiry n s = _
    rw [execSkipTimerExpiry, taken_alive ha, h, onExpiry_none]
  · intro u
    have hu : setIe (runTo i s) (fun e => { e with skips := tabErase e.skips n }) = u := by
      simp [setIe, State.setIe, u]
    have hwu : txWaits u = true := by simpa [txWaits, u] using hw
    rw [exec_skipTimerExpiry ha h, hu, wake_issueFetches hwu]
    refine ⟨fun hn => congrArg _ (issueFetches_idle ?_), fun d hi hs hd => ⟨_, rfl, issueFetches_filling hi ?_ hd⟩⟩
    · simpa [u] using hn
    · simpa [u] using hs

/-! ## The order of flash work -/

theorem startFlash_busy {s : State} (h : s.ie.op.isSome = true) : startFlash s = s := if_pos h

/-- With supply-fail not asserted the first waiting work in the order of R141 starts. -/
theorem startFlash_started {u : State} (hs : u.pins.supplyFail = false) : flashWorkStarted u (startFlash u) := by
  refine ⟨startFlash_busy, fun ho => ⟨fun w r hw => ?_, fun hh => ⟨fun p r hp => ?_, fun hp => ⟨fun hi => ?_, fun hi =>
    ⟨fun q r hq hv => ?_, fun hq => ⟨fun c hc => ?_, fun hc => ⟨fun b hb => ?_, fun hb => ?_⟩⟩⟩⟩⟩⟩⟩
  · simp [startFlash, ho, nextHeader, hs, hw, setIe, State.setIe]
  · simp [startFlash, ho, nextHeader, hs, hh, nextProg, hp, setIe, State.setIe]
  · obtain ⟨r, hr⟩ := Option.isSome_iff_exists.1 hi
    simp [startFlash, ho, nextHeader, hs, hh, nextProg, hp, hr, setIe, State.setIe]
  · simp [startFlash, ho, nextHeader, hs, hh, nextProg, hp, hi, hq, servableFrom, hv, setIe, State.setIe]
  · simp [startFlash, ho, nextHeader, hs, hh, nextProg, hp, hi, hq, servableFrom, hc, setIe, State.setIe]
  · simp [startFlash, ho, nextHeader, hs, hh, nextProg, hp, hi, hq, servableFrom, hc, nextErase, hb, setIe, State.setIe]
  · have same : setIe u (fun e => { e with serves := [] }) = u := by rw [← hq]; rfl
    simpa [startFlash, ho, nextHeader, hs, hh, nextProg, hp, hi, hq, servableFrom, hc, nextErase, hb] using same

/-- The start of flash work leaves the incoming slot's state and descriptor as they were. -/
theorem startFlash_inc (s : State) : (startFlash s).ie.inc = s.ie.inc ∧ (startFlash s).ie.incDesc = s.ie.incDesc := by
  unfold startFlash
  (repeat' split) <;> exact ⟨rfl, rfl⟩

/-! ## The supply-fail input -/

/-- An edge in a part without its supply changes the level alone (assumption log 32). -/
theorem supplyEdge_unpowered {level : Bool} {e : Event} {s : State} (h : s.pins.powered = false) :
    supplyEdge level e s = { s with pins := { s.pins with supplyFail := level } } := by
  simp [supplyEdge, h, State.setPins]

/-- An edge in a part with its supply changes the level and raises its event (R168). -/
theorem supplyEdge_powered {level : Bool} {e : Event} {s : State} (h : s.pins.powered = true) :
    supplyEdge level e s = { s with
      pins := { s.pins with supplyFail := level }, ml := offerEvent (stamp e s) s.ml } := by
  simp [supplyEdge, h, raise, State.setPins, State.setMl, stamp]

theorem exec_supplyFailAssert {s : State} (h : s.pins.supplyFail = false) :
    exec .supplyFailAssert s = .next (if alive s then supplyFailed (supplyEdge true .supplyFail s)
      else supplyEdge true .supplyFail s) := by
  have hal : alive (supplyEdge true .supplyFail s) = alive s := by
    simp only [supplyEdge]
    split <;> rfl
  show execSupplyFailAssert s = _
  simp only [execSupplyFailAssert, h, hal]
  rfl

theorem exec_supplyFailDeassert {s : State} (h : s.pins.supplyFail = true) :
    exec .supplyFailDeassert s = .next (if alive s then wake (issueFetches (startFlash (supplyEdge false .supplyRestored s)))
      else supplyEdge false .supplyRestored s) := by
  have hal : alive (supplyEdge false .supplyRestored s) = alive s := by
    simp only [supplyEdge]
    split <;> rfl
  show execSupplyFailDeassert s = _
  simp only [execSupplyFailDeassert, h, hal]
  rfl

/-- An announcement PULSE joins in a RUNNING part, unless a PULSE waits (R13). -/
theorem announcePulse_eq (s : State) : announcePulse s = { s with
    bu := if running s = true ∧ s.bu.control.any isPulse = false then
        { s.bu with control := joinControl (.pulse false) s.bu.control } else s.bu } := by
  unfold announcePulse
  split
  · simp [*]
  · by_cases hr : running s = true <;> simp [queueControl, State.setBu, *]

/-- The work that a request waits for completes it when it is PENDING (R172). -/
theorem completePending_eq (code : Nat) (o : ReqOutcome) (r : List Byte) (s : State) :
    completePending code o r s = { s with
      ml := if s.ml.state = .pending ∧ s.ml.code = code then
          { s.ml with state := .done, outcome := some o, result := r, polled := false } else s.ml } := by
  unfold completePending
  by_cases h : s.ml.state = .pending ∧ s.ml.code = code
  · simp [h, complete, State.setMl]
  · simp only [Bool.and_eq_true, beq_iff_eq, if_neg h]

/-- The work of the assertion while the transmitter waits (R155, R168). -/
theorem supplyFailed_waits {s : State} (h : txWaits s = true) : supplyFailed s = { s with
    ie := dropProgs s.ie
    ml := if (s.ie.progs.drop (inFlightProg s.ie)).any Prog.host = true ∧ s.ml.state = .pending ∧ s.ml.code = 11 then
        { s.ml with state := .done, outcome := some .busy, result := [3#8], polled := false } else s.ml
    bu := if running s = true ∧ s.bu.control.any isPulse = false then
        { s.bu with control := joinControl (.pulse false) s.bu.control } else s.bu } := by
  have hb : (if running s then announcePulse s else s) = { s with
      bu := if running s = true ∧ s.bu.control.any isPulse = false then
          { s.bu with control := joinControl (.pulse false) s.bu.control } else s.bu } := by
    rw [announcePulse_eq]
    by_cases hr : running s = true <;> simp [hr]
  simp only [supplyFailed, hb, completePending_eq]
  rw [wake_waits]
  · by_cases hh : (s.ie.progs.drop (inFlightProg s.ie)).any Prog.host = true <;> simp [setIe, State.setIe, hh]
  · split <;> exact h

/-- Settles O47, edge by edge: a level already held, no supply, the held part, and the living part with its transmitter
waiting. -/
theorem supplyFailEdgesRaiseEvents : Obligations.SupplyFailEdgesRaiseEvents := by
  intro s heldPart down up
  have dead (h : s.pins.powered = false) : alive s = false := by simp [alive, h]
  have held (h : heldPart) : alive s = false := by simp [alive, h.2]
  have powered (h : alive s = true) : s.pins.powered = true := by
    simp only [alive, Bool.and_eq_true] at h; exact h.1
  refine ⟨fun h => ?_, fun h => ?_, fun h hp => ?_, fun h hp => ?_, fun h hh => ?_, fun h hh => ?_, fun h ha hw => ?_,
    fun h ha hw hi => ?_, fun h ha hw => ?_⟩
  · show execSupplyFailAssert s = _
    simp [execSupplyFailAssert, h]
  · show execSupplyFailDeassert s = _
    simp [execSupplyFailDeassert, h]
  · rw [exec_supplyFailAssert h, if_neg (by simp [dead hp]), supplyEdge_unpowered hp]
  · rw [exec_supplyFailDeassert h, if_neg (by simp [dead hp]), supplyEdge_unpowered hp]
  · rw [exec_supplyFailAssert h, if_neg (by simp [held hh]), supplyEdge_powered hh.1]
  · rw [exec_supplyFailDeassert h, if_neg (by simp [held hh]), supplyEdge_powered hh.1]
  · intro keep dropped m
    rw [exec_supplyFailAssert h, if_pos ha, supplyEdge_powered (powered ha)]
    have hk : m.state = s.ml.state ∧ m.code = s.ml.code := by
      simp only [m, offerEvent]
      (repeat' split) <;> exact ⟨rfl, rfl⟩
    refine (congrArg _ (supplyFailed_waits (s := { s with pins := down, ml := m }) hw)).trans ?_
    rw [← hk.1, ← hk.2]
    rfl
  · intro u
    have hu : txWaits (startFlash u) = true := by simpa [txWaits, u] using hw
    have done : exec .supplyFailDeassert s = .next (startFlash u) := by
      rw [exec_supplyFailDeassert h, if_pos ha, supplyEdge_powered (powered ha)]
      refine congrArg _ ((congrArg wake (issueFetches_idle (u := startFlash u) (.inl ?_))).trans (wake_waits hu))
      exact (startFlash_inc u).1 ▸ hi
    obtain ⟨hbusy, hfree⟩ := startFlash_started (u := u) rfl
    exact ⟨fun ho => done.trans (congrArg _ (hbusy ho)), fun w r ho hq => done.trans (congrArg _ ((hfree ho).1 w r hq))⟩
  · intro u
    have hu : txWaits (startFlash u) = true := by simpa [txWaits, u] using hw
    have done : exec .supplyFailDeassert s = .next (issueFetches (startFlash u)) := by
      rw [exec_supplyFailDeassert h, if_pos ha, supplyEdge_powered (powered ha)]
      exact congrArg _ (wake_issueFetches hu)
    have started := startFlash_started (u := u) rfl
    refine ⟨fun hi => ⟨startFlash u, ?_, started⟩, fun d hi hd => ⟨startFlash u, _, done, started, ?_⟩⟩
    · rw [done, issueFetches_idle (.inl ((startFlash_inc u).1 ▸ hi))]
    · exact issueFetches_filling ((startFlash_inc u).1.trans hi) (by simp [u, up]) ((startFlash_inc u).2.trans hd)

end Sys2Proof.Machine
end
section
/-! SUPPORT. Full resets, the reading of the start record, and the end of start-up (R178, R182, R184 to R187). -/

namespace Sys2Proof.Machine

/-! ## Events raised one after the other -/

/-- Events offered to the queue in order, each with the time stamp of the same instant. -/
def offerAll (x : State) (l : List Event) (m : Ml) : Ml := l.foldl (fun q e => offerEvent (stamp e x) q) m

/-- A stamp is read from the clock, which raising an event leaves as it is (R178). -/
theorem stamp_raise (e f : Event) (s : State) : stamp e (raise f s) = stamp e s := rfl

/-- Raising events one after the other offers them to the queue in that order. -/
theorem foldl_raise (l : List Event) (s : State) :
    l.foldl (fun t e => raise e t) s = { s with ml := offerAll s l s.ml } := by
  induction l generalizing s with
  | nil => rfl
  | cons e r ih =>
    rw [List.foldl_cons, ih]
    rfl

theorem markTail_map_event (q : List EventRec) : (markTail q).map EventRec.event = q.map EventRec.event := by
  induction q using markTail.induct with
  | case1 => rfl
  | case2 e => rfl
  | case3 e r hr ih => simpa [markTail] using ih

theorem markTail_stamps (q : List EventRec) :
    (markTail q).map (fun r => (r.minute, r.milli)) = q.map (fun r => (r.minute, r.milli)) := by
  induction q using markTail.induct with
  | case1 => rfl
  | case2 e => rfl
  | case3 e r hr ih => simpa [markTail] using ih

theorem markTail_overrun {q : List EventRec} (h : q ≠ []) : (markTail q).any EventRec.overrun = true := by
  induction q using markTail.induct with
  | case1 => exact absurd rfl h
  | case2 e => simp [markTail]
  | case3 e r hr ih =>
    have : (markTail r).any EventRec.overrun = true := ih (by rintro rfl; exact hr rfl)
    simp [markTail, this]

/-- Every kind is enabled after a full reset (R182). -/
theorem maskAll_enables (e : Event) : maskAll.getLsbD (eventCode e) = true := by
  have enabled : ∀ k, k < 34 → 1 ≤ k → maskAll.getLsbD k = true := by decide
  have code : 1 ≤ eventCode e ∧ eventCode e < 34 := by cases e <;> simp [eventCode]
  exact enabled _ code.2 code.1

/-- Offering events touches the queue alone. -/
theorem offerEvent_eq (r : EventRec) (m : Ml) : offerEvent r m = { m with events := (offerEvent r m).events } := by
  unfold offerEvent
  (repeat' split) <;> rfl

theorem offerAll_eq (x : State) (l : List Event) (m : Ml) :
    offerAll x l m = { m with events := (offerAll x l m).events } := by
  induction l generalizing m with
  | nil => rfl
  | cons e r ih =>
    rw [offerAll, List.foldl_cons, ← offerAll, ih, offerEvent_eq]

/-- With every kind enabled the queue takes events up to 64 in all; the rest are lost (R178, R179). -/
theorem offerEvent_events {r : EventRec} {m : Ml} (hm : m.mask = maskAll) (hl : m.events.length ≤ 64) :
    (offerEvent r m).events = if m.events.length < 64 then m.events ++ [r] else markTail m.events := by
  have hb : m.mask.getLsbD (eventCode r.event) = true := by rw [hm]; exact maskAll_enables r.event
  split
  · rw [offerEvent_joins hb ‹_›]
  · rw [offerEvent_overrun hb (by omega)]

theorem offerAll_cons (x : State) (e : Event) (r : List Event) (m : Ml) :
    offerAll x (e :: r) m = offerAll x r (offerEvent (stamp e x) m) := rfl

theorem offerEvent_mask (r : EventRec) (m : Ml) : (offerEvent r m).mask = m.mask := by rw [offerEvent_eq]

theorem offerEvent_length_le {r : EventRec} {m : Ml} (hm : m.mask = maskAll) (hl : m.events.length ≤ 64) :
    (offerEvent r m).events.length ≤ 64 := by
  rw [offerEvent_events hm hl]
  split
  · simp; omega
  · rw [markTail_length]; exact hl

theorem offerAll_map_event {x : State} {l : List Event} {m : Ml} (hm : m.mask = maskAll) (hl : m.events.length ≤ 64) :
    (offerAll x l m).events.map EventRec.event = (m.events.map EventRec.event ++ l).take 64 := by
  induction l generalizing m with
  | nil =>
    rw [List.append_nil, List.take_of_length_le (by simpa using hl)]
    rfl
  | cons e r ih =>
    rw [offerAll_cons, ih ((offerEvent_mask _ _).trans hm) (offerEvent_length_le hm hl), offerEvent_events hm hl]
    split
    · simp [stamp]
    · have : m.events.length = 64 := by omega
      rw [markTail_map_event, List.take_append_of_le_length (by simp [this]),
        List.take_append_of_le_length (by simp [this])]

theorem offerEvent_stamps {x : State} {e : Event} {m : Ml} (hx : x.su.clock.minute = 0 ∧ x.su.clock.milli = 0)
    (h : ∀ r ∈ m.events, r.minute = 0 ∧ r.milli = 0) :
    ∀ r ∈ (offerEvent (stamp e x) m).events, r.minute = 0 ∧ r.milli = 0 := by
  unfold offerEvent
  split
  · split
    · simpa [stamp, hx, or_imp, forall_and] using h
    · intro r hr
      have hq := List.mem_map_of_mem (f := fun r : EventRec => (r.minute, r.milli)) hr
      rw [markTail_stamps, List.mem_map] at hq
      obtain ⟨q, hq, he⟩ := hq
      simp only [Prod.mk.injEq] at he
      exact ⟨he.1.symm.trans (h q hq).1, he.2.symm.trans (h q hq).2⟩
  · exact h

/-- On an UNSET clock every event is stamped 0 (R178). -/
theorem offerAll_stamps {x : State} {l : List Event} {m : Ml} (hx : x.su.clock.minute = 0 ∧ x.su.clock.milli = 0)
    (h : ∀ r ∈ m.events, r.minute = 0 ∧ r.milli = 0) :
    ∀ r ∈ (offerAll x l m).events, r.minute = 0 ∧ r.milli = 0 := by
  induction l generalizing m with
  | nil => exact h
  | cons e r ih => exact ih (offerEvent_stamps hx h)

/-- The queue carries an overrun mark when it did, or when more events came than it takes (R179). -/
theorem offerAll_overrun {x : State} {l : List Event} {m : Ml} (hm : m.mask = maskAll) (hl : m.events.length ≤ 64) :
    (offerAll x l m).events.any EventRec.overrun =
      (m.events.any EventRec.overrun || decide (64 < m.events.length + l.length)) := by
  induction l generalizing m with
  | nil => simp [offerAll, Nat.not_lt.mpr hl]
  | cons e r ih =>
    rw [offerAll_cons, ih ((offerEvent_mask _ _).trans hm) (offerEvent_length_le hm hl), offerEvent_events hm hl]
    split
    · rename_i hlt
      have : m.events.length + 1 + r.length = m.events.length + (r.length + 1) := by omega
      simp [stamp, this]
    · have h64 : m.events.length = 64 := by omega
      have hne : m.events ≠ [] := by intro h0; simp [h0] at h64
      rw [markTail_overrun hne]
      simp [h64]

/-! ## LOADING -/

/-- What LOADING makes of the SL (R185, R186, R187). -/
def loadedSl (m : List Host.Cell) (l : Sl) : Sl :=
  match readRecord m with
  | .bad _ _ => { l with phase := .scanning, recordGood := false, params := Params.default }
  | .items items => { l with phase := .scanning, recordGood := true, params := paramsOf items }

/-- LOADING reads the record, sets the parameters and raises its events, and does nothing else. -/
theorem loading_eq (s : State) : loading s =
    { s with sl := loadedSl s.flash.mem s.sl, ml := offerAll s (loadEvents s.flash.mem) s.ml } := by
  cases h : readRecord s.flash.mem with
  | bad r o =>
    simp only [loading, loadedSl, loadEvents, h]
    rfl
  | items items =>
    simp only [loading, loadedSl, loadEvents, h, raiseClamps, foldl_raise]
    rfl

theorem recordLoaded_loadedSl {m : List Host.Cell} {l : Sl} (h : l.part = .starting) : recordLoaded m (loadedSl m l) := by
  unfold recordLoaded loadedSl
  cases hr : readRecord m with
  | bad r o => exact ⟨h, rfl, rfl, rfl⟩
  | items items => exact ⟨h, rfl, rfl, rfl⟩

theorem loadedSl_eq (m : List Host.Cell) (l : Sl) : loadedSl m l =
    { l with phase := (loadedSl m l).phase, recordGood := (loadedSl m l).recordGood, params := (loadedSl m l).params } := by
  unfold loadedSl
  split <;> rfl

/-! ## Full resets -/

/-- What a full reset leaves of the ML, with the bytes shifted out (R182). -/
theorem linkReset_reset {c : ResetCause} {x : State} {l : List Event} (miso : List Byte)
    (hx : x.su.clock.minute = 0 ∧ x.su.clock.milli = 0) :
    linkReset c l (offerAll x l { Ml.reset c with miso := miso }) := by
  have hm : ({ Ml.reset c with miso := miso } : Ml).mask = maskAll := rfl
  have hl : ({ Ml.reset c with miso := miso } : Ml).events.length ≤ 64 := by simp [Ml.reset]
  have hs : ∀ r ∈ ({ Ml.reset c with miso := miso } : Ml).events, r.minute = 0 ∧ r.milli = 0 := by
    simp [Ml.reset]
  refine ⟨?_, ?_, ?_, ?_, ?_, ?_, ?_, ?_, offerAll_map_event hm hl, offerAll_stamps hx hs, ?_⟩
  · rw [offerAll_eq]; rfl
  · rw [offerAll_eq]; rfl
  · rw [offerAll_eq]; rfl
  · rw [offerAll_eq]; rfl
  · rw [offerAll_eq]; rfl
  · rw [offerAll_eq]; rfl
  · rw [offerAll_eq]; rfl
  · rw [offerAll_eq]; rfl
  · rw [offerAll_overrun hm hl]
    simp [Ml.reset, Nat.add_comm]

theorem offerAll_miso (x : State) (l : List Event) (m : Ml) : (offerAll x l m).miso = m.miso := by rw [offerAll_eq]

/-- Every block but the ML is at its full-reset state (R184). -/
theorem blocksReset_fullReset (c : ResetCause) (s : State) : blocksReset (fullReset c s) := by
  have hseq : 1 ≤ (BitVec.ofNat 16 ((Config.freeSeq s.free).val + 1)).toNat := by
    have := (Config.freeSeq s.free).isLt
    rw [BitVec.toNat_ofNat, Nat.mod_eq_of_lt (by omega)]
    omega
  refine ⟨rfl, hseq, ?_⟩
  simp [fullReset, Bu.reset, Rc.reset, Fc.reset, Sc.reset, Es.reset, Su.reset, Ie.reset, Ac.reset, Sl.reset]

/-- What is looked at in a full reset beside the pins, the SL's record and the ML. -/
theorem blocksReset_of_eq {s t : State} (h : blocksReset s) (hbu : t.bu = s.bu) (hrc : t.rc = s.rc) (hfc : t.fc = s.fc)
    (hsc : t.sc = s.sc) (hes : t.es = s.es) (hsu : t.su = s.su) (hie : t.ie = s.ie) (hac : t.ac = s.ac)
    (hnow : t.now = s.now) (hp : t.sl.nextPulse = s.sl.nextPulse) (hq : t.sl.nextSight = s.sl.nextSight) :
    blocksReset t := by
  simpa only [blocksReset, hbu, hrc, hfc, hsc, hes, hsu, hie, hac, hnow, hp, hq] using h

/-- A reset that finds no flash operation in flight leaves the flash as it was (R184). -/
theorem cutFlash_idle {s : State} (h : s.ie.op = none) : cutFlash s = s := by simp [cutFlash, h]

/-- A full reset of a part at work that leaves these bytes shifted out (R171, R184). -/
def resetWith (c : ResetCause) (miso : List Byte) (u : State) : State :=
  (resetNow c u).setMl { Ml.reset c with miso := miso }

theorem resetNow_eq (c : ResetCause) (u : State) : resetNow c u = resetWith c u.ml.miso u := by
  simp [resetWith, resetNow, fullReset, State.setMl]

theorem voidLink_resetNow (c : ResetCause) (cut : Option CutLink) (s u : State) :
    voidLink cut s (resetNow c u) = resetWith c (cut.elim u.ml.miso (fun x => cutBytes x s)) u := by
  cases cut with
  | none => exact resetNow_eq c u
  | some x => rfl

section
variable (c : ResetCause) (miso : List Byte) (u : State)

/-- What a full reset keeps: pins, time, waiting commands, and the flash when no operation is in flight (R184). -/
theorem resetWith_kept : (resetWith c miso u).pins = u.pins ∧ (resetWith c miso u).now = u.now ∧
    (resetWith c miso u).pending = u.pending ∧ (u.ie.op = none → (resetWith c miso u).flash = u.flash) := by
  refine ⟨by simp [resetWith], by simp [resetWith], by simp [resetWith], fun h => ?_⟩
  simp [resetWith, resetNow, fullReset, cutFlash_idle h]

theorem resetWith_blocksReset : blocksReset (resetWith c miso u) :=
  blocksReset_of_eq (blocksReset_fullReset c (cutFlash u)) rfl rfl rfl rfl rfl rfl rfl rfl rfl rfl rfl

theorem resetWith_linkReset : linkReset c [] (resetWith c miso u).ml :=
  linkReset_reset (x := resetWith c miso u) (l := []) miso ⟨rfl, rfl⟩

/-- After LOADING the part is as a full reset leaves it, with the record read (R185, R186). -/
theorem loading_resetWith_blocksReset : blocksReset (loading (resetWith c miso u)) := by
  rw [loading_eq]
  have same : (loadedSl (resetWith c miso u).flash.mem (Sl.reset c)).nextPulse = none ∧
      (loadedSl (resetWith c miso u).flash.mem (Sl.reset c)).nextSight = none := by
    rw [loadedSl_eq]
    exact ⟨rfl, rfl⟩
  exact blocksReset_of_eq (resetWith_blocksReset c miso u) rfl rfl rfl rfl rfl rfl rfl rfl rfl same.1 same.2

theorem loading_resetWith_linkReset :
    linkReset c (loadEvents (resetWith c miso u).flash.mem) (loading (resetWith c miso u)).ml := by
  rw [loading_eq]
  exact linkReset_reset miso ⟨rfl, rfl⟩

theorem loading_resetWith_record :
    recordLoaded (resetWith c miso u).flash.mem (loading (resetWith c miso u)).sl ∧
      (loading (resetWith c miso u)).sl.cause = c := by
  rw [loading_eq]
  refine ⟨recordLoaded_loadedSl rfl, ?_⟩
  show (loadedSl _ (Sl.reset c)).cause = c
  rw [loadedSl_eq]
  rfl

theorem loading_resetWith_miso : (loading (resetWith c miso u)).ml.miso = miso := by
  rw [loading_eq]
  exact offerAll_miso _ _ _

end

/-- Settles O14: a full reset with what it keeps, then LOADING unless the reset input is held. -/
theorem powerUpAndResetPartResetAndLoad : Obligations.PowerUpAndResetPartResetAndLoad := by
  refine ⟨fun x cut s => ?_, fun x s ht => ?_⟩
  · let u := setStraps x (setPower true s)
    let t := resetWith .power (cut.elim s.ml.miso (fun y => cutBytes y s)) u
    have he : exec (.powerUp x cut) s = .next (beginStart t) :=
      congrArg (fun v => Host.Outcome.next (beginStart v)) (voidLink_resetNow .power cut s u)
    obtain ⟨hp, hn, hq, hf⟩ := resetWith_kept .power (cut.elim s.ml.miso (fun y => cutBytes y s)) u
    have held : u.pins.resetHeld = s.pins.resetHeld := rfl
    have powered : u.pins.powered = true := rfl
    by_cases hh : s.pins.resetHeld = true
    · have hal : alive t = false := by simp [alive, t, hp, held, hh]
      rw [he, beginStart, if_neg (by simp [hal])]
      refine ⟨t, rfl, resetWith_blocksReset _ _ _, rfl, ?_, hp, hn, hq, hf,
        fun _ => ⟨resetWith_linkReset _ _ _, rfl, rfl⟩, fun h => by simp [hh] at h⟩
      cases cut <;> rfl
    · have hal : alive t = true := by simp [alive, t, hp, held, powered, hh]
      rw [he, beginStart, if_pos hal]
      obtain ⟨hr, hc⟩ := loading_resetWith_record .power (cut.elim s.ml.miso (fun y => cutBytes y s)) u
      refine ⟨loading t, rfl, loading_resetWith_blocksReset _ _ _, hc, (loading_resetWith_miso _ _ _).trans ?_, ?_,
        ?_, ?_, fun h => ?_, fun h => absurd h hh, fun _ => ⟨?_, ?_⟩⟩
      · cases cut <;> rfl
      · simpa [t, u, setStraps, setPower] using hp
      · simpa [t, u, setStraps, setPower] using hn
      · simpa [t, u, setStraps, setPower] using hq
      · simpa [t, u, setStraps, setPower] using hf h
      · simpa using loading_resetWith_linkReset .power (cut.elim s.ml.miso (fun y => cutBytes y s)) u
      · simpa using hr
  · let u := s.setMl (mlPending 26 x s)
    let t := resetWith .request u.ml.miso u
    have hal : alive t = true := by
      have : alive u = true := ht.1
      simpa [alive, t, resetWith] using this
    have he : exec (.resetPart x) s = .next (loading t) := by
      refine (taken_submit ht).trans (congrArg _ ?_)
      show beginStart (resetNow .request u) = _
      rw [resetNow_eq, beginStart, if_pos hal]
    obtain ⟨hp, hn, hq, hf⟩ := resetWith_kept .request u.ml.miso u
    obtain ⟨hr, hc⟩ := loading_resetWith_record .request u.ml.miso u
    refine ⟨loading t, he, loading_resetWith_blocksReset _ _ _, ?_, ?_, hc, ?_, ?_, ?_,
      loading_resetWith_miso _ _ _, fun h => ?_⟩
    · simpa using loading_resetWith_linkReset .request u.ml.miso u
    · simpa using hr
    · simpa [t, u] using hp
    · simpa [t, u] using hn
    · simpa [t, u] using hq
    · simpa [t, u] using hf h

/-- Settles O13: the assertion is a full reset that holds the part, the release LOADING with the straps sampled. -/
theorem resetInputAssertAndRelease : Obligations.ResetInputAssertAndRelease := by
  refine ⟨fun cut s => ⟨fun h => ?_, fun h hp => ?_, fun h hp => ?_⟩, fun x s => ⟨fun h => ?_, fun h hp => ?_,
    fun h hp hs => ?_⟩⟩
  · show execResetInputAssert s cut = _
    simp [execResetInputAssert, h]
  · show execResetInputAssert s cut = _
    simp [execResetInputAssert, h, hp, setHeld, State.setPins]
  · have hal : alive s = true := by simp [alive, h, hp]
    let t := resetWith .pin (cut.elim s.ml.miso (fun y => cutBytes y s)) s
    have he : exec (.resetInputAssert cut) s = .next (setHeld true t) := by
      show execResetInputAssert s cut = _
      rw [execResetInputAssert, if_neg (by simp [h]), if_pos hp, voidLink_resetNow]
    obtain ⟨hpins, hn, hq, hf⟩ := resetWith_kept .pin (cut.elim s.ml.miso (fun y => cutBytes y s)) s
    refine ⟨setHeld true t, he, ?_, resetWith_linkReset .pin _ s, ?_, rfl, rfl, rfl, ?_, hn, hq, hf⟩
    · exact blocksReset_of_eq (s := t) (resetWith_blocksReset .pin _ s) rfl rfl rfl rfl rfl rfl rfl rfl rfl rfl rfl
    · show cut.elim s.ml.miso (fun y => cutBytes y s) = _
      cases cut with
      | none => rfl
      | some y => simp [cutBytes, hal]
    · show ({ t.pins with resetHeld := true } : Pins) = _
      rw [hpins]
  · show execResetInputRelease x s = _
    simp [execResetInputRelease, h]
  · show execResetInputRelease x s = _
    simp [execResetInputRelease, h, beginStart, alive, hp, setHeld, setStraps, State.setPins]
  · let u : State := { s with pins := { s.pins with resetHeld := false, straps := x } }
    have hal : alive u = true := by simp [alive, u, hp]
    have he : exec (.resetInputRelease x) s = .next (loading u) := by
      show execResetInputRelease x s = _
      rw [execResetInputRelease, if_pos h]
      exact congrArg _ (if_pos hal)
    rw [he, loading_eq]
    refine ⟨_, rfl, recordLoaded_loadedSl hs, ?_, fun hm hl => offerAll_map_event hm hl, rfl, loadedSl_eq _ _, rfl⟩
    show (loadedSl _ s.sl).cause = _
    rw [loadedSl_eq]

/-! ## The end of start-up -/

/-- The game-quiet time cannot have passed at the instant it starts (R80, R159). -/
theorem activationOk_quietNow {s : State} (h : s.fc.quietSince = if s.fc.gameCount = 0 then some s.now else none) :
    activationOk s = false := by
  have : condQuiet s = false := by
    unfold condQuiet
    rw [h]
    by_cases hg : s.fc.gameCount = 0
    · simp [hg, Config.gameQuietNs, Config.secNs]
    · simp [hg]
  simp [activationOk, this]

/-- IDLE with no image due and WAITING with one stay, when the conditions do not all hold (R158, R159). -/
theorem acSettle_quiet {s : State} (h : activationOk s = false)
    (hs : s.ac.state = if imageDue s then .waiting else .idle) : acSettle s = s := by
  have hdue : acDue s = s := by
    unfold acDue
    rw [hs]
    cases hi : imageDue s <;> simp
  have hcond : acConditions s = s := by
    unfold acConditions
    rw [hs]
    cases imageDue s <;> simp [h]
  have hdrain : acDraining s = false := by
    unfold acDraining
    rw [hs]
    cases imageDue s <;> rfl
  simp [acSettle, hdue, hcond, acDrained, hdrain, offerFill_idle hdrain]

/-- The start of flash work touches the operation in flight and the queues it is taken from (R141). -/
theorem startFlash_ie (s : State) : (startFlash s).ie = { s.ie with
    headers := (startFlash s).ie.headers, op := (startFlash s).ie.op, serves := (startFlash s).ie.serves } := by
  unfold startFlash
  (repeat' split) <;> rfl

/-- What the resume scan has found stays when the flash work it asks for starts. -/
theorem startFlash_scan (s : State) : (startFlash s).ie.activeSlot = s.ie.activeSlot ∧
    (startFlash s).ie.activeDesc = s.ie.activeDesc ∧ (startFlash s).ie.inc = s.ie.inc ∧
    (startFlash s).ie.incDesc = s.ie.incDesc ∧ (startFlash s).ie.presence = s.ie.presence := by
  rw [startFlash_ie]
  exact ⟨rfl, rfl, rfl, rfl, rfl⟩

/-- The image that is due is told by the incoming slot and the active descriptor. -/
theorem imageDue_startFlash (s : State) : imageDue (startFlash s) = imageDue s := by
  have hn : activeNumber (startFlash s) = activeNumber s := by
    unfold activeNumber
    rw [startFlash_ie]
  simp only [imageDue, incReady, startFlash_inc s, hn]

/-- The part that ends start-up in RUNNING, before the flash work starts (R11, R14, R80, R185). -/
theorem enterRunning_quiet {s : State} (hs : s.ac.state = if imageDue s then .waiting else .idle) :
    enterRunning s = { s with
      sl := { s.sl with part := .running }
      bu := { s.bu with
        pulseTimer := some s.now, sightTimer := some (s.now + s.sl.params.sightPeriod * 1000000) }
      sc := { s.sc with epoch := 0 }
      fc := { s.fc with quietSince := if s.fc.gameCount = 0 then some s.now else none } } := by
  rw [enterRunning, acSettle_quiet]
  · rfl
  · exact activationOk_quietNow rfl
  · exact hs

/-- START_UP_COMPLETE once the record has been read (R153, R169, R185). -/
theorem exec_startUpComplete {s : State} (ha : alive s = true) (hp : s.sl.part = .starting)
    (hf : s.sl.phase = .scanning) :
    let c := { s with
      ie := resumeScan s.flash
      ac := { s.ac with state := if imageDue (s.setIe (resumeScan s.flash)) then .waiting else .idle } }
    exec .startUpComplete s =
      .next (startFlash (if mayRun s then enterRunning c else c.setSl { s.sl with part := .isolated })) := by
  intro c
  show execStartUpComplete s = _
  rw [execStartUpComplete, taken_alive ha]
  have scanned : (s.sl.phase == .loading) = false := by simp [hf]
  rw [if_pos (by simp [hp]), finishStart]
  simp only [scanned, Bool.false_eq_true, if_false]
  rfl

theorem mayRun_iff (s : State) :
    mayRun s = true ↔ s.sl.recordGood = true ∧ 1 ≤ s.sl.params.node ∧ s.sl.params.node ≤ 8 := by
  simp [mayRun, and_assoc]

/-- Settles O15: the scan and the AC's state, then RUNNING or ISOLATED by the record in force. -/
theorem startUpEndsRunningOrIsolated : Obligations.StartUpEndsRunningOrIsolated := by
  intro s ha hp hf
  have acOf {b : Bool} (h : imageDue (s.setIe (resumeScan s.flash)) = b) :
      ({ s.ac with state := if imageDue (s.setIe (resumeScan s.flash)) then .waiting else .idle } : Ac) =
        { s.ac with state := if b then .waiting else .idle } := by rw [h]
  rw [exec_startUpComplete ha hp hf, ← mayRun_iff]
  cases hm : mayRun s with
  | true =>
    rw [if_pos rfl, enterRunning_quiet rfl]
    refine ⟨_, rfl, fun _ => by simp, fun h => absurd rfl h, ?_⟩
    simp only [startFlash_scan, startFlash_frame, imageDue_startFlash, true_and, and_true]
    exact ⟨fun h => acOf h, fun h => acOf h⟩
  | false =>
    rw [if_neg (by simp)]
    refine ⟨_, rfl, fun h => absurd h (by simp), fun _ => by simp, ?_⟩
    simp only [startFlash_scan, startFlash_frame, imageDue_startFlash]
    exact ⟨rfl, rfl, rfl, rfl, rfl, fun h => acOf h, fun h => acOf h, rfl, rfl, rfl, rfl, rfl, rfl, rfl⟩

end Sys2Proof.Machine
end
section
/-! SUPPORT. The pulse and sighting timers (R10, R11, R14, R18, R97, R190). -/

namespace Sys2Proof.Machine

/-! ## Peers held against a changed period -/

/-- An entry held against an own pulse period (R18). -/
def heldAgainst (period : Nat) (p : Peer) : Peer := { p with mismatch := p.mismatch || p.adv.period != period }

theorem markPeriod_absent {n : Nat} {s : State} (h : peerOf s n = none) : markPeriod n s = s := by
  simp [markPeriod, h]

theorem markPeriod_marked {n : Nat} {s : State} {p : Peer} (h : peerOf s n = some p)
    (hm : p.adv.period = s.sl.params.pulsePeriod ∨ p.mismatch = true) : markPeriod n s = s := by
  simp only [markPeriod, h]
  rw [if_pos (by simpa using hm)]

theorem markPeriod_marks {n : Nat} {s : State} {p : Peer} (h : peerOf s n = some p)
    (hp : p.adv.period ≠ s.sl.params.pulsePeriod) (hm : p.mismatch = false) :
    markPeriod n s = raise (.periodMismatch n p.adv.period) (setPeers (tabSet s.bu.peers n { p with mismatch := true }) s) := by
  simp only [markPeriod, h]
  rw [if_neg (by simp [hp, hm])]

/-- Holding a peer against the period touches its entry and the event queue alone. -/
theorem markPeriod_eq (n : Nat) (s : State) : markPeriod n s =
    { s with bu := { s.bu with peers := (markPeriod n s).bu.peers }, ml := (markPeriod n s).ml } := by
  unfold markPeriod
  split
  · split <;> rfl
  · rfl

theorem peerOf_markPeriod (n m : Nat) (s : State) : peerOf (markPeriod n s) m =
    if m = n then (peerOf s m).map (heldAgainst s.sl.params.pulsePeriod) else peerOf s m := by
  cases h : peerOf s n with
  | none =>
    rw [markPeriod_absent h]
    split
    · subst m; simp [h]
    · rfl
  | some p =>
    by_cases hm : p.adv.period = s.sl.params.pulsePeriod ∨ p.mismatch = true
    · rw [markPeriod_marked h hm]
      split
      · subst m
        have same : heldAgainst s.sl.params.pulsePeriod p = p := by
          have hb : (p.mismatch || p.adv.period != s.sl.params.pulsePeriod) = p.mismatch := by
            rcases hm with hm | hm <;> simp [hm]
          rw [heldAgainst, hb]
        rw [h, Option.map_some, same]
      · rfl
    · rw [not_or, Bool.not_eq_true] at hm
      rw [markPeriod_marks h hm.1 hm.2]
      split
      · subst m
        rw [h]
        simp [peerOf, setPeers, heldAgainst, hm]
      · simp [peerOf, setPeers, tabGet_tabSet_ne _ _ ‹¬ m = n›]

theorem markPeriod_sl (n : Nat) (s : State) : (markPeriod n s).sl = s.sl := by rw [markPeriod_eq]

theorem foldl_markPeriod_eq (l : List Nat) (s : State) : l.foldl (fun t n => markPeriod n t) s =
    { s with bu := { s.bu with peers := (l.foldl (fun t n => markPeriod n t) s).bu.peers },
             ml := (l.foldl (fun t n => markPeriod n t) s).ml } := by
  induction l generalizing s with
  | nil => rfl
  | cons n r ih =>
    rw [List.foldl_cons, ih, markPeriod_eq n s]

theorem peerOf_foldl_markPeriod (l : List Nat) (m : Nat) (s : State) :
    peerOf (l.foldl (fun t n => markPeriod n t) s) m =
      if m ∈ l then (peerOf s m).map (heldAgainst s.sl.params.pulsePeriod) else peerOf s m := by
  induction l generalizing s with
  | nil => simp
  | cons n r ih =>
    rw [List.foldl_cons, ih, markPeriod_sl, peerOf_markPeriod]
    by_cases hn : m = n
    · subst m
      cases peerOf s n with
      | none => simp
      | some p => by_cases hr : n ∈ r <;> simp [hr, heldAgainst]
    · simp [hn]

/-- With one entry in the Peer Table only that one is held against the period. -/
theorem foldl_markPeriod_one {l : List Nat} {n : Nat} {s : State} (hl : l.Nodup) (hn : n ∈ l)
    (h : ∀ m, m ≠ n → peerOf s m = none) : l.foldl (fun t n => markPeriod n t) s = markPeriod n s := by
  have skip (r : List Nat) (hr : n ∉ r) (t : State) (ht : ∀ m, m ≠ n → peerOf t m = none) :
      r.foldl (fun t n => markPeriod n t) t = t := by
    induction r with
    | nil => rfl
    | cons m r ih =>
      rw [List.mem_cons, not_or] at hr
      rw [List.foldl_cons, markPeriod_absent (ht m (Ne.symm hr.1)), ih hr.2]
  induction l with
  | nil => cases hn
  | cons m r ih =>
    rw [List.nodup_cons] at hl
    rw [List.foldl_cons]
    by_cases hm : m = n
    · subst m
      exact skip r hl.1 _ fun k hk => by rw [peerOf_markPeriod, if_neg hk, h k hk]
    · rw [markPeriod_absent (h m hm), ih hl.2 ((List.mem_cons.1 hn).resolve_left (Ne.symm hm))]

/-! ## The control transmit queue at a pulse timer's expiry -/

/-- The queue the timed PULSE joins, or finds a PULSE waiting in (R11). -/
def timedControl (q : List Control) : List Control :=
  if q.any isPulse then q.map makeTimed else joinControl (.pulse true) q

theorem timedPulse_running {s : State} (h : running s = true) :
    timedPulse s = s.setBu { s.bu with control := timedControl s.bu.control } := by
  unfold timedPulse timedControl
  split
  · rfl
  · exact if_pos h

theorem makeTimed_of_not_pulse {c : Control} (h : isPulse c = false) : makeTimed c = c := by
  cases c with
  | pulse _ => cases h
  | bulletin _ _ => rfl

theorem map_makeTimed {l : List Control} (h : ∀ y ∈ l, isPulse y = false) : l.map makeTimed = l :=
  (List.map_congr_left fun y hy => makeTimed_of_not_pulse (h y hy)).trans (List.map_id _)

/-- A PULSE waiting is the timed one from then on (R11). -/
theorem timedControl_waiting {a b : List Control} (x : Bool) (h : ∀ y ∈ a ++ b, isPulse y = false) :
    timedControl (a ++ .pulse x :: b) = a ++ .pulse true :: b := by
  have ha := map_makeTimed fun y hy => h y (List.mem_append_left b hy)
  have hb := map_makeTimed fun y hy => h y (List.mem_append_right a hy)
  rw [timedControl, if_pos (by simp [isPulse])]
  simp [ha, hb, makeTimed]

/-! ## The sighting list -/

theorem piecesOf_nil (n : Nat) : piecesOf n [] = [] := by cases n <;> rfl

/-- A list in pieces of 48, the last with the remainder (R14). -/
theorem piecesOf_eq {n k : Nat} {l : List Listing} (hk : k < n) (h1 : 48 * k < l.length) (h2 : l.length ≤ 48 * (k + 1)) :
    piecesOf n l = (List.range (k + 1)).map (fun j => (l.drop (48 * j)).take 48) := by
  induction n generalizing k l with
  | zero => omega
  | succ n ih =>
    have hne : l.isEmpty = false := by
      cases l with
      | nil => simp at h1
      | cons _ _ => rfl
    rw [piecesOf, hne, List.range_succ_eq_map]
    cases k with
    | zero => simp [List.drop_eq_nil_of_le (show l.length ≤ 48 by omega), piecesOf_nil]
    | succ k =>
      rw [ih (k := k) (by omega) (by simp; omega) (by simp; omega)]
      simp [List.drop_drop, Nat.mul_add, Nat.add_comm]

theorem sendSightings_running {s : State} (h : running s = true) : sendSightings s = s.setBu { s.bu with
    control := (piecesOf 6 (sightingList s)).foldl (fun c l => joinControl (.bulletin 0 (.sighting l)) c) s.bu.control } := by
  unfold sendSightings
  generalize piecesOf 6 (sightingList s) = p
  induction p generalizing s with
  | nil => rfl
  | cons l r ih =>
    have hl : sendBulletin 0 (.sighting l) s =
        s.setBu { s.bu with control := joinControl (.bulletin 0 (.sighting l)) s.bu.control } := if_pos h
    rw [List.foldl_cons, hl, ih (by exact h)]
    rfl

theorem mem_sightingList {s : State} {a : Listing} : a ∈ sightingList s ↔
    ∃ i c v, (i, c) ∈ s.rc.clients ∧ c.average = some v ∧ a = Listing.mk c.addr v.value (isServing c.role)
      (if isServing c.role then c.tenure else 0#16) := by
  have listed (b : Bool) (c : Client) : listingOf b c = some a ↔
      ∃ v, c.average = some v ∧ a = Listing.mk c.addr v.value b (if b then c.tenure else 0#16) := by
    cases hv : c.average with
    | none => simp [listingOf, hv]
    | some v => simp [listingOf, hv, eq_comm]
  simp only [sightingList, List.mem_append, List.mem_filterMap, List.mem_filter, listed, Prod.exists]
  constructor
  · rintro (⟨i, c, ⟨hm, hs⟩, v, hv, ha⟩ | ⟨i, c, ⟨hm, hs⟩, v, hv, ha⟩)
    · exact ⟨i, c, v, hm, hv, by simp [ha, hs]⟩
    · exact ⟨i, c, v, hm, hv, by simp [ha, (by simpa using hs : isServing c.role = false)]⟩
  · rintro ⟨i, c, v, hm, hv, ha⟩
    cases hs : isServing c.role with
    | true => exact .inl ⟨i, c, ⟨hm, hs⟩, v, hv, by simp [ha, hs]⟩
    | false => exact .inr ⟨i, c, ⟨hm, by simp [hs]⟩, v, hv, by simp [ha, hs]⟩

/-- SERVED and HANDING entries stand before the others (R14). -/
theorem sightingList_split (s : State) :
    ∃ x y, sightingList s = x ++ y ∧ (∀ e ∈ x, e.servedHere = true) ∧ (∀ e ∈ y, e.servedHere = false) := by
  have flag (b : Bool) (l : Table Client) :
      ∀ e ∈ l.filterMap (fun p => listingOf b p.2), e.servedHere = b := by
    intro e he
    obtain ⟨p, _, hp⟩ := List.mem_filterMap.1 he
    cases hv : p.2.average with
    | none => simp [listingOf, hv] at hp
    | some v =>
      simp only [listingOf, hv, Option.map_some, Option.some.injEq] at hp
      rw [← hp]
  exact ⟨_, _, rfl, flag true _, flag false _⟩

/-! ## The two expiries -/

theorem exec_pulseTimerExpiry {s : State} (ha : alive s = true) :
    (s.bu.pulseTimer = none → exec .pulseTimerExpiry s = .next s) ∧
      (∀ d, s.bu.pulseTimer = some d → exec .pulseTimerExpiry s =
        .next (wake (timedPulse (restartPulse d (adoptPulsePeriod (runTo d s)))))) := by
  refine ⟨fun h => ?_, fun d h => ?_⟩
  · show execPulseTimerExpiry s = _
    rw [execPulseTimerExpiry, taken_alive ha]
    simp only [h]
  · show execPulseTimerExpiry s = _
    rw [execPulseTimerExpiry, taken_alive ha]
    simp only [h]

theorem exec_sightingTimerExpiry {s : State} (ha : alive s = true) :
    (s.bu.sightTimer = none → exec .sightingTimerExpiry s = .next s) ∧
      (∀ d, s.bu.sightTimer = some d → exec .sightingTimerExpiry s =
        .next (wake (sendSightings (restartSight d (adoptSightPeriod (runTo d s)))))) := by
  refine ⟨fun h => ?_, fun d h => ?_⟩
  · show execSightingTimerExpiry s = _
    rw [execSightingTimerExpiry, taken_alive ha]
    simp only [h]
  · show execSightingTimerExpiry s = _
    rw [execSightingTimerExpiry, taken_alive ha]
    simp only [h]

/-- The state in which peers are held against the pulse period that comes into force (R97, R190). -/
def withPulsePeriod (p : Nat) (s : State) : State :=
  s.setSl { s.sl with params := { s.sl.params with pulsePeriod := p }, nextPulse := none }

theorem adoptPulsePeriod_none {s : State} (h : s.sl.nextPulse = none) : adoptPulsePeriod s = s := by
  simp only [adoptPulsePeriod, h]

theorem adoptPulsePeriod_some {s : State} {p : Nat} (h : s.sl.nextPulse = some p) :
    adoptPulsePeriod s = nodes.foldl (fun t n => markPeriod n t) (withPulsePeriod p s) := by
  simp only [adoptPulsePeriod, h, withPulsePeriod]

theorem adoptPulsePeriod_eq (s : State) : adoptPulsePeriod s =
    { withPulsePeriod (s.sl.nextPulse.getD s.sl.params.pulsePeriod) s with
      bu := { s.bu with peers := (adoptPulsePeriod s).bu.peers }, ml := (adoptPulsePeriod s).ml } := by
  cases h : s.sl.nextPulse with
  | none =>
    rw [adoptPulsePeriod_none h]
    simp only [withPulsePeriod, Option.getD_none, State.setSl]
    rw [← h]
  | some p =>
    rw [adoptPulsePeriod_some h, foldl_markPeriod_eq]
    rfl

theorem adoptSightPeriod_eq (s : State) : adoptSightPeriod s = { s with
    sl := { s.sl with
      params := { s.sl.params with sightPeriod := s.sl.nextSight.getD s.sl.params.sightPeriod }, nextSight := none } } := by
  cases h : s.sl.nextSight with
  | none =>
    simp only [adoptSightPeriod, h, Option.getD_none]
    rw [← h]
  | some p =>
    simp only [adoptSightPeriod, h]
    rfl

/-- Settles O37: the period in force, the next expiry, and what joins the queue. -/
theorem pulseAndSightingTimersQueueBulletins : Obligations.PulseAndSightingTimersQueueBulletins := by
  intro s hl hw
  have ha : alive s = true := by simp only [live, Bool.and_eq_true] at hl; exact hl.1
  have hr : running s = true := by simp only [live, Bool.and_eq_true] at hl; exact hl.2
  refine ⟨(exec_pulseTimerExpiry ha).1, (exec_sightingTimerExpiry ha).1, fun d hd => ?_, fun d hd => ?_⟩
  · rw [(exec_pulseTimerExpiry ha).2 d hd]
    obtain ⟨now, su, hu⟩ := runTo_cases d s
    rw [hu]
    generalize huu : ({ s with now := now, su := su } : State) = u
    have hbu : u.bu = s.bu := by rw [← huu]
    have hsl : u.sl = s.sl := by rw [← huu]
    have hml : u.ml = s.ml := by rw [← huu]
    have done : wake (timedPulse (restartPulse d (adoptPulsePeriod u))) = { u with
        bu := { s.bu with
          pulseTimer := some (d + s.sl.nextPulse.getD s.sl.params.pulsePeriod * 1000000)
          control := timedControl s.bu.control, peers := (adoptPulsePeriod u).bu.peers }
        sl := { s.sl with
          params := { s.sl.params with pulsePeriod := s.sl.nextPulse.getD s.sl.params.pulsePeriod }, nextPulse := none }
        ml := (adoptPulsePeriod u).ml } := by
      have hra : running (restartPulse d (adoptPulsePeriod u)) = true := by
        rw [adoptPulsePeriod_eq, ← huu]; exact hr
      rw [timedPulse_running hra, wake_waits (by rw [adoptPulsePeriod_eq, ← huu]; exact hw), adoptPulsePeriod_eq, hbu, hsl, ← huu]
      rfl
    rw [done]
    refine ⟨_, rfl, rfl, fun hp => if_neg (by simp [hp]), fun a b x hc hab => ?_, fun hp => ?_, fun hp => ?_⟩
    · show timedControl s.bu.control = _
      rw [hc, timedControl_waiting x hab]
    · rw [adoptPulsePeriod_none (hsl ▸ hp), hbu, hml]
      exact ⟨rfl, rfl⟩
    · obtain ⟨q, hq⟩ := Option.isSome_iff_exists.1 hp
      rw [adoptPulsePeriod_some (hsl ▸ hq), hq]
      refine ⟨fun n p h1 h8 hpn => ?_, fun n p h1 h8 hpn => ?_⟩
      · show tabGet (nodes.foldl (fun t n => markPeriod n t) (withPulsePeriod q u)).bu.peers n = _
        have hpu : peerOf (withPulsePeriod q u) n = some p := by rw [← huu]; exact hpn
        rw [← peerOf, peerOf_foldl_markPeriod, if_pos (mem_nodes.2 ⟨h1, h8⟩), hpu]
        rfl
      · have hpeers : (withPulsePeriod q u).bu.peers = [(n, p)] := by rw [← hpn, ← hbu]; rfl
        have hpu : peerOf (withPulsePeriod q u) n = some p := by simp [peerOf, hpeers, tabGet]
        show (nodes.foldl (fun t n => markPeriod n t) (withPulsePeriod q u)).ml = _
        rw [foldl_markPeriod_one (by decide) (mem_nodes.2 ⟨h1, h8⟩)
          (fun m hm => by simp [peerOf, hpeers, tabGet, Ne.symm hm])]
        by_cases hm : p.adv.period = q ∨ p.mismatch = true
        · rw [markPeriod_marked hpu hm, if_neg (by simpa [or_comm, imp_iff_not_or] using hm)]
          exact hml
        · rw [not_or, Bool.not_eq_true] at hm
          rw [markPeriod_marks hpu hm.1 hm.2, if_pos ⟨hm.2, hm.1⟩, ← hml]
          rfl
  · rw [(exec_sightingTimerExpiry ha).2 d hd]
    obtain ⟨now, su, hu⟩ := runTo_cases d s
    rw [hu, adoptSightPeriod_eq, sendSightings_running (by exact hr), wake_waits (by exact hw)]
    refine ⟨_, rfl, fun hl => ?_, fun k hk h1 h2 => ?_, sightingList_split s, fun a => mem_sightingList.symm⟩
    · show (piecesOf 6 (sightingList s)).foldl _ _ = _
      rw [hl]
      rfl
    · show (piecesOf 6 (sightingList s)).foldl _ _ = _
      rw [piecesOf_eq (by omega) h1 h2, List.foldl_map]
      rfl

end Sys2Proof.Machine
end
section
/-! SUPPORT. Frames that are discarded (R1, R2, R3, R5, R7, R8, R22). -/

namespace Sys2Proof.Machine

/-! ## The gate -/

section
variable {a : Addr} {mt : BitVec 16} {src dst : BitVec 8} {s : State}

/-- A mesh tag or a node number that the second check of R2 refuses. -/
theorem gate_foreign (h : mt.toNat ≠ s.sl.params.meshTag ∨ src = 0#8 ∨ 8 < src.toNat ∨ 8 < dst.toNat ∨ dst = src) :
    gate a mt src dst s = .discard := by
  unfold gate
  by_cases hm : mt.toNat ≠ s.sl.params.meshTag
  · rw [if_pos hm]
  · rw [if_neg hm, if_pos]
    rcases h with h | h | h | h | h
    · exact absurd h hm
    · exact .inl (by simp [h])
    · exact .inr (.inl h)
    · exact .inr (.inr (.inl h))
    · exact .inr (.inr (.inr h))

/-- From an ABSENT source other than the own number (R3). -/
theorem gate_of_absent (hn : src.toNat ≠ s.sl.params.node) (h : peerOf s src.toNat = none) :
    gate a mt src dst s = .discard ∨ gate a mt src dst s = .absent src.toNat := by
  unfold gate
  split
  · exact .inl rfl
  · split
    · exact .inl rfl
    · simp only [h, or_true]

/-- From a known source other than the own number, at its recorded address (R3). -/
theorem gate_of_known {p : Peer} (hn : src.toNat ≠ s.sl.params.node) (h : peerOf s src.toNat = some p) (ha : p.addr = a) :
    gate a mt src dst s = .discard ∨ gate a mt src dst s = .known src.toNat p := by
  unfold gate
  split
  · exact .inl rfl
  · split
    · exact .inl rfl
    · simp only [h]
      exact .inr (if_pos ha)

/-- A frame that bears the own node number is discarded, and clashes when it does not come from the own address (R3). -/
theorem gate_own (hm : mt.toNat = s.sl.params.meshTag) (h1 : 1 ≤ src.toNat) (h8 : src.toNat ≤ 8) (hd : dst.toNat ≤ 8)
    (hne : dst ≠ src) (hn : src.toNat = s.sl.params.node) :
    gate a mt src dst s = if a = Config.ownAddress then .discard else .clash s.sl.params.node := by
  have h0 : src.toNat ≠ 0 := by omega
  unfold gate
  rw [if_neg (by simpa using hm), if_neg (by simp [h0, Nat.not_lt.mpr h8, Nat.not_lt.mpr hd, hne]), if_pos hn, hn]

end

/-! ## The clash -/

theorem nodeClash_running {n d : Nat} {a : Addr} {s : State} (h : tabGet s.bu.clash n = some d) : nodeClash n a s = s := by
  simp [nodeClash, h]

/-- NODE CLASH is raised and its timer started (R3). -/
theorem nodeClash_raised {n : Nat} {a : Addr} {s : State} (h : tabGet s.bu.clash n = none) : nodeClash n a s =
    { s with
      bu := { s.bu with clash := tabSet s.bu.clash n (s.now + 10000000000) }
      ml := offerEvent (stamp (.nodeClash n a) s) s.ml } := by
  simp only [nodeClash, h]
  rfl

/-- The two outcomes of a clash: nothing while the clash timer runs, and the event with its timer otherwise (R3). -/
theorem clashes_of_nodeClash {n : Nat} {a : Addr} {c : Instr} {s : State} (h : exec c s = .next (nodeClash n a s)) :
    (∀ d, tabGet s.bu.clash n = some d → exec c s = .next s) ∧
      (tabGet s.bu.clash n = none → exec c s = .next { s with
        bu := { s.bu with clash := tabSet s.bu.clash n (s.now + 10000000000) }
        ml := offerEvent (stamp (.nodeClash n a) s) s.ml }) :=
  ⟨fun _ hd => h.trans (congrArg _ (nodeClash_running hd)), fun hd => h.trans (congrArg _ (nodeClash_raised hd))⟩

/-! ## Commands that bring a bulletin -/

/-- Command c brings frame f: the checks of R1 to R3 decide of it, `body` being whether its body is well formed. -/
structure BringsFrame (body : Bool) (f : MeshFrame) (c : Instr) : Prop where
  ignored : ∀ s, portTakes f.frameType s = false ∨ body = false ∨
    gate f.srcAddr f.meshTag f.source f.target s = .discard → exec c s = .next s
  clash : ∀ s n, alive s = true → portTakes f.frameType s = true → body = true →
    gate f.srcAddr f.meshTag f.source f.target s = .clash n → exec c s = .next (nodeClash n f.srcAddr s)

/-- Command c brings frame f of a kind other than PULSE: from an ABSENT source, or stale, it changes nothing (R3, R5). -/
def IgnoresStale (f : MeshFrame) (c : Instr) : Prop :=
  ∀ s, (∃ n, gate f.srcAddr f.meshTag f.source f.target s = .absent n) ∨
    (∃ n p, gate f.srcAddr f.meshTag f.source f.target s = .known n p ∧ newer f.seq p.lastSeq = false) →
    exec c s = .next s

theorem taken_same {f : State → State} {s : State} (h : f s = s) : taken f s = .next s := by simp [taken, h]

theorem brings_receive {kind : Nat} {f : MeshFrame} {c : Instr} {k : Nat → Body → State → State}
    (h : ∀ s, exec c s = taken (receive kind f k) s) :
    BringsFrame (readBody kind f).isSome f c ∧ IgnoresStale f c := by
  refine ⟨⟨fun s hs => (h s).trans (taken_same ?_), fun s n ha hp hb hg => ?_⟩, fun s hs => (h s).trans (taken_same ?_)⟩
  · rcases hs with hs | hs | hs
    · simp [receive, hs]
    · have hb : readBody kind f = none := by simpa using hs
      simp [receive, hb]
    · cases hb : readBody kind f <;> simp [receive, hb, hs]
  · obtain ⟨b, hb⟩ := Option.isSome_iff_exists.1 hb
    rw [h s, taken_alive ha]
    simp [receive, hp, hb, hg]
  · rcases hs with ⟨n, hs⟩ | ⟨n, p, hs, hn⟩
    · cases hb : readBody kind f <;> simp [receive, hb, hs]
    · cases hb : readBody kind f <;> simp [receive, hb, hs, hn]

theorem readBody_pulse {f : MeshFrame} {x : Body} (h : readBody 1 f = some x) : ∃ b, x = .pulse b := by
  unfold readBody at h
  obtain ⟨d, _, hd⟩ := Option.bind_eq_some_iff.1 h
  obtain ⟨b, _, rfl⟩ := Option.map_eq_some_iff.1 hd
  exact ⟨b, rfl⟩

theorem brings_pulse (f : MeshFrame) : BringsFrame (readBody 1 f).isSome f (.pulseReceive f) := by
  have h (s : State) : exec (.pulseReceive f) s = taken (receivePulse f pulseFollow) s := rfl
  refine ⟨fun s hs => (h s).trans (taken_same ?_), fun s n ha hp hb hg => ?_⟩
  · rcases hs with hs | hs | hs
    · simp [receivePulse, hs]
    · have hb : readBody 1 f = none := by simpa using hs
      simp [receivePulse, hb]
    · cases hb : readBody 1 f with
      | none => simp [receivePulse, hb]
      | some x =>
        obtain ⟨b, rfl⟩ := readBody_pulse hb
        simp [receivePulse, hb, hs]
  · obtain ⟨x, hb⟩ := Option.isSome_iff_exists.1 hb
    obtain ⟨b, rfl⟩ := readBody_pulse hb
    rw [h s, taken_alive ha]
    simp [receivePulse, hp, hb, hg]

theorem brings_unknown (k : BitVec 8) (f : MeshFrame) :
    BringsFrame (bodyBytes f).isSome f (.unknownKindBulletinReceive k f) ∧
      IgnoresStale f (.unknownKindBulletinReceive k f) := by
  refine ⟨⟨fun s hs => taken_same ?_, fun s n ha hp hb hg => ?_⟩, fun s hs => taken_same ?_⟩
  · rcases hs with hs | hs | hs
    · simp [hs]
    · simp [hs]
    · simp [hs]
  · refine (taken_alive ha).trans ?_
    simp [hp, hb, hg]
  · rcases hs with ⟨n, hs⟩ | ⟨n, p, hs, hn⟩
    · simp [hs]
    · simp [hs, hn]

/-- The commands that bring a bulletin of a known kind, with their kinds (Table 1-1). -/
def knownKinds (f : MeshFrame) : List (Nat × Instr) :=
  [(1, .pulseReceive f), (2, .sightingReceive f), (3, .claimReceive f), (4, .grantReceive f),
    (5, .refuseReceive f), (6, .withdrawReceive f), (7, .arrivedReceive f), (8, .contextReceive f),
    (9, .offerReceive f), (10, .fetchReceive f), (11, .chunkReceive f)]

/-- Every kind of bulletin is checked in the same way; every kind other than PULSE ignores a stale one (R2, R3, R5). -/
theorem brings_known (f : MeshFrame) : (∀ kc ∈ knownKinds f, BringsFrame (readBody kc.1 f).isSome f kc.2) ∧
    ∀ kc ∈ (knownKinds f).drop 1, IgnoresStale f kc.2 := by
  have h2 := brings_receive (kind := 2) (f := f) (c := .sightingReceive f) (k := takeSighting) fun _ => rfl
  have h3 := brings_receive (kind := 3) (f := f) (c := .claimReceive f) (k := takeClaim) fun _ => rfl
  have h4 := brings_receive (kind := 4) (f := f) (c := .grantReceive f) (k := takeGrant) fun _ => rfl
  have h5 := brings_receive (kind := 5) (f := f) (c := .refuseReceive f) (k := takeRefuse) fun _ => rfl
  have h6 := brings_receive (kind := 6) (f := f) (c := .withdrawReceive f) (k := takeWithdraw) fun _ => rfl
  have h7 := brings_receive (kind := 7) (f := f) (c := .arrivedReceive f) (k := takeArrived) fun _ => rfl
  have h8 := brings_receive (kind := 8) (f := f) (c := .contextReceive f) (k := takeContext) fun _ => rfl
  have h9 := brings_receive (kind := 9) (f := f) (c := .offerReceive f) (k := takeOffer) fun _ => rfl
  have h10 := brings_receive (kind := 10) (f := f) (c := .fetchReceive f) (k := takeFetch) fun _ => rfl
  have h11 := brings_receive (kind := 11) (f := f) (c := .chunkReceive f) (k := takeChunk) fun _ => rfl
  simp only [knownKinds, List.drop_succ_cons, List.drop_zero, List.forall_mem_cons]
  exact ⟨⟨brings_pulse f, h2.1, h3.1, h4.1, h5.1, h6.1, h7.1, h8.1, h9.1, h10.1, h11.1, by simp⟩,
    h2.2, h3.2, h4.2, h5.2, h6.2, h7.2, h8.2, h9.2, h10.2, h11.2, by simp⟩

/-! ## Bodies that no layout has (R2, R22) -/

/-- The kinds whose bodies have one length, with that length (section 1.11). -/
def fixedLengths : List (Nat × Nat) :=
  [(36, 1), (10, 3), (8, 4), (9, 5), (8, 6), (8, 7), (14, 8), (6, 9), (9, 10)]

theorem decodeBody_length {d : List Byte} : ∀ lk ∈ fixedLengths, d.length ≠ lk.1 → decodeBody lk.2 d = none := by
  simp only [fixedLengths, List.forall_mem_cons]
  refine ⟨fun h => ?_, fun h => if_neg h, fun h => if_neg h, fun h => if_neg h, fun h => if_neg h, fun h => if_neg h,
    fun h => if_neg h, fun h => if_neg h, fun h => if_neg h, by simp⟩
  simp [decodeBody, decodePulse, h]

theorem decodeBody_sighting {d : List Byte} (h : field 0 1 d = 0 ∨ 48 < field 0 1 d ∨ d.length ≠ 1 + 11 * field 0 1 d) :
    decodeBody 2 d = none := by
  have : ¬ (1 ≤ field 0 1 d ∧ field 0 1 d ≤ 48 ∧ d.length = 1 + 11 * field 0 1 d) := by omega
  simp [decodeBody, decodeSighting, this]

theorem decodeBody_chunk {d : List Byte} (h : d.length < 15 ∨ d.length ≠ 15 + field 9 2 d) : decodeBody 11 d = none :=
  if_neg (by omega)

theorem gradeOf_none {n : Nat} (h : 2 < n) : gradeOf n = none := by
  match n, h with
  | n + 3, _ => rfl

theorem incStateOf_none {n : Nat} (h : 5 < n) : incStateOf n = none := by
  match n, h with
  | n + 6, _ => rfl

/-- The values of a PULSE that R22 calls malformed. -/
theorem decodeBody_pulse {d : List Byte} (h : field 0 1 d < 10 ∨ 100 < field 0 1 d ∨ field 0 1 d % 5 ≠ 0 ∨
    2 < field 1 1 d ∨ 10079 < field 3 2 d ∨ 59999 < field 5 2 d ∨ 5 < field 33 1 d) : decodeBody 1 d = none := by
  have hp : decodePulse d = none := by
    unfold decodePulse
    split
    · split
      · rename_i hg hi
        have h1 : ¬ 2 < field 1 1 d := fun hc => by simp [gradeOf_none hc] at hg
        have h2 : ¬ 5 < field 33 1 d := fun hc => by simp [incStateOf_none hc] at hi
        exact if_neg (by omega)
      · rfl
    · rfl
  simp [decodeBody, hp]

/-- A body is malformed when its length exceeds what follows the header, or its bytes are no body of its kind. -/
theorem readBody_isSome_false {kind : Nat} {f : MeshFrame}
    (h : f.bytes.length < f.bodyLen.toNat ∨ decodeBody kind (f.bytes.take f.bodyLen.toNat) = none) :
    (readBody kind f).isSome = false := by
  unfold readBody bodyBytes
  rcases h with h | h
  · simp [Nat.not_le.mpr h]
  · split
    · simp [h]
    · rfl

/-- A condition on the bytes of a whole body makes a malformed one ignored. -/
theorem ignored_of_malformed {kind : Nat} {f : MeshFrame} {c : Instr} (hc : (kind, c) ∈ knownKinds f)
    (h : (f.bytes.take f.bodyLen.toNat).length = f.bodyLen.toNat → decodeBody kind (f.bytes.take f.bodyLen.toNat) = none)
    (s : State) : exec c s = .next s := by
  refine ((brings_known f).1 _ hc).ignored s (.inr (.inl (readBody_isSome_false ?_)))
  by_cases hl : f.bytes.length < f.bodyLen.toNat
  · exact .inl hl
  · exact .inr (h (by simpa using Nat.not_lt.mp hl))

/-! ## Carried frames -/

theorem exec_carried (f : CarriedFrame) (s : State) :
    exec (.carriedFrameReceive f) s = taken (receiveCarried f (takeCarried f)) s := rfl

/-- A carried frame whose header is well formed (R2, R8). -/
def carriedOk (f : CarriedFrame) : Prop :=
  f.cls.toNat ≤ 2 ∧ 14 ≤ f.frameLen.toNat ∧ f.frameLen.toNat ≤ 1536 ∧ f.frameLen.toNat ≤ f.bytes.length

theorem carrierClass_none_iff {c : BitVec 8} : carrierClass c = none ↔ ¬ c.toNat ≤ 2 := by
  unfold carrierClass
  split
  case h_4 _ h0 h1 h2 =>
    have h0 : c.toNat ≠ 0 := h0
    have h1 : c.toNat ≠ 1 := h1
    have h2 : c.toNat ≠ 2 := h2
    simp only [true_iff]
    omega
  all_goals simp [*]

/-- What a well-formed carried frame leads to, by what the checks decide of it (R2, R3, R8). -/
def carriedOutcome (f : CarriedFrame) (c : Class) (k : Class → List Byte → State → State) (s : State) : Gate → State
  | .discard => s
  | .clash n => nodeClash n f.srcAddr s
  | .absent _ => s
  | .known _ _ => if f.dest.toNat = s.sl.params.node then k c (f.bytes.take f.frameLen.toNat) s else s

theorem receiveCarried_ok {f : CarriedFrame} {k : Class → List Byte → State → State} {s : State}
    (hp : portTakes f.frameType s = true) (hf : carriedOk f) : ∃ c, receiveCarried f k s =
      carriedOutcome f c k s (gate f.srcAddr f.meshTag f.source f.dest s) := by
  obtain ⟨hc, h14, h1536, hb⟩ := hf
  cases hcl : carrierClass f.cls with
  | none => exact absurd hc (carrierClass_none_iff.1 hcl)
  | some c =>
    refine ⟨c, ?_⟩
    simp only [receiveCarried, hp, hcl, h14, h1536, hb, and_self, if_true]
    cases gate f.srcAddr f.meshTag f.source f.dest s <;> rfl

theorem receiveCarried_malformed {f : CarriedFrame} {k : Class → List Byte → State → State} {s : State}
    (h : portTakes f.frameType s = false ∨ ¬ carriedOk f) : receiveCarried f k s = s := by
  rcases h with h | h
  · simp [receiveCarried, h]
  · cases hcl : carrierClass f.cls with
    | none => simp [receiveCarried, hcl]
    | some c =>
      have hc : f.cls.toNat ≤ 2 := by
        by_contra hc
        simp [carrierClass_none_iff.2 hc] at hcl
      have hl : ¬ (f.frameLen.toNat ≤ f.bytes.length ∧ 14 ≤ f.frameLen.toNat ∧ f.frameLen.toNat ≤ 1536) :=
        fun hl => h ⟨hc, hl.2.1, hl.2.2, hl.1⟩
      simp [receiveCarried, hcl, hl]

theorem receiveCarried_ignored {f : CarriedFrame} {k : Class → List Byte → State → State} {s : State}
    (h : portTakes f.frameType s = false ∨ ¬ carriedOk f ∨
      gate f.srcAddr f.meshTag f.source f.dest s = .discard ∨
      (∃ n, gate f.srcAddr f.meshTag f.source f.dest s = .absent n) ∨
      (f.dest.toNat ≠ s.sl.params.node ∧ ∃ n p, gate f.srcAddr f.meshTag f.source f.dest s = .known n p)) :
    receiveCarried f k s = s := by
  by_cases hm : portTakes f.frameType s = false ∨ ¬ carriedOk f
  · exact receiveCarried_malformed hm
  · rw [not_or, Bool.not_eq_false, not_not] at hm
    obtain ⟨c, hr⟩ := receiveCarried_ok (k := k) hm.1 hm.2
    rw [hr]
    rcases h with h | h | h | ⟨n, h⟩ | ⟨hd, n, p, h⟩
    · simp [hm.1] at h
    · exact absurd hm.2 h
    · simp [h, carriedOutcome]
    · simp [h, carriedOutcome]
    · simp [h, hd, carriedOutcome]

theorem receiveCarried_clash {f : CarriedFrame} {k : Class → List Byte → State → State} {s : State} {n : Nat}
    (hp : portTakes f.frameType s = true) (hf : carriedOk f)
    (hg : gate f.srcAddr f.meshTag f.source f.dest s = .clash n) :
    receiveCarried f k s = nodeClash n f.srcAddr s := by
  obtain ⟨c, hr⟩ := receiveCarried_ok (k := k) hp hf
  rw [hr, hg, carriedOutcome]

/-! ## The statement -/

theorem portTakes_false {ft : BitVec 16} {s : State} (h : running s = false ∨ ft.toNat ≠ s.sl.params.frameType) :
    portTakes ft s = false := by
  rcases h with h | h <;> simp [portTakes, h]

/-- What the first checks refuse, whoever sends it (R1, R2). -/
theorem refused_foreign {ft mt : BitVec 16} {src dst : BitVec 8} {a : Addr} {s : State}
    (h : running s = false ∨ ft.toNat ≠ s.sl.params.frameType ∨ mt.toNat ≠ s.sl.params.meshTag ∨ src = 0#8 ∨
      8 < src.toNat ∨ 8 < dst.toNat ∨ dst = src) :
    portTakes ft s = false ∨ gate a mt src dst s = .discard := by
  rw [← or_assoc] at h
  exact h.imp portTakes_false gate_foreign

theorem exec_unknown (k : BitVec 8) {f : MeshFrame} {p : Peer} {s : State} (hl : live s = true)
    (hm : fromMesh f.frameType f.meshTag f.source f.target s = true) (hb : f.bodyLen.toNat ≤ f.bytes.length)
    (hp : peerOf s f.source.toNat = some p) (ha : p.addr = f.srcAddr) :
    exec (.unknownKindBulletinReceive k f) s =
      .next (if newer f.seq p.lastSeq then { s with bu := seqTaken f p s.bu } else s) := by
  obtain ⟨ha', hr⟩ := by simpa [live] using hl
  refine (taken_alive ha').trans ?_
  have hg := gate_fromMesh (a := f.srcAddr) hm hp
  rw [if_pos ha] at hg
  cases hn : newer f.seq p.lastSeq <;> simp [portTakes_fromMesh hm hr, bodyBytes, hb, hg, hn, setLastSeq, seqTaken, setPeers, State.setBu]

/-- The commands that bring a bulletin of a kind other than PULSE ignore what the checks of R1 to R5 refuse. -/
theorem ignored_foreign {f : MeshFrame} {s : State} (hn : f.source.toNat ≠ s.sl.params.node)
    (h : (portTakes f.frameType s = false ∨ gate f.srcAddr f.meshTag f.source f.target s = .discard) ∨
      peerOf s f.source.toNat = none ∨
      (∃ p, peerOf s f.source.toNat = some p ∧ p.addr = f.srcAddr ∧ newer f.seq p.lastSeq = false))
    {body : Bool} {c : Instr} (hc : BringsFrame body f c) (hs : IgnoresStale f c) : exec c s = .next s := by
  rcases h with h | h | ⟨p, hp, ha, h⟩
  · exact hc.ignored s (h.imp_right .inr)
  · rcases gate_of_absent (a := f.srcAddr) (mt := f.meshTag) (dst := f.target) hn h with hg | hg
    · exact hc.ignored s (.inr (.inr hg))
    · exact hs s (.inl ⟨_, hg⟩)
  · rcases gate_of_known (mt := f.meshTag) (dst := f.target) hn hp ha with hg | hg
    · exact hc.ignored s (.inr (.inr hg))
    · exact hs s (.inr ⟨_, _, hg, h⟩)

/-- The gate of a frame from a known node at another address than its recorded one (R3). -/
theorem gate_elsewhere {ft mt : BitVec 16} {src dst : BitVec 8} {a : Addr} {s : State} {p : Peer}
    (hm : fromMesh ft mt src dst s = true) (hp : peerOf s src.toNat = some p) (ha : p.addr ≠ a) :
    gate a mt src dst s = .clash src.toNat :=
  (gate_fromMesh hm hp).trans (if_neg ha)

theorem portTakes_own {ft : BitVec 16} {s : State} (hr : running s = true) (h : ft.toNat = s.sl.params.frameType) :
    portTakes ft s = true := by
  simp [portTakes, hr, h]

/-- Whatever brings a whole frame of this mesh meets the clash rules of R3. -/
theorem clashRules {f : MeshFrame} {c : Instr} {s : State} (hc : BringsFrame true f c) (ha : alive s = true)
    (hr : running s = true) :
    (f.frameType.toNat = s.sl.params.frameType ∧ f.meshTag.toNat = s.sl.params.meshTag ∧ 1 ≤ f.source.toNat ∧
        f.source.toNat ≤ 8 ∧ f.target.toNat ≤ 8 ∧ f.target ≠ f.source ∧ f.source.toNat = s.sl.params.node →
      exec c s = .next (if f.srcAddr = Config.ownAddress then s else nodeClash s.sl.params.node f.srcAddr s)) ∧
    (∀ p, fromMesh f.frameType f.meshTag f.source f.target s = true → peerOf s f.source.toNat = some p →
      p.addr ≠ f.srcAddr → exec c s = .next (nodeClash f.source.toNat f.srcAddr s)) := by
  refine ⟨fun ⟨hf, hm, h1, h8, hd, hne, hn⟩ => ?_, fun p hm hp hpa =>
    hc.clash s _ ha (portTakes_fromMesh hm hr) rfl (gate_elsewhere hm hp hpa)⟩
  have hg := gate_own (a := f.srcAddr) hm h1 h8 hd hne hn
  split
  · exact hc.ignored s (.inr (.inr (by rw [hg, if_pos ‹_›])))
  · exact hc.clash s _ ha (portTakes_own hr hf) rfl (by rw [hg, if_neg ‹_›])

theorem carried_clashRules {f : CarriedFrame} {s : State} (hf : carriedOk f) (ha : alive s = true) (hr : running s = true) :
    (f.frameType.toNat = s.sl.params.frameType ∧ f.meshTag.toNat = s.sl.params.meshTag ∧ 1 ≤ f.source.toNat ∧
        f.source.toNat ≤ 8 ∧ f.dest.toNat ≤ 8 ∧ f.dest ≠ f.source ∧ f.source.toNat = s.sl.params.node →
      exec (.carriedFrameReceive f) s =
        .next (if f.srcAddr = Config.ownAddress then s else nodeClash s.sl.params.node f.srcAddr s)) ∧
    (∀ p, fromMesh f.frameType f.meshTag f.source f.dest s = true → peerOf s f.source.toNat = some p →
      p.addr ≠ f.srcAddr → exec (.carriedFrameReceive f) s = .next (nodeClash f.source.toNat f.srcAddr s)) := by
  have run {s' : State} (h : receiveCarried f (takeCarried f) s = s') : exec (.carriedFrameReceive f) s = .next s' := by
    rw [exec_carried, taken_alive ha, h]
  refine ⟨fun ⟨hft, hm, h1, h8, hd, hne, hn⟩ => run ?_, fun p hm hp hpa => run ?_⟩
  · have hg := gate_own (a := f.srcAddr) hm h1 h8 hd hne hn
    split
    · exact receiveCarried_ignored (.inr (.inr (.inl (by rw [hg, if_pos ‹_›]))))
    · exact receiveCarried_clash (portTakes_own hr hft) hf (by rw [hg, if_neg ‹_›])
  · exact receiveCarried_clash (portTakes_fromMesh hm hr) hf (gate_elsewhere hm hp hpa)

/-- What the checks of R1 to R8 refuse of carried frames. -/
theorem carried_refused {f : CarriedFrame} {s : State} (h : ¬ carriedOk f ∨
      (portTakes f.frameType s = false ∨ gate f.srcAddr f.meshTag f.source f.dest s = .discard) ∨
      (f.source.toNat ≠ s.sl.params.node ∧ (peerOf s f.source.toNat = none ∨
        (f.dest.toNat ≠ s.sl.params.node ∧ ∃ p, peerOf s f.source.toNat = some p ∧ p.addr = f.srcAddr)))) :
    exec (.carriedFrameReceive f) s = .next s := by
  refine taken_same (receiveCarried_ignored ?_)
  rcases h with h | (h | h) | ⟨hn, h | ⟨hd, p, hp, ha⟩⟩
  · exact .inr (.inl h)
  · exact .inl h
  · exact .inr (.inr (.inl h))
  · exact .inr (.inr ((gate_of_absent hn h).imp_right fun hg => .inl ⟨_, hg⟩))
  · exact .inr (.inr ((gate_of_known hn hp ha).imp_right fun hg => .inr ⟨hd, _, _, hg⟩))

/-- The lengths of section 1.11 and the values of R22 that make a bulletin malformed (R2). -/
theorem ignored_lengths {f : MeshFrame} {s : State} {n : Nat} {d : List Byte} (hn : n = f.bodyLen.toNat)
    (hd : d = f.bytes.take n) :
    (∀ lc ∈ [(36, Instr.pulseReceive f), (10, .claimReceive f), (8, .grantReceive f), (9, .refuseReceive f),
      (8, .withdrawReceive f), (8, .arrivedReceive f), (14, .contextReceive f), (6, .offerReceive f),
      (9, .fetchReceive f)], n ≠ lc.1 → exec lc.2 s = .next s) ∧
    (field 0 1 d = 0 ∨ 48 < field 0 1 d ∨ n ≠ 1 + 11 * field 0 1 d → exec (.sightingReceive f) s = .next s) ∧
    (n < 15 ∨ n ≠ 15 + field 9 2 d → exec (.chunkReceive f) s = .next s) ∧
    (field 0 1 d < 10 ∨ 100 < field 0 1 d ∨ field 0 1 d % 5 ≠ 0 ∨ 2 < field 1 1 d ∨ 10079 < field 3 2 d ∨
      59999 < field 5 2 d ∨ 5 < field 33 1 d → exec (.pulseReceive f) s = .next s) := by
  subst hd hn
  have fixed (l kind : Nat) (hk : (l, kind) ∈ fixedLengths) (c : Instr) (hc : (kind, c) ∈ knownKinds f)
      (h : f.bodyLen.toNat ≠ l) : exec c s = .next s :=
    ignored_of_malformed hc (fun hl => decodeBody_length _ hk (by rwa [hl])) s
  refine ⟨?_, fun h => ?_, fun h => ?_, fun h => ?_⟩
  · simp only [List.forall_mem_cons]
    refine ⟨fixed 36 1 ?_ _ ?_, fixed 10 3 ?_ _ ?_, fixed 8 4 ?_ _ ?_, fixed 9 5 ?_ _ ?_, fixed 8 6 ?_ _ ?_,
      fixed 8 7 ?_ _ ?_, fixed 14 8 ?_ _ ?_, fixed 6 9 ?_ _ ?_, fixed 9 10 ?_ _ ?_, by simp⟩
    all_goals simp [fixedLengths, knownKinds]
  · exact ignored_of_malformed (kind := 2) (f := f) (by simp [knownKinds]) (fun hl => decodeBody_sighting (by rwa [hl])) s
  · exact ignored_of_malformed (kind := 11) (f := f) (by simp [knownKinds]) (fun hl => decodeBody_chunk (by rwa [hl])) s
  · exact ignored_of_malformed (kind := 1) (f := f) (by simp [knownKinds]) (fun _ => decodeBody_pulse h) s

/-- Settles O19: each check of R1 to R3 by itself, then the clashes and what a frame of an unknown kind leaves. -/
theorem foreignStaleClashingFrames : Obligations.ForeignStaleClashingFrames := by
  refine ⟨⟨fun f s hn => ⟨fun h => ?_, fun h c hc => ?_⟩, fun k f p s => exec_unknown k⟩, fun f p s hl hm hp hpa kc hk hb => ?_,
    ?_, fun f s ha h => carried_refused ?_, ?_⟩
  · exact (brings_pulse f).ignored s ((refused_foreign h).imp_right .inr)
  · have hi : ∀ {body : Bool} {c : Instr}, BringsFrame body f c → IgnoresStale f c → exec c s = .next s := by
      refine ignored_foreign hn ?_
      simp only [← or_assoc] at h ⊢
      exact h.imp (Or.imp_left fun h => refused_foreign (by simpa only [or_assoc] using h)) id
    rcases List.mem_append.1 (show c ∈ ((knownKinds f).drop 1).map Prod.snd ++ [.unknownKindBulletinReceive 12#8 f] from hc)
      with hc | hc
    · obtain ⟨kc, hk, rfl⟩ := List.mem_map.1 hc
      exact hi ((brings_known f).1 kc (List.mem_of_mem_drop hk)) ((brings_known f).2 kc hk)
    · rw [List.mem_singleton.1 hc]
      exact hi (brings_unknown 12#8 f).1 (brings_unknown 12#8 f).2
  · obtain ⟨ha, hr⟩ := by simpa [live] using hl
    exact clashes_of_nodeClash
      (((brings_known f).1 kc hk).clash s _ ha (portTakes_fromMesh hm hr) hb (gate_elsewhere hm hp hpa))
  · intro k f s ha n d ignored
    refine ⟨fun h c hc => ?_, ignored_lengths rfl rfl⟩
    have hb : bodyBytes f = none := by simpa [bodyBytes] using h
    rcases List.mem_append.1 (show c ∈ (knownKinds f).map Prod.snd ++ [.unknownKindBulletinReceive k f] from hc) with hc | hc
    · obtain ⟨kc, hk, rfl⟩ := List.mem_map.1 hc
      exact ((brings_known f).1 kc hk).ignored s (.inr (.inl (by simp [readBody, hb])))
    · rw [List.mem_singleton.1 hc]
      exact (brings_unknown k f).1.ignored s (.inr (.inl (by simp [hb])))
  · rcases h with h | h | h | h | h
    · exact .inl fun hc => Nat.not_lt.2 hc.1 h
    · exact .inl fun hc => Nat.not_lt.2 hc.2.1 h
    · exact .inl fun hc => Nat.not_lt.2 hc.2.2.1 h
    · exact .inl fun hc => Nat.not_lt.2 hc.2.2.2 h
    · simp only [← or_assoc] at h
      exact .inr (h.imp_left fun h => refused_foreign (by simpa only [or_assoc] using h))
  · intro s hl clashes own
    obtain ⟨ha, hr⟩ := by simpa [live] using hl
    refine ⟨fun k f c hc => ?_, fun f hc h14 h1536 hlen => ?_⟩
    · have hb : BringsFrame true f c := by
        rcases hc with ⟨rfl, hlen⟩ | ⟨kind, hb, hc⟩
        · simpa [bodyBytes, hlen] using (brings_unknown k f).1
        · exact hb ▸ (brings_known f).1 (kind, c) hc
      obtain ⟨hown, hother⟩ := clashRules hb ha hr
      exact ⟨fun h he => (hown h).trans (by rw [if_pos he]),
        fun h he => clashes_of_nodeClash ((hown h).trans (by rw [if_neg he])),
        fun p hm hp hpa => clashes_of_nodeClash (hother p hm hp hpa)⟩
    · obtain ⟨hown, hother⟩ := carried_clashRules ⟨hc, h14, h1536, hlen⟩ ha hr
      exact ⟨fun h he => (hown h).trans (by rw [if_pos he]),
        fun h he => clashes_of_nodeClash ((hown h).trans (by rw [if_neg he])),
        fun p hm hp hpa => clashes_of_nodeClash (hother p hm hp hpa)⟩

end Sys2Proof.Machine
end
section
/-! SUPPORT. What the loss of peers makes of the Client Table and of the fetch list (R6, R17, R29, R32, R53, R146). -/

namespace Sys2Proof.Machine

/-! ## One entry -/

/-- An entry served by lost node n in a role other than SERVED and HANDING is an orphan (R32). -/
def orphaned (p : Params) (now n : Nat) (c : Client) : Client :=
  if c.serving = n ∧ (c.role = .remote ∨ c.role = .claiming ∨ c.role = .expecting) then
    setServing 0 (changeRole p now .orphan c) else c

/-- A HANDING entry whose claimant n is lost is SERVED again (R53). -/
def handedBack (p : Params) (now n : Nat) (c : Client) : Client :=
  if c.role = .handing ∧ c.claimant = some n then changeRole p now .served c else c

/-- What the loss of node n makes of an entry (R29, R32, R53). -/
def lostEntry (p : Params) (now n : Nat) (c : Client) : Client :=
  dropReadings n (handedBack p now n (orphaned p now n c))

/-- What the loss of these nodes, one after the other, makes of an entry. -/
def lostTo (p : Params) (now : Nat) (l : List Nat) (c : Client) : Client := l.foldl (fun e n => lostEntry p now n e) c

section
variable {p : Params} {now n : Nat} {c : Client}

theorem orphaned_elsewhere (hs : c.serving = n) (hr : c.role = .remote ∨ c.role = .claiming ∨ c.role = .expecting) :
    orphaned p now n c = setServing 0 (changeRole p now .orphan c) := if_pos ⟨hs, hr⟩

theorem handedBack_handing (hr : c.role = .handing) (hc : c.claimant = some n) :
    handedBack p now n c = changeRole p now .served c := if_pos ⟨hr, hc⟩

theorem orphaned_of_role (hr : c.role = .served ∨ c.role = .handing ∨ c.role = .departed ∨ c.role = .orphan) :
    orphaned p now n c = c := by
  rcases hr with hr | hr | hr | hr <;> simp [orphaned, hr]

theorem setServing_eq (n : Nat) (c : Client) : setServing n c = { c with
    serving := n, servingReading := if c.serving = n then c.servingReading else none
    better := if c.serving = n then c.better else 0 } := by
  unfold setServing
  split
  · subst_vars; rfl
  · rfl

theorem dropReadings_eq (n : Nat) (c : Client) : dropReadings n c = { c with
    best := c.best.bind (fun b => if b.node = n then none else some b)
    servingReading := if c.serving = n then none else c.servingReading
    better := if c.serving = n then 0 else c.better } := by
  cases c with
  | mk addr role serving tenure average best servingReading =>
    cases best with
    | none => by_cases hs : serving = n <;> simp [dropReadings, hs]
    | some b => by_cases hn : b.node = n <;> by_cases hs : serving = n <;> simp [dropReadings, hs, hn]

end

/-- What no loss changes in an entry. -/
structure SameClient (o e : Client) : Prop where
  addr : e.addr = o.addr
  tenure : e.tenure = o.tenure
  profile : e.profile = o.profile
  used : e.used = o.used
  extra : e.extra = o.extra
  average : e.average = o.average

theorem SameClient.refl (c : Client) : SameClient c c := ⟨rfl, rfl, rfl, rfl, rfl, rfl⟩

theorem SameClient.trans {a b c : Client} (h : SameClient a b) (k : SameClient b c) : SameClient a c :=
  ⟨k.addr.trans h.addr, k.tenure.trans h.tenure, k.profile.trans h.profile, k.used.trans h.used,
    k.extra.trans h.extra, k.average.trans h.average⟩

/-- What a role is lost with: an entry that is SERVED, DEPARTED or ORPHAN keeps its role and what goes with it. -/
structure SameRole (o e : Client) : Prop where
  role : e.role = o.role
  serving : e.serving = o.serving
  timer : e.timer = o.timer
  claimNo : e.claimNo = o.claimNo
  claimant : e.claimant = o.claimant
  verdict : e.verdict = o.verdict

theorem SameRole.trans {a b c : Client} (h : SameRole a b) (k : SameRole b c) : SameRole a c :=
  ⟨k.role.trans h.role, k.serving.trans h.serving, k.timer.trans h.timer, k.claimNo.trans h.claimNo,
    k.claimant.trans h.claimant, k.verdict.trans h.verdict⟩

section
variable {p : Params} {now n : Nat} {c : Client}

theorem sameRole_dropReadings (n : Nat) (c : Client) : SameRole c (dropReadings n c) := by
  rw [dropReadings_eq]; exact ⟨rfl, rfl, rfl, rfl, rfl, rfl⟩

theorem sameClient_lostEntry : SameClient c (lostEntry p now n c) := by
  have h1 : SameClient c (orphaned p now n c) := by
    unfold orphaned
    split
    · rw [setServing_eq]; exact ⟨rfl, rfl, rfl, rfl, rfl, rfl⟩
    · exact .refl c
  have h2 : ∀ e, SameClient e (handedBack p now n e) := by
    intro e
    unfold handedBack
    split
    · exact ⟨rfl, rfl, rfl, rfl, rfl, rfl⟩
    · exact .refl e
  refine (h1.trans (h2 _)).trans ?_
  rw [lostEntry, dropReadings_eq]
  exact ⟨rfl, rfl, rfl, rfl, rfl, rfl⟩

/-- A loss that does not concern an entry takes its readings alone. -/
theorem lostEntry_unconcerned (h1 : c.serving = n → ¬ (c.role = .remote ∨ c.role = .claiming ∨ c.role = .expecting))
    (h2 : c.role = .handing → c.claimant ≠ some n) : lostEntry p now n c = dropReadings n c := by
  have ho : orphaned p now n c = c := if_neg fun h => h1 h.1 h.2
  have hh : handedBack p now n c = c := if_neg fun h => h2 h.1 h.2
  rw [lostEntry, ho, hh]

theorem lostEntry_settled (hr : c.role = .served ∨ c.role = .departed ∨ c.role = .orphan) :
    lostEntry p now n c = dropReadings n c := by
  refine lostEntry_unconcerned (fun _ => ?_) fun h => ?_
  · rcases hr with h | h | h <;> simp [h]
  · rcases hr with h' | h' | h' <;> simp [h] at h'

theorem lostEntry_orphan (hs : c.serving = n) (hr : c.role = .remote ∨ c.role = .claiming ∨ c.role = .expecting) :
    lostEntry p now n c = dropReadings n (setServing 0 (changeRole p now .orphan c)) := by
  have ho := orphaned_elsewhere (p := p) (now := now) hs hr
  have hh : handedBack p now n (setServing 0 (changeRole p now .orphan c)) = setServing 0 (changeRole p now .orphan c) := by
    refine if_neg fun h => ?_
    rw [setServing_eq] at h
    simp [changeRole] at h
  rw [lostEntry, ho, hh]

theorem lostEntry_handing (hr : c.role = .handing) (hc : c.claimant = some n) :
    lostEntry p now n c = dropReadings n (changeRole p now .served c) := by
  rw [lostEntry, orphaned_of_role (.inr (.inl hr)), handedBack_handing hr hc]

/-- The best peer reading is lost with its node (R29). -/
theorem lostEntry_best : (lostEntry p now n c).best = c.best.bind (fun b => if b.node = n then none else some b) := by
  have h1 : (orphaned p now n c).best = c.best := by
    unfold orphaned
    split
    · rw [setServing_eq]; rfl
    · rfl
  have h2 : ∀ e, (handedBack p now n e).best = e.best := by
    intro e
    unfold handedBack
    split <;> rfl
  rw [lostEntry, dropReadings_eq]
  simp only [h2, h1]

end

/-! ## The loss of several nodes -/

section
variable {p : Params} {now : Nat} {l : List Nat} {c : Client}

theorem lostTo_cons (n : Nat) (l : List Nat) : lostTo p now (n :: l) c = lostTo p now l (lostEntry p now n c) := rfl

theorem sameClient_lostTo : SameClient c (lostTo p now l c) := by
  induction l generalizing c with
  | nil => exact .refl c
  | cons n l ih => exact sameClient_lostEntry.trans ih

/-- An entry that is SERVED, DEPARTED or ORPHAN keeps its role through every loss. -/
theorem sameRole_lostTo (hr : c.role = .served ∨ c.role = .departed ∨ c.role = .orphan) :
    SameRole c (lostTo p now l c) := by
  induction l generalizing c with
  | nil => exact ⟨rfl, rfl, rfl, rfl, rfl, rfl⟩
  | cons n l ih =>
    have h := sameRole_dropReadings n c
    rw [lostTo_cons, lostEntry_settled hr]
    exact h.trans (ih (by rwa [h.role]))

/-- Readings that are gone stay so through every loss. -/
theorem lostTo_unread (hr : c.role = .served ∨ c.role = .departed ∨ c.role = .orphan)
    (h : c.servingReading = none ∧ c.better = 0) :
    (lostTo p now l c).servingReading = none ∧ (lostTo p now l c).better = 0 := by
  induction l generalizing c with
  | nil => exact h
  | cons n l ih =>
    rw [lostTo_cons, lostEntry_settled hr]
    refine ih (by rwa [(sameRole_dropReadings n c).role]) ?_
    rw [dropReadings_eq]
    simp [h]

theorem lostTo_best : (lostTo p now l c).best = c.best.bind (fun b => if b.node ∈ l then none else some b) := by
  induction l generalizing c with
  | nil => cases hb : c.best <;> simp [lostTo, hb]
  | cons n l ih =>
    rw [lostTo_cons, ih, lostEntry_best]
    cases c.best with
    | none => rfl
    | some b => by_cases hn : b.node = n <;> simp [hn]

/-- An entry served by a lost node in a role other than SERVED and HANDING ends as an orphan (R32). -/
theorem lostTo_elsewhere (hr : c.role = .remote ∨ c.role = .claiming ∨ c.role = .expecting) (hs : c.serving ∈ l) :
    (lostTo p now l c).role = .orphan ∧ (lostTo p now l c).serving = 0 ∧
      (lostTo p now l c).timer = some (now + 60000000000) ∧ (lostTo p now l c).claimNo = none ∧
      (lostTo p now l c).servingReading = none ∧ (lostTo p now l c).better = 0 := by
  induction l generalizing c with
  | nil => simp at hs
  | cons n l ih =>
    rw [lostTo_cons]
    by_cases hn : c.serving = n
    · rw [lostEntry_orphan hn hr]
      generalize he : dropReadings n (setServing 0 (changeRole p now .orphan c)) = e
      rw [dropReadings_eq, setServing_eq] at he
      have hro : e.role = .served ∨ e.role = .departed ∨ e.role = .orphan := by simp [← he, changeRole]
      have hs := sameRole_lostTo (p := p) (now := now) (l := l) hro
      have hu : e.servingReading = none ∧ e.better = 0 := by
        rw [← he]
        by_cases h0 : n = 0
        · simp [h0]
        · simp [changeRole, hn, h0]
      refine ⟨?_, ?_, ?_, ?_, lostTo_unread hro hu⟩
      · rw [hs.role, ← he]; rfl
      · rw [hs.serving, ← he]
      · rw [hs.timer, ← he]; rfl
      · rw [hs.claimNo, ← he]; rfl
    · have hd : lostEntry p now n c = dropReadings n c :=
        lostEntry_unconcerned (fun h => absurd h hn) fun h => by simp [h] at hr
      have hk := sameRole_dropReadings n c
      rw [hd]
      refine ih (by rwa [hk.role]) ?_
      rw [hk.serving]
      exact (List.mem_cons.1 hs).resolve_left hn

/-- A HANDING entry whose claimant is lost ends SERVED (R53). -/
theorem lostTo_handing {n : Nat} (hr : c.role = .handing) (hc : c.claimant = some n) (hn : n ∈ l) :
    (lostTo p now l c).role = .served ∧ (lostTo p now l c).serving = c.serving ∧ (lostTo p now l c).timer = none ∧
      (lostTo p now l c).claimNo = none ∧ (lostTo p now l c).claimant = none ∧ (lostTo p now l c).verdict = c.verdict := by
  induction l generalizing c with
  | nil => simp at hn
  | cons m l ih =>
    rw [lostTo_cons]
    by_cases hm : m = n
    · subst hm
      rw [lostEntry_handing hr hc]
      generalize he : dropReadings m (changeRole p now .served c) = e
      have hk := sameRole_dropReadings m (changeRole p now .served c)
      rw [he] at hk
      have hs := sameRole_lostTo (p := p) (now := now) (l := l) (c := e) (.inl (by rw [hk.role]; rfl))
      have ht := hk.trans hs
      exact ⟨ht.role, ht.serving, ht.timer, ht.claimNo, ht.claimant, ht.verdict⟩
    · have hd : lostEntry p now m c = dropReadings m c :=
        lostEntry_unconcerned (fun _ => by simp [hr]) fun _ => by simpa [hc] using fun h : n = m => hm h.symm
      have hk := sameRole_dropReadings m c
      rw [hd]
      obtain ⟨h1, h2, h3, h4, h5, h6⟩ := ih (by rwa [hk.role]) (by rwa [hk.claimant])
        ((List.mem_cons.1 hn).resolve_left (Ne.symm hm))
      exact ⟨h1, h2.trans hk.serving, h3, h4, h5, h6.trans hk.verdict⟩

end

/-! ## The Client Table -/

/-- Work done for every entry in use that turns each entry into its image under g, and touches no other, does so to the
whole table, whatever the order. -/
theorem clientAt_forClients {f : Nat → State → State} {g : Client → Client} {s : State}
    (own : ∀ i t, t.now = s.now → t.sl = s.sl → clientAt (f i t) i = (clientAt t i).map g)
    (other : ∀ i j t, j ≠ i → clientAt (f i t) j = clientAt t j)
    (kept : ∀ i t, (f i t).now = t.now ∧ (f i t).sl = t.sl) (idem : ∀ c, g (g c) = g c) (i : Nat) :
    clientAt (forClients f s) i = (clientAt s i).map g := by
  have fold : ∀ (l : List Nat) (t : State), t.now = s.now → t.sl = s.sl →
      clientAt (l.foldl (fun t i => f i t) t) i = if i ∈ l then (clientAt t i).map g else clientAt t i := by
    intro l
    induction l with
    | nil => simp
    | cons j l ih =>
      intro t hn hs
      rw [List.foldl_cons, ih _ ((kept j t).1.trans hn) ((kept j t).2.trans hs)]
      by_cases hi : i = j
      · subst hi
        rw [own i t hn hs]
        cases clientAt t i <;> simp [idem]
      · rw [other j i t hi]
        simp [hi]
  rw [forClients, fold _ s rfl rfl]
  split
  · rfl
  · rename_i hi
    cases hc : clientAt s i with
    | none => rfl
    | some c => exact absurd (List.mem_map.2 ⟨_, mem_of_tabGet hc, rfl⟩) hi

theorem clientAt_toRole_self (i : Nat) (r : Role) (f : Client → Client) (s : State) :
    clientAt (toRole i r f s) i = (clientAt s i).map (fun c => f (changeRole s.sl.params s.now r c)) := by
  have := clientAt_modClient_self i (fun c => f (changeRole s.sl.params s.now r c)) s
  unfold toRole
  split
  · exact this
  · exact this

theorem clientAt_toRole_ne {i j : Nat} (r : Role) (f : Client → Client) (s : State) (h : j ≠ i) :
    clientAt (toRole i r f s) j = clientAt s j := by
  have := clientAt_modClient_ne (fun c => f (changeRole s.sl.params s.now r c)) s h
  unfold toRole
  split
  · exact this
  · exact this

theorem clientAt_raise (e : Event) (s : State) (i : Nat) : clientAt (raise e s) i = clientAt s i := rfl

theorem clientAt_orphanOne (n i : Nat) (s : State) :
    clientAt (orphanOne n i s) i = (clientAt s i).map (orphaned s.sl.params s.now n) ∧
      ∀ j, j ≠ i → clientAt (orphanOne n i s) j = clientAt s j := by
  unfold orphanOne
  split
  · rename_i c hc
    split
    · rename_i h
      exact ⟨by simp [clientAt_raise, clientAt_toRole_self, hc, orphaned, h],
        fun j hj => clientAt_toRole_ne _ _ s hj⟩
    · rename_i h
      exact ⟨by simp [hc, orphaned, h], fun j hj => rfl⟩
  · rename_i hc
    exact ⟨by simp [hc], fun j hj => rfl⟩

theorem clientAt_handBackOne (n i : Nat) (s : State) :
    clientAt (handBackOne n i s) i = (clientAt s i).map (handedBack s.sl.params s.now n) ∧
      ∀ j, j ≠ i → clientAt (handBackOne n i s) j = clientAt s j := by
  unfold handBackOne
  split
  · rename_i c hc
    split
    · rename_i h
      exact ⟨by simp [clientAt_raise, clientAt_toRole_self, hc, handedBack, h],
        fun j hj => clientAt_toRole_ne _ _ s hj⟩
    · rename_i h
      exact ⟨by simp [hc, handedBack, h], fun j hj => rfl⟩
  · rename_i hc
    exact ⟨by simp [hc], fun j hj => rfl⟩

/-- The loss of peer n acts on every entry by itself (R32, R53). -/
theorem clientAt_loseClients (n i : Nat) (s : State) :
    clientAt (loseClients n s) i = (clientAt s i).map (lostEntry s.sl.params s.now n) := by
  have ho := clientAt_forClients (f := orphanOne n) (g := orphaned s.sl.params s.now n) (s := s)
    (fun i t hn hs => by rw [(clientAt_orphanOne n i t).1, hn, hs]) (fun i j t => (clientAt_orphanOne n i t).2 j)
    (fun i t => by simp) (fun c => by
      by_cases h : c.serving = n ∧ (c.role = .remote ∨ c.role = .claiming ∨ c.role = .expecting)
      · exact orphaned_of_role (.inr (.inr (.inr (by rw [orphaned, if_pos h, setServing_eq]; rfl))))
      · simp [orphaned, h]) i
  generalize hu : forClients (orphanOne n) s = u at ho
  have hnow : u.now = s.now ∧ u.sl = s.sl :=
    ⟨hu ▸ forClients_keeps State.now _ (by simp) s, hu ▸ forClients_keeps State.sl _ (by simp) s⟩
  have hh := clientAt_forClients (f := handBackOne n) (g := handedBack s.sl.params s.now n) (s := u)
    (fun i t hn hs => by rw [(clientAt_handBackOne n i t).1, hn, hs, hnow.1, hnow.2])
    (fun i j t => (clientAt_handBackOne n i t).2 j) (fun i t => by simp) (fun c => by
      by_cases h : c.role = .handing ∧ c.claimant = some n
      · exact if_neg fun hx => by simp [handedBack, h, changeRole] at hx
      · simp [handedBack, h]) i
  show tabGet (tabMap (forClients (handBackOne n) (forClients (orphanOne n) s)).rc.clients (dropReadings n)) i = _
  rw [tabGet_tabMap, hu]
  show (clientAt _ i).map _ = _
  rw [hh, ho, Option.map_map, Option.map_map]
  rfl

theorem clientAt_losePeer (n i : Nat) (s : State) :
    clientAt (losePeer n s) i = (clientAt s i).map (lostEntry s.sl.params s.now n) := clientAt_loseClients n i s

/-! ## A table of at most one client: what is raised -/

/-- What the loss of node n has to say of an entry (R32, R53). -/
def lossEvents (n : Nat) (c : Client) : List Event :=
  if c.serving = n ∧ (c.role = .remote ∨ c.role = .claiming ∨ c.role = .expecting) then [.orphaned c.addr n]
  else if c.role = .handing ∧ c.claimant = some n then [.steerFailed c.addr n true] else []

theorem loseClients_empty {n : Nat} {s : State} (h : s.rc.clients = []) :
    (loseClients n s).rc.clients = [] ∧ (loseClients n s).ml = s.ml := by
  simp [loseClients, forClients, h, tabKeys, tabMap]

theorem toRole_single {i : Nat} {r : Role} {f : Client → Client} {c : Client} {s : State} (h : s.rc.clients = [(i, c)]) :
    (toRole i r f s).rc.clients = [(i, f (changeRole s.sl.params s.now r c))] := by
  have hc : clientAt s i = some c := by simp [clientAt, h, tabGet]
  have ht : tabSet s.rc.clients i (f (changeRole s.sl.params s.now r c)) = [(i, f (changeRole s.sl.params s.now r c))] := by
    simp [h, tabSet]
  unfold toRole
  rw [modClient_some _ hc]
  split <;> exact ht

theorem orphanOne_single {n i : Nat} {c : Client} {s : State} (h : s.rc.clients = [(i, c)]) :
    (forClients (orphanOne n) s).rc.clients = [(i, orphaned s.sl.params s.now n c)] ∧
      (forClients (orphanOne n) s).ml =
        if c.serving = n ∧ (c.role = .remote ∨ c.role = .claiming ∨ c.role = .expecting) then
          offerEvent (stamp (.orphaned c.addr n) s) s.ml else s.ml := by
  have hc : clientAt s i = some c := by simp [clientAt, h, tabGet]
  have he : forClients (orphanOne n) s = orphanOne n i s := by simp [forClients, h, tabKeys]
  rw [he, orphanOne, hc, orphaned]
  by_cases hk : c.serving = n ∧ (c.role = .remote ∨ c.role = .claiming ∨ c.role = .expecting)
  · simp [hk, raise, stamp, toRole_single h]
  · simp [hk, h]

theorem handBackOne_single {n i : Nat} {c : Client} {s : State} (h : s.rc.clients = [(i, c)]) :
    (forClients (handBackOne n) s).rc.clients = [(i, handedBack s.sl.params s.now n c)] ∧
      (forClients (handBackOne n) s).ml =
        if c.role = .handing ∧ c.claimant = some n then
          offerEvent (stamp (.steerFailed c.addr n true) s) s.ml else s.ml := by
  have hc : clientAt s i = some c := by simp [clientAt, h, tabGet]
  have he : forClients (handBackOne n) s = handBackOne n i s := by simp [forClients, h, tabKeys]
  rw [he, handBackOne, hc, handedBack]
  by_cases hk : c.role = .handing ∧ c.claimant = some n
  · simp [hk, raise, stamp, toRole_single h]
  · simp [hk, h]

/-- The loss of peer n in a table of one client (R32, R53). -/
theorem loseClients_single {n i : Nat} {c : Client} {s : State} (h : s.rc.clients = [(i, c)]) :
    (loseClients n s).rc.clients = [(i, lostEntry s.sl.params s.now n c)] ∧
      (loseClients n s).ml = offerAll s (lossEvents n c) s.ml := by
  obtain ⟨hoc, hom⟩ := orphanOne_single (n := n) h
  generalize hu : forClients (orphanOne n) s = u at hoc hom
  have hk : u.now = s.now ∧ u.sl = s.sl ∧ u.su = s.su :=
    ⟨hu ▸ forClients_keeps State.now _ (by simp) s, hu ▸ forClients_keeps State.sl _ (by simp) s,
      hu ▸ forClients_keeps State.su _ (by simp) s⟩
  obtain ⟨hhc, hhm⟩ := handBackOne_single (n := n) hoc
  rw [hk.1, hk.2.1] at hhc
  constructor
  · show tabMap (forClients (handBackOne n) (forClients (orphanOne n) s)).rc.clients (dropReadings n) = _
    rw [hu, hhc]
    rfl
  · show (forClients (handBackOne n) (forClients (orphanOne n) s)).ml = _
    rw [hu, hhm, hom, lossEvents, orphaned]
    by_cases hx : c.serving = n ∧ (c.role = .remote ∨ c.role = .claiming ∨ c.role = .expecting)
    · rw [if_pos hx, if_pos hx, if_pos hx, if_neg (by rw [setServing_eq]; simp [changeRole])]
      rfl
    · rw [if_neg hx, if_neg hx, if_neg hx]
      split <;> simp [offerAll, stamp, hk.2.2]

/-! ## Fetches failed back -/

/-- From e to x the fetches outstanding to lost peers are failed back (R146). -/
structure FailedBack (lost : Nat → Prop) (e x : Ie) : Prop where
  fetches : ∀ [DecidablePred lost], x.fetches = e.fetches.filter (fun f => !decide (lost f.peer))
  missing : ∀ k, tabGet e.presence k = some .requested →
    (∃ f ∈ e.fetches, lost f.peer ∧ inRun f k ∧ k ∉ f.received) → tabGet x.presence k = none
  other : ∀ k, (tabGet e.presence k ≠ some .requested ∨ ∀ f ∈ e.fetches, lost f.peer → inRun f k → k ∈ f.received) →
    tabGet x.presence k = tabGet e.presence k

theorem foldl_failFetch_fetches (l : List Fetch) (e : Ie) :
    (l.foldl (fun x f => failFetch f x) e).fetches = e.fetches.filter (fun g => !decide (g ∈ l)) := by
  induction l generalizing e with
  | nil => simp
  | cons f l ih =>
    rw [List.foldl_cons, ih]
    simp only [failFetch, List.filter_filter]
    refine List.filter_congr fun g _ => ?_
    by_cases hg : g = f <;> simp [hg]

open scoped Classical in
theorem foldl_failFetch_presence (l : List Fetch) (e : Ie) (k : Nat) :
    tabGet (l.foldl (fun x f => failFetch f x) e).presence k =
      if tabGet e.presence k = some .requested ∧ ∃ f ∈ l, inRun f k ∧ k ∉ f.received then none
      else tabGet e.presence k := by
  induction l generalizing e with
  | nil => simp
  | cons f l ih =>
    rw [List.foldl_cons, ih, tabGet_failFetch]
    by_cases hf : f.first ≤ k ∧ k < f.first + f.count ∧ k ∉ f.received ∧ tabGet e.presence k = some .requested
    · obtain ⟨h1, h2, h3, h4⟩ := hf
      simp [h1, h2, h3, h4, inRun]
    · rw [if_neg hf]
      refine if_congr ⟨fun ⟨hr, g, hg, hx⟩ => ⟨hr, g, List.mem_cons_of_mem _ hg, hx⟩, fun ⟨hr, g, hg, hx⟩ => ⟨hr, ?_⟩⟩ rfl rfl
      rcases List.mem_cons.1 hg with rfl | hg
      · exact absurd ⟨hx.1.1, hx.1.2, hx.2, hr⟩ hf
      · exact ⟨g, hg, hx⟩

theorem failFetchesTo_failedBack (n : Nat) (e : Ie) : FailedBack (· = n) e (failFetchesTo n e) where
  fetches := by
    intro _
    rw [failFetchesTo, foldl_failFetch_fetches]
    refine List.filter_congr fun g hg => ?_
    simp [List.mem_filter, hg]
  missing k hk := by
    rintro ⟨f, hf, hn, hr⟩
    rw [failFetchesTo, foldl_failFetch_presence, if_pos]
    exact ⟨hk, f, List.mem_filter.2 ⟨hf, by simpa using hn⟩, hr⟩
  other k hk := by
    rw [failFetchesTo, foldl_failFetch_presence, if_neg]
    rintro ⟨hr, f, hf, hrun, hx⟩
    obtain ⟨hf, hn⟩ := List.mem_filter.1 hf
    rcases hk with hk | hk
    · exact hk hr
    · exact hx (hk f hf (by simpa using hn) hrun)

theorem FailedBack.of_eq {lost : Nat → Prop} {e x : Ie} (hl : ∀ n, ¬ lost n) (hf : x.fetches = e.fetches)
    (hp : x.presence = e.presence) : FailedBack lost e x where
  fetches := by intro _; simp [hf, hl]
  missing k hk := by rintro ⟨f, _, hn, _⟩; exact absurd hn (hl _)
  other k _ := by rw [hp]

theorem FailedBack.trans {lost lost' both : Nat → Prop} {e x y : Ie} (h : FailedBack lost e x) (k : FailedBack lost' x y)
    (hb : ∀ n, both n ↔ lost n ∨ lost' n) : FailedBack both e y := by
  classical
  have hfetch {g : Fetch} : g ∈ x.fetches ↔ g ∈ e.fetches ∧ ¬ lost g.peer := by
    rw [h.fetches, List.mem_filter]; simp
  have hreq (j : Nat) (hj : tabGet x.presence j = some .requested) : tabGet e.presence j = some .requested := by
    by_contra hne
    rw [h.other j (.inl hne)] at hj
    exact hne hj
  refine ⟨?_, fun j hj => ?_, fun j hj => ?_⟩
  · intro _
    rw [k.fetches, h.fetches, List.filter_filter]
    refine List.filter_congr fun g _ => ?_
    by_cases h1 : lost g.peer <;> by_cases h2 : lost' g.peer <;> simp [hb, h1, h2]
  · rintro ⟨f, hf, hn, hr, hx⟩
    by_cases hgone : ∃ g ∈ e.fetches, lost g.peer ∧ inRun g j ∧ j ∉ g.received
    · have hnone := h.missing j hj hgone
      rw [k.other j (.inl (by simp [hnone])), hnone]
    · have hkept : tabGet x.presence j = tabGet e.presence j := by
        refine h.other j (.inr fun g hg hl hrun => ?_)
        by_contra hrec
        exact hgone ⟨g, hg, hl, hrun, hrec⟩
      have hl : ¬ lost f.peer := fun hl => hgone ⟨f, hf, hl, hr, hx⟩
      exact k.missing j (hkept.trans hj) ⟨f, hfetch.2 ⟨hf, hl⟩, ((hb _).1 hn).resolve_left hl, hr, hx⟩
  · have h1 : tabGet x.presence j = tabGet e.presence j :=
      h.other j (hj.imp_right fun hj g hg hl => hj g hg ((hb _).2 (.inl hl)))
    have h2 : tabGet y.presence j = tabGet x.presence j := by
      refine k.other j ?_
      rw [h1]
      exact hj.imp_right fun hj g hg hl => hj g (hfetch.1 hg).1 ((hb _).2 (.inr hl))
    exact h2.trans h1

/-! ## Peers lost one after the other -/

/-- From s to t the peers of a list are lost, in its order: entries, fetches, and nothing else of the RC and of the IE but
offers, strikes and skip timers (R17, R29, R32, R53, R146). -/
structure Lost (l : List Nat) (s t : State) : Prop where
  now : t.now = s.now
  sl : t.sl = s.sl
  su : t.su = s.su
  clients : ∀ i, clientAt t i = (clientAt s i).map (lostTo s.sl.params s.now l)
  fetches : FailedBack (· ∈ l) s.ie t.ie
  rc : t.rc = { s.rc with clients := t.rc.clients, offers := t.rc.offers }
  ie : t.ie = { s.ie with
    fetches := t.ie.fetches, presence := t.ie.presence, strikes := t.ie.strikes, skips := t.ie.skips }

theorem Lost.of_eq {s t : State} (hn : t.now = s.now) (hs : t.sl = s.sl) (hu : t.su = s.su) (hr : t.rc = s.rc)
    (hi : t.ie = s.ie) : Lost [] s t where
  now := hn
  sl := hs
  su := hu
  clients i := by
    show tabGet t.rc.clients i = (tabGet s.rc.clients i).map _
    rw [hr]
    cases tabGet s.rc.clients i <;> rfl
  fetches := .of_eq (by simp) (by rw [hi]) (by rw [hi])
  rc := by rw [hr]
  ie := by rw [hi]

theorem Lost.trans {l m : List Nat} {s t u : State} (h : Lost l s t) (k : Lost m t u) : Lost (l ++ m) s u where
  now := k.now.trans h.now
  sl := k.sl.trans h.sl
  su := k.su.trans h.su
  clients i := by
    rw [k.clients, h.clients, h.sl, h.now, Option.map_map]
    congr 1
    funext c
    exact (List.foldl_append ..).symm
  fetches := h.fetches.trans k.fetches (by simp)
  rc := by rw [k.rc, h.rc]
  ie := by rw [k.ie, h.ie]

theorem lost_losePeer (n : Nat) (s : State) : Lost [n] s (losePeer n s) where
  now := by simp
  sl := by simp
  su := by simp
  clients i := clientAt_losePeer n i s
  fetches := by
    have h := failFetchesTo_failedBack n s.ie
    have hi : (losePeer n s).ie = failFetchesTo n s.ie := by simp [losePeer, setIe]
    rw [hi]
    simpa using h
  rc := by
    have h (f : Nat → State → State)
        (hf : ∀ i t, (f i t).rc = { t.rc with clients := (f i t).rc.clients, offers := (f i t).rc.offers }) (t : State) :
        (forClients f t).rc.noUplink = t.rc.noUplink ∧ (forClients f t).rc.claimCounter = t.rc.claimCounter ∧
          (forClients f t).rc.lapsed = t.rc.lapsed :=
      ⟨forClients_keeps (fun t : State => t.rc.noUplink) f (fun i t => by rw [hf i t]) t,
        forClients_keeps (fun t : State => t.rc.claimCounter) f (fun i t => by rw [hf i t]) t,
        forClients_keeps (fun t : State => t.rc.lapsed) f (fun i t => by rw [hf i t]) t⟩
    have role (i : Nat) (r : Role) (f : Client → Client) (t : State) : (toRole i r f t).rc =
        { t.rc with clients := (toRole i r f t).rc.clients, offers := (toRole i r f t).rc.offers } := by
      cases hc : clientAt t i with
      | none =>
        unfold toRole
        rw [modClient_none _ hc]
        split <;> rfl
      | some c =>
        unfold toRole
        rw [modClient_some _ hc]
        split <;> rfl
    have ho := h (orphanOne n) fun i t => by
      unfold orphanOne
      (repeat' split)
      · simpa using role i .orphan (setServing 0) t
      · rfl
      · rfl
    have hh := h (handBackOne n) fun i t => by
      unfold handBackOne
      (repeat' split)
      · simpa using role i .served id t
      · rfl
      · rfl
    obtain ⟨h1, h2, h3⟩ := hh (forClients (orphanOne n) s)
    obtain ⟨o1, o2, o3⟩ := ho s
    simp [losePeer, loseClients, setIe, h1, h2, h3, o1, o2, o3]
  ie := by
    have hi : (losePeer n s).ie = failFetchesTo n s.ie := by simp [losePeer, setIe]
    rw [hi, failFetchesTo, foldl_failFetch_eq]

theorem lost_peerAbsent (n : Nat) (s : State) : Lost [n] s (peerAbsent n s) := by
  have h := lost_losePeer n (setPeers (tabErase s.bu.peers n) s)
  have he := h.ie
  exact ⟨h.now, h.sl, h.su, h.clients, ⟨h.fetches.fetches, h.fetches.missing, h.fetches.other⟩, h.rc, by
    simp only [peerAbsent, setIe, State.setIe_ie]
    rw [he]
    rfl⟩

end Sys2Proof.Machine
end
section
/-! SUPPORT. Peers lost one after the other: what is raised, the served count, the Peer Table (R16, R17, R24, R146). -/

namespace Sys2Proof.Machine

/-! ## What several losses raise in a table of at most one client -/

/-- What the losses of these nodes have to say of an entry, in their order (R32, R53). -/
def lossesOf (p : Params) (now : Nat) : List Nat → Client → List Event
  | [], _ => []
  | n :: l, c => lossEvents n c ++ lossesOf p now l (lostEntry p now n c)

theorem lossEvents_settled {n : Nat} {c : Client} (hr : c.role = .served ∨ c.role = .departed ∨ c.role = .orphan) :
    lossEvents n c = [] := by
  rcases hr with h | h | h <;> simp [lossEvents, h]

theorem lossesOf_settled {p : Params} {now : Nat} {l : List Nat} {c : Client}
    (hr : c.role = .served ∨ c.role = .departed ∨ c.role = .orphan) : lossesOf p now l c = [] := by
  induction l generalizing c with
  | nil => rfl
  | cons n l ih =>
    rw [lossesOf, lossEvents_settled hr, lostEntry_settled hr, ih (by rwa [(sameRole_dropReadings n c).role])]
    rfl

/-- An entry is orphaned, or handed back, at most once, whatever peers are lost (R32, R53). -/
theorem lossesOf_eq {p : Params} {now : Nat} (l : List Nat) (c : Client) : lossesOf p now l c =
    if c.serving ∈ l ∧ (c.role = .remote ∨ c.role = .claiming ∨ c.role = .expecting) then [.orphaned c.addr c.serving]
    else if c.role = .handing then (c.claimant.toList.filter (· ∈ l)).map (fun n => .steerFailed c.addr n true) else [] := by
  induction l generalizing c with
  | nil => simp [lossesOf]
  | cons n l ih =>
    rw [lossesOf]
    by_cases he : c.role = .remote ∨ c.role = .claiming ∨ c.role = .expecting
    · have hh : c.role ≠ .handing := by rcases he with h | h | h <;> simp [h]
      by_cases hn : c.serving = n
      · have hro : (lostEntry p now n c).role = .orphan := by
          rw [lostEntry_orphan hn he, (sameRole_dropReadings _ _).role, setServing_eq]
          rfl
        rw [lossesOf_settled (.inr (.inr hro))]
        simp [lossEvents, hn, he]
      · have hd : lostEntry p now n c = dropReadings n c := lostEntry_unconcerned (fun h => absurd h hn) fun h => absurd h hh
        have hk := sameRole_dropReadings n c
        have ha : (dropReadings n c).addr = c.addr := by rw [dropReadings_eq]
        rw [hd, ih, hk.serving, hk.role, ha]
        simp [lossEvents, hn, he, hh]
    · by_cases hh : c.role = .handing
      · by_cases hc : c.claimant = some n
        · have hro : (lostEntry p now n c).role = .served := by
            rw [lostEntry_handing hh hc, (sameRole_dropReadings _ _).role]
            rfl
          rw [lossesOf_settled (.inl hro)]
          simp [lossEvents, hh, hc]
        · have hd : lostEntry p now n c = dropReadings n c := lostEntry_unconcerned (fun _ => he) fun _ => hc
          have hk := sameRole_dropReadings n c
          have ha : (dropReadings n c).addr = c.addr := by rw [dropReadings_eq]
          rw [hd, ih, hk.role, hk.claimant, ha]
          cases hcl : c.claimant with
          | none => simp [lossEvents, hh, hcl]
          | some m =>
            have hm : m ≠ n := by simpa [hcl] using hc
            simp [lossEvents, hh, hcl, hm, List.filter_cons]
      · have hro : c.role = .served ∨ c.role = .departed ∨ c.role = .orphan := by
          cases hr : c.role <;> simp_all
        rw [lossEvents_settled hro, lostEntry_settled hro, lossesOf_settled (by rwa [(sameRole_dropReadings n c).role])]
        simp [he, hh]

theorem offerAll_append (x : State) (l m : List Event) (q : Ml) : offerAll x (l ++ m) q = offerAll x m (offerAll x l q) :=
  List.foldl_append ..

/-- A stamp is read from the clock alone (R178). -/
theorem offerAll_clock {x y : State} (h : x.su.clock = y.su.clock) (l : List Event) (q : Ml) : offerAll x l q = offerAll y l q := by
  simp [offerAll, stamp, h]

/-- What is raised of a table of at most one client. -/
structure LostSmall (l : List Nat) (s t : State) : Prop where
  empty : s.rc.clients = [] → t.rc.clients = [] ∧ t.ml = s.ml
  single : ∀ i c, s.rc.clients = [(i, c)] → t.rc.clients = [(i, lostTo s.sl.params s.now l c)] ∧
    t.ml = offerAll s (lossesOf s.sl.params s.now l c) s.ml

theorem lostSmall_losePeer (n : Nat) (s : State) : LostSmall [n] s (losePeer n s) where
  empty h := loseClients_empty h
  single i c h := by
    have := loseClients_single (n := n) h
    exact ⟨this.1, this.2.trans (by simp [lossesOf])⟩

theorem lostSmall_peerAbsent (n : Nat) (s : State) : LostSmall [n] s (peerAbsent n s) := by
  have h := lostSmall_losePeer n (setPeers (tabErase s.bu.peers n) s)
  exact ⟨h.empty, h.single⟩

/-! ## The served count -/

theorem servedCount_eq_zero {s : State} : servedCount s = 0 ↔ ∀ p ∈ s.rc.clients, isServing p.2.role = false := by
  simp [servedCount, List.countP_eq_zero]

/-- An entry that changes and goes on serving, or not serving, leaves it open whether any serves. -/
theorem servedCount_putClient {i : Nat} {c v : Client} {s : State} (hc : clientAt s i = some c)
    (hv : isServing v.role = isServing c.role) : servedCount (putClient i v s) = 0 ↔ servedCount s = 0 := by
  rw [servedCount_eq_zero, servedCount_eq_zero]
  have hmem : (i, c) ∈ s.rc.clients := mem_of_tabGet hc
  have hnew : (i, v) ∈ (putClient i v s).rc.clients := mem_of_tabGet (tabGet_tabSet_self _ i v)
  cases hserv : isServing c.role with
  | true =>
    refine ⟨fun h => ?_, fun h => ?_⟩
    · simpa [hv, hserv] using h _ hnew
    · simpa [hserv] using h _ hmem
  | false =>
    have hcount := countP_tabSet_of_not (t := s.rc.clients) (fun p => isServing p.2.role) hc hserv (hv.trans hserv)
    have h0 : servedCount (putClient i v s) = servedCount s := hcount
    rw [← servedCount_eq_zero, ← servedCount_eq_zero, h0]

theorem servedCount_modClient {i : Nat} {f : Client → Client} {s : State}
    (hf : ∀ c, clientAt s i = some c → isServing (f c).role = isServing c.role) :
    servedCount (modClient i f s) = 0 ↔ servedCount s = 0 := by
  unfold modClient
  split
  · exact servedCount_putClient ‹_› (hf _ ‹_›)
  · rfl

theorem servedCount_toRole {i : Nat} {r : Role} {f : Client → Client} {c : Client} {s : State} (hc : clientAt s i = some c)
    (hr : isServing r = isServing c.role) (hf : ∀ x, (f x).role = x.role) :
    servedCount (toRole i r f s) = 0 ↔ servedCount s = 0 := by
  have h := servedCount_modClient (i := i) (f := fun c => f (changeRole s.sl.params s.now r c)) (s := s) fun x hx => by
    rw [hc] at hx
    obtain rfl := Option.some.inj hx
    rw [hf]
    exact hr
  unfold toRole
  split
  · exact h
  · exact h

theorem servedCount_tabMap {f : Client → Client} (hf : ∀ c, isServing (f c).role = isServing c.role) (s : State) (x : Rc)
    (hx : x.clients = tabMap s.rc.clients f) : servedCount (s.setRc x) = servedCount s := by
  simp [servedCount, hx, tabMap, List.countP_map, Function.comp_def, hf]

/-- Orphans were not served, and what is handed back was: the served count is 0 after a loss when it was (R24). -/
theorem servedCount_losePeer (n : Nat) (s : State) : servedCount (losePeer n s) = 0 ↔ servedCount s = 0 := by
  have ho (i : Nat) (t : State) : (servedCount (orphanOne n i t) = 0) = (servedCount t = 0) := by
    unfold orphanOne
    split
    · split
      · rename_i c hc hk
        refine propext (servedCount_toRole (f := setServing 0) hc ?_ fun x => ?_)
        · rcases hk.2 with h | h | h <;> rw [h] <;> rfl
        · rw [setServing_eq]
      · rfl
    · rfl
  have hh (i : Nat) (t : State) : (servedCount (handBackOne n i t) = 0) = (servedCount t = 0) := by
    unfold handBackOne
    split
    · split
      · rename_i c hc hk
        exact propext (servedCount_toRole (f := id) hc (by simp [hk.1, isServing]) fun x => rfl)
      · rfl
    · rfl
  have h1 := forClients_keeps (fun t => servedCount t = 0) _ ho s
  have h2 := forClients_keeps (fun t => servedCount t = 0) _ hh (forClients (orphanOne n) s)
  have h3 : servedCount (losePeer n s) = servedCount (forClients (handBackOne n) (forClients (orphanOne n) s)) :=
    servedCount_tabMap (fun c => by rw [dropReadings_eq]) _ _ rfl
  rw [h3]
  exact iff_of_eq (h2.trans h1)

theorem servedCount_peerAbsent (n : Nat) (s : State) : servedCount (peerAbsent n s) = 0 ↔ servedCount s = 0 :=
  servedCount_losePeer n (setPeers (tabErase s.bu.peers n) s)

/-! ## The entries of the peers themselves -/

theorem peerAbsent_peers (n : Nat) (s : State) : (peerAbsent n s).bu = { s.bu with peers := tabErase s.bu.peers n } := by
  simp [peerAbsent, setIe, setPeers]

theorem peerAbsent_strikes (n m : Nat) (s : State) :
    tabGet (peerAbsent n s).ie.strikes m = (if m = n then none else tabGet s.ie.strikes m) ∧
      tabGet (peerAbsent n s).ie.skips m = (if m = n then none else tabGet s.ie.skips m) := by
  have hi : (losePeer n (setPeers (tabErase s.bu.peers n) s)).ie = failFetchesTo n s.ie := by simp [losePeer, setIe]
  have hs : (failFetchesTo n s.ie).strikes = s.ie.strikes ∧ (failFetchesTo n s.ie).skips = s.ie.skips := by
    rw [failFetchesTo, foldl_failFetch_eq]
    exact ⟨rfl, rfl⟩
  simp only [peerAbsent, setIe, State.setIe_ie, hi, hs]
  by_cases hm : m = n
  · simp [hm]
  · simp [hm, tabGet_tabErase_ne]

end Sys2Proof.Machine
end
section
/-! SUPPORT. What follows a change of peers, image or clock: fetches, image slot, conflicts, activation (R142, R144, R145, R158,
R159, R161, R162). -/

namespace Sys2Proof.Machine

/-! ## The issue of fetches, whatever the slot -/

/-- Fetches are issued in FILLING alone, and only for an image that has a descriptor (R145). -/
theorem issueFetches_issuing (u : State) : issueFetches u = u ∨
    (u.ie.inc = .filling ∧ u.pins.supplyFail = false ∧ ∃ d more, Issuing d u (issueFetches u) more) := by
  by_cases h : u.ie.inc ≠ .filling ∨ u.pins.supplyFail = true
  · exact .inl (issueFetches_idle h)
  · simp only [ne_eq, not_or, not_not, Bool.not_eq_true] at h
    have he : issueFetches u = fetchLoop 4 u := by simp [issueFetches, h, Config.fetchListMax]
    cases hd : u.ie.incDesc with
    | none =>
      have h1 : fetchOne u = u := by simp [fetchOne, hd]
      have hl : ∀ n, fetchLoop n u = u := by
        intro n
        induction n with
        | zero => rfl
        | succ n ih => rw [fetchLoop, h1, ih, ite_self]
      exact .inl (he.trans (hl 4))
    | some d =>
      obtain ⟨m, hm, -⟩ := (Issuing.refl d u).fetchLoop hd 4
      exact .inr ⟨h.1, h.2, d, m, he ▸ hm⟩

/-- The issue of fetches touches the fetch list, its counter, the presence map and the control transmit queue. -/
theorem issueFetches_eq (u : State) : issueFetches u = { u with
    ie := { u.ie with
      fetches := (issueFetches u).ie.fetches, fetchCounter := (issueFetches u).ie.fetchCounter
      presence := (issueFetches u).ie.presence }
    bu := { u.bu with control := (issueFetches u).bu.control } } := by
  rcases issueFetches_issuing u with h | ⟨-, -, d, more, h⟩
  · rw [h]
  · rw [h.eq]
    simp only [issuedState]
    split <;> rfl

theorem issueFetches_inc (u : State) : (issueFetches u).ie.inc = u.ie.inc := by rw [issueFetches_eq]

/-- Fetches failed back before others are issued are failed back after it (R146). -/
theorem fetchesFailedBack_issueFetches {lost : Nat → Bool} {s y t : State}
    (h : FailedBack (fun n => lost n = true) s.ie y.ie) (hi : y.ie.inc = s.ie.inc)
    (hp : y.pins.supplyFail = s.pins.supplyFail) (hf : t.ie.fetches = (issueFetches y).ie.fetches)
    (hm : t.ie.presence = (issueFetches y).ie.presence) (hn : t.now = y.now) : fetchesFailedBack lost s t := by
  have hl : y.ie.fetches = s.ie.fetches.filter (fun f => !lost f.peer) := by
    rw [h.fetches]
    exact List.filter_congr fun f _ => by simp
  have kept (k : Nat) (hk : tabGet t.ie.presence k = tabGet y.ie.presence k) :
      (tabGet s.ie.presence k = some .requested →
        (∃ f ∈ s.ie.fetches, lost f.peer = true ∧ inRun f k ∧ k ∉ f.received) → tabGet t.ie.presence k = none) ∧
      (tabGet s.ie.presence k ≠ some .requested ∨
          (∀ f ∈ s.ie.fetches, lost f.peer = true → inRun f k → k ∈ f.received) →
        tabGet t.ie.presence k = tabGet s.ie.presence k) := by
    rw [hk]
    exact ⟨h.missing k, h.other k⟩
  rcases issueFetches_issuing y with he | ⟨hi', hs', d, more, he⟩
  · refine ⟨[], by rw [hf, he, hl, List.append_nil], fun _ => rfl, by simp, by simp, fun k _ => kept k ?_⟩
    rw [hm, he]
  · refine ⟨more, by rw [hf, he.fetches, hl], fun hx => ?_, fun f hx => ?_, fun k hx => ?_, fun k hx => kept k ?_⟩
    · rcases hx with hx | hx
      · exact absurd (hi.symm.trans hi') hx
      · rw [← hp, hs'] at hx
        exact absurd hx (by simp)
    · obtain ⟨-, -, hr, hend⟩ := he.size f hx
      exact ⟨hr, hn ▸ hend⟩
    · obtain ⟨f, hx, hr⟩ := hx
      rw [hm]
      exact (he.taken f hx k hr).2
    · rw [hm]
      by_contra hne
      obtain ⟨f, hx', hr⟩ := he.grown k hne
      exact hx f hx' hr

/-! ## Offers and the AC -/

theorem offerFill_bu (s : State) : (offerFill s).bu = { s.bu with control := (offerFill s).bu.control } := by
  obtain ⟨l, q, -, h⟩ := offerFill_offered s
  rw [h]
  rfl

/-- Of the BU the AC's settling touches the control transmit queue alone (R62). -/
theorem acSettle_bu (s : State) : (acSettle s).bu = { s.bu with control := (acSettle s).bu.control } := by
  have h : (acDrained (acConditions (acDue s))).bu = s.bu := by simp
  rw [acSettle, offerFill_bu, h]

theorem acTo_ac (a : AcState) (s : State) : (acTo a s).ac = { s.ac with state := a } := by
  unfold acTo
  dsimp only
  split <;> rfl

theorem acDraining_acDue {s : State} (h : acDraining s = false) : acDraining (acDue s) = false := by
  have hto (a : AcState) (ha : a ≠ .draining) : acDraining (acTo a s) = false := by simpa [acDraining, acTo_ac] using ha
  have hidle : acDraining (acToIdle s) = false := by simp [acDraining, acToIdle, acStopTimers, acTo_ac]
  unfold acDue
  split
  · split
    · exact hto _ (by decide)
    · exact h
  · split
    · exact h
    · exact hidle
  · split
    · exact h
    · exact hidle
  · split
    · exact h
    · exact hidle
  · split
    · exact h
    · exact hidle
  · exact h
  · exact h

theorem acDraining_acConditions {s : State} (h : acDraining s = false) : acDraining (acConditions s) = false := by
  unfold acConditions
  split
  · split
    · simp [acDraining, acTo_ac]
    · exact h
  · split
    · exact h
    · simp [acDraining, acTo_ac]
  · exact h

theorem acDrained_calm {s : State} (h : acDraining s = false ∨ servedCount s ≠ 0) : acDrained s = s := by
  refine if_neg ?_
  rcases h with h | h <;> simp [h]

/-- Outside DRAINING the AC's settling raises nothing (R158, R159). -/
theorem acSettle_undrained {s : State} (h : acDraining s = false) : acSettle s = acConditions (acDue s) := by
  have hd := acDraining_acConditions (acDraining_acDue h)
  rw [acSettle, acDrained_calm (.inl hd), offerFill_idle hd]

theorem acSettle_ml {s : State} (h : acDraining s = false) : (acSettle s).ml = s.ml := by
  rw [acSettle_undrained h]
  simp

/-- An image that stays due leaves the AC where it is (R158). -/
theorem acDue_due {s : State} (h : imageDue s = true) (hs : s.ac.state ≠ .idle) : acDue s = s := by
  unfold acDue
  split
  · exact absurd ‹_› hs
  · simp [h]
  · simp [h]
  · simp [h]
  · simp [h]
  · rfl
  · rfl

theorem acConditions_wanting {s : State} (h : s.ac.state = .wanting) : acConditions s =
    if activationOk s then s else { s with ac := { s.ac with state := .waiting, count := 0 } } := by
  have hd : acDraining s = false := by simp [acDraining, h]
  simp only [acConditions, h]
  split
  · rfl
  · simp [acTo, hd, State.setAc]

/-- WANTING with its image due follows the conditions (R159). -/
theorem acSettle_wanting {s : State} (h : imageDue s = true) (hs : s.ac.state = .wanting) : acSettle s =
    if activationOk s then s else { s with ac := { s.ac with state := .waiting, count := 0 } } := by
  rw [acSettle_undrained (by simp [acDraining, hs]), acDue_due h (by simp [hs]), acConditions_wanting hs]

/-- DRAINING with its image due and clients served goes on, and offers (R62, R163). -/
theorem acSettle_draining {s : State} (h : imageDue s = true) (hs : s.ac.state = .draining) (hc : servedCount s ≠ 0) :
    acSettle s = offerFill s := by
  have hcond : acConditions s = s := by simp [acConditions, hs]
  rw [acSettle, acDue_due h (by simp [hs]), hcond, acDrained_calm (.inr hc)]

/-- What the conditions of R159 are read from. -/
theorem activationOk_congr {s t : State} (h1 : t.ac.holdoffEnds = s.ac.holdoffEnds)
    (h2 : t.ac.activateNow = s.ac.activateNow) (hn : t.now = s.now) (hu : t.su = s.su) (hf : t.fc = s.fc) :
    activationOk t = activationOk s := by
  simp only [activationOk, condHoldoff, condMaintenance, condQuiet, condClock, h1, h2, hn, hu, hf]

theorem imageDue_congr {s t : State} (h1 : t.ie.inc = s.ie.inc) (h2 : t.ie.incDesc = s.ie.incDesc)
    (h3 : t.ie.activeDesc = s.ie.activeDesc) : imageDue t = imageDue s := by
  have hn : activeNumber t = activeNumber s := by
    unfold activeNumber
    rw [h3]
  simp only [imageDue, incReady, hn, h1, h2]

/-! ## The image of a pulse -/

theorem conflicts_eq (held : Option Desc) (b : PulseBody) :
    conflicts held b.incImage b.incLength b.incCheck = misdescribes held b := by cases held <;> rfl

theorem heldIncoming_eq (s : State) : heldIncoming s = incomingHeld s := by
  unfold heldIncoming incomingHeld
  cases s.ie.inc <;> cases s.ie.after <;> rfl

theorem conflictNoted_clear {n : Nat} {b : PulseBody} {held : Option Desc} {flag : Bool} {x : State} {m : Ml}
    (h : misdescribes held b = false ∨ flag = true) : conflictNoted n b held flag x m = m := by
  cases held with
  | none => rfl
  | some d => rcases h with h | h <;> simp [conflictNoted, h]

theorem conflictNoted_raised {n : Nat} {b : PulseBody} {held : Option Desc} {flag : Bool} {x : State} {m : Ml}
    (h : misdescribes held b = true) (hf : flag = false) : conflictNoted n b held flag x m =
      offerEvent (stamp (.imageConflict n b.incImage (chunksCapped ((held.map Desc.length).getD 0))
        (chunksCapped b.incLength)) x) m := by
  cases held with
  | none => simp [misdescribes] at h
  | some d =>
    simp [conflictNoted, h, hf, chunksCapped, chunkCount, ceilDiv]

/-- The look at the incoming side of a pulse's image description (R144). -/
def incConflict (n : Nat) (b : PulseBody) (x : State) : State :=
  if conflicts (heldIncoming x) b.incImage b.incLength b.incCheck && !x.ie.conflictInc then
    raise (.imageConflict n b.incImage (chunksCapped (((heldIncoming x).map Desc.length).getD 0)) (chunksCapped b.incLength))
      (setIe x (fun e => { e with conflictInc := true }))
  else x

/-- The look at the active side (R144). -/
def activeConflict (n : Nat) (b : PulseBody) (x : State) : State :=
  if conflicts x.ie.activeDesc b.incImage b.incLength b.incCheck && !x.ie.conflictActive then
    raise (.imageConflict n b.incImage (chunksCapped ((x.ie.activeDesc.map Desc.length).getD 0)) (chunksCapped b.incLength))
      (setIe x (fun e => { e with conflictActive := true }))
  else x

theorem noteConflicts_steps (n : Nat) (b : PulseBody) (x : State) :
    noteConflicts n b.incImage b.incLength b.incCheck x = activeConflict n b (incConflict n b x) := rfl

theorem unnoted {c flag : Bool} (h : ¬ (c = true ∧ flag = false)) : (c = false ∨ flag = true) ∧ (flag || c) = flag := by
  cases c <;> cases flag <;> simp_all

theorem incConflict_eq (n : Nat) (b : PulseBody) (x : State) : incConflict n b x = { x with
    ie := { x.ie with conflictInc := x.ie.conflictInc || misdescribes (incomingHeld x) b }
    ml := conflictNoted n b (incomingHeld x) x.ie.conflictInc x x.ml } := by
  rw [incConflict, conflicts_eq, heldIncoming_eq]
  by_cases hm : misdescribes (incomingHeld x) b = true ∧ x.ie.conflictInc = false
  · rw [if_pos (by simp [hm]), conflictNoted_raised hm.1 hm.2, hm.1, Bool.or_true]
    rfl
  · obtain ⟨hc, hf⟩ := unnoted hm
    rw [if_neg (by simpa using hm), conflictNoted_clear hc, hf]

theorem activeConflict_eq (n : Nat) (b : PulseBody) (x : State) : activeConflict n b x = { x with
    ie := { x.ie with conflictActive := x.ie.conflictActive || misdescribes x.ie.activeDesc b }
    ml := conflictNoted n b x.ie.activeDesc x.ie.conflictActive x x.ml } := by
  rw [activeConflict, conflicts_eq]
  by_cases hm : misdescribes x.ie.activeDesc b = true ∧ x.ie.conflictActive = false
  · rw [if_pos (by simp [hm]), conflictNoted_raised hm.1 hm.2, hm.1, Bool.or_true]
    rfl
  · obtain ⟨hc, hf⟩ := unnoted hm
    rw [if_neg (by simpa using hm), conflictNoted_clear hc, hf]

/-- The conflicts of a pulse's image description: events and flags, and nothing else (R144). -/
theorem noteConflicts_eq (n : Nat) (b : PulseBody) (x : State) :
    noteConflicts n b.incImage b.incLength b.incCheck x = { x with
      ie := { x.ie with
        conflictInc := x.ie.conflictInc || misdescribes (incomingHeld x) b
        conflictActive := x.ie.conflictActive || misdescribes x.ie.activeDesc b }
      ml := conflictNoted n b x.ie.activeDesc x.ie.conflictActive x
        (conflictNoted n b (incomingHeld x) x.ie.conflictInc x x.ml) } := by
  rw [noteConflicts_steps, activeConflict_eq, incConflict_eq]
  rfl

theorem isDiscovery_eq (n : Nat) (b : PulseBody) (x : State) : isDiscovery x n b = discovered (isPresent x n) b x := by
  have ha : acQuiet x = decide (x.ac.state = .idle ∨ x.ac.state = .waiting) := by
    cases h : x.ac.state <;> simp [acQuiet, h]
  rw [isDiscovery, discovered, ha, Config.imageBytesMax]

/-- What a pulse's image description is read against is the same in both states. -/
structure SameImage (s x : State) : Prop where
  ie : ∃ f p, x.ie = { s.ie with fetches := f, presence := p }
  ac : x.ac = s.ac

section
variable {s x : State} (h : SameImage s x)
include h

theorem SameImage.discovered (present : Bool) (b : PulseBody) : discovered present b x = discovered present b s := by
  obtain ⟨⟨f, p, hie⟩, hac⟩ := h
  have ha : activeNumber x = activeNumber s := by unfold activeNumber; rw [hie]
  have ho : ownIncomingNumber x = ownIncomingNumber s := by unfold ownIncomingNumber; rw [hie]
  simp only [Sys2Proof.Machine.discovered, ha, ho, hac]

theorem SameImage.incomingHeld : incomingHeld x = incomingHeld s := by
  obtain ⟨⟨f, p, hie⟩, hac⟩ := h
  simp only [Sys2Proof.Machine.incomingHeld, hie]

theorem SameImage.imageTaken {present : Bool} {b : PulseBody} {e : Ie} :
    imageTaken present b x e ↔ imageTaken present b s e := by
  obtain ⟨f, p, hie⟩ := h.ie
  simp only [Sys2Proof.Machine.imageTaken, h.discovered, h.incomingHeld, hie]

theorem SameImage.imageNoted {n : Nat} {present : Bool} {b : PulseBody} {y : State} {m : Ml} :
    imageNoted n present b x y m = imageNoted n present b s y m := by
  obtain ⟨f, p, hie⟩ := h.ie
  simp only [Sys2Proof.Machine.imageNoted, h.discovered, h.incomingHeld, hie]

end

theorem lookForImage_discovered {n : Nat} {b : PulseBody} {x : State} (h : discovered (isPresent x n) b x = true) :
    lookForImage n b x = takeImage { number := b.incImage, length := b.incLength, check := b.incCheck, failed := 0 }
      (raise (.imageFound n b.incImage b.incLength) x) := by
  rw [lookForImage, isDiscovery_eq, if_pos h]

theorem lookForImage_held {n : Nat} {b : PulseBody} {x : State} (h : discovered (isPresent x n) b x = false) :
    lookForImage n b x = noteConflicts n b.incImage b.incLength b.incCheck x := by
  rw [lookForImage, isDiscovery_eq, if_neg (by simp [h])]

/-- An erase that begins raises nothing; it completes a waiting IMAGE CHUNK alone (R140, R149). -/
theorem beginErase_ml {a : After} {x : State} (h : x.ml.state ≠ .pending) : (beginErase a x).ml = x.ml := by
  simp only [beginErase]
  split
  · rw [completePending_eq]
    simp [setIe, h]
  · rfl

theorem beginErase_ie (a : After) (x : State) : (beginErase a x).ie.inc = .erasing ∧ (beginErase a x).ie.incDesc = none ∧
    (beginErase a x).ie.after = a ∧ (beginErase a x).ie.check = none ∧ (beginErase a x).ie.fetches = [] ∧
    (beginErase a x).ie.progs = [] ∧ (beginErase a x).ie.presence = [] ∧ (beginErase a x).ie.erase = some 0 ∧
    (beginErase a x).ie.conflictInc = false ∧ (beginErase a x).ie.conflictActive = x.ie.conflictActive ∧
    (beginErase a x).ie.strikes = x.ie.strikes ∧ (beginErase a x).ie.skips = x.ie.skips := by
  simp only [beginErase]
  split
  · simp [setIe]
  · simp [setIe]

theorem takeImage_ml {d : Desc} {x : State} (h : x.ml.state ≠ .pending) : (takeImage d x).ml = x.ml := by
  unfold takeImage
  split
  · rfl
  · rfl
  all_goals exact beginErase_ml h

theorem offerEvent_state (r : EventRec) (m : Ml) : (offerEvent r m).state = m.state := by rw [offerEvent_eq]

/-- The events a pulse's image description raises (R142, R144). -/
theorem lookForImage_ml {n : Nat} {b : PulseBody} {x : State}
    (h : x.ml.state ≠ .pending ∨ discovered (isPresent x n) b x = false) :
    (lookForImage n b x).ml = imageNoted n (isPresent x n) b x x x.ml := by
  cases hd : discovered (isPresent x n) b x with
  | true =>
    have hp : x.ml.state ≠ .pending := h.resolve_right (by simp [hd])
    rw [lookForImage_discovered hd, takeImage_ml (by simpa [raise, offerEvent_state] using hp), imageNoted, if_pos hd]
    rfl
  | false =>
    rw [lookForImage_held hd, noteConflicts_eq, imageNoted, if_neg (by simp [hd])]

/-- What a pulse's image description makes of the slot (R142, R144). -/
theorem lookForImage_taken (n : Nat) (b : PulseBody) (x : State) :
    imageTaken (isPresent x n) b x (lookForImage n b x).ie ∧ (lookForImage n b x).ie.strikes = x.ie.strikes ∧
      (lookForImage n b x).ie.skips = x.ie.skips := by
  cases hd : discovered (isPresent x n) b x with
  | true =>
    rw [lookForImage_discovered hd]
    refine ⟨⟨fun _ => ?_, fun hn => by simp [hd] at hn⟩, ?_⟩
    · unfold takeImage
      cases hi : x.ie.inc with
      | empty => simp [hi, beginFilling, setIe]
      | erasing => simp [hi, setIe]
      | filling | checking | ready | rejected =>
        have hr : (raise (.imageFound n b.incImage b.incLength) x).ie = x.ie := by simp
        simp only [hr, hi]
        obtain ⟨h1, h2, h3, h4, h5, h6, h7, h8, h9, h10, -⟩ := beginErase_ie
          (.image { number := b.incImage, length := b.incLength, check := b.incCheck, failed := 0 })
          (raise (.imageFound n b.incImage b.incLength) x)
        exact ⟨h9, by rw [h10, hr], by simp, by simp, fun _ _ => ⟨h1, h2, h3, h4, h5, h6, h7, h8⟩⟩
    · unfold takeImage
      split
      · simp [beginFilling, setIe]
      · simp [setIe]
      all_goals simp [beginErase_ie]
  | false =>
    rw [lookForImage_held hd, noteConflicts_eq]
    exact ⟨⟨fun hn => by simp [hd] at hn, fun _ => ⟨rfl, rfl, rfl, rfl, rfl⟩⟩, rfl, rfl⟩

/-- What a pulse has made of the slot stays when fetches are issued and flash work starts. -/
theorem imageTaken_follow {present : Bool} {b : PulseBody} {s y : State} (h : imageTaken present b s y.ie) :
    imageTaken present b s (startFlash (issueFetches y)).ie := by
  rw [startFlash_ie]
  obtain ⟨ht, hf⟩ := h
  refine ⟨fun hd => ?_, fun hd => ?_⟩
  · obtain ⟨h1, h2, h3, h4, h5⟩ := ht hd
    refine ⟨?_, ?_, fun hi => ?_, fun hi => ?_, fun he hi => ?_⟩
    · rw [issueFetches_eq]; exact h1
    · rw [issueFetches_eq]; exact h2
    · rw [issueFetches_eq]; exact h3 hi
    · rw [issueFetches_eq]; exact h4 hi
    · have h := h5 he hi
      have hy : issueFetches y = y := issueFetches_idle (.inl (by simp [h.1]))
      rw [hy]
      exact h
  · rw [issueFetches_eq]; exact hf hd

end Sys2Proof.Machine
end
section
/-! SUPPORT. An accepted PULSE: its entry, its period and time tests, and what follows (R6, R15, R18, R19, R20). -/

namespace Sys2Proof.Machine

/-! ## A new clock value -/

theorem newClockValue_clock (g : Grade) (minute milli : Nat) (s : State) :
    (newClockValue g minute milli s).su.clock = { grade := g, minute := minute, milli := milli, sub := 0 } := by
  simp [newClockValue, setClock]

/-- A profile nothing has written stays OPEN (R127, R135). -/
theorem evalProfile_blank {p : Nat} {s : State} (h : s.su.profiles = []) : evalProfile p s = s := by
  have hp : profileOf s p = Profile.blank := by simp [profileOf, h, tabGet]
  have hc : profileCause s.su.clock Profile.blank = none := by
    simp [profileCause, Profile.blank, ProfileRecord.blank, inWindowNow, inWindow]
  unfold evalProfile
  simp only [hp, hc]
  rw [if_pos (by rfl)]
  rfl

/-- With no profile and no client a new clock value raises nothing (R121). -/
theorem newClockValue_ml {g : Grade} {minute milli : Nat} {s : State} (hc : s.rc.clients = []) (hp : s.su.profiles = []) :
    (newClockValue g minute milli s).ml = s.ml := by
  generalize hu : rolloverFrom (dayOf s.su.clock)
    (setClock { grade := g, minute := minute, milli := milli, sub := 0 } s) = u
  have hum : u.ml = s.ml ∧ u.su.profiles = [] ∧ u.rc.clients = [] := by
    rw [← hu]
    refine ⟨by simp [setClock], by simp [setClock, hp], ?_⟩
    unfold rolloverFrom
    split
    · exact hc
    · simp [rollover, setClients, setClock, hc, tabMap]
  have hev : evalProfiles u = u := by
    unfold evalProfiles
    generalize List.range Config.profiles = l
    induction l with
    | nil => rfl
    | cons p l ih => rw [List.foldl_cons, evalProfile_blank hum.2.1, ih]
  show (evalVerdicts (evalMaintenance (evalProfiles (rolloverFrom _ _)))).ml = s.ml
  rw [hu, hev]
  have hcl : (evalMaintenance u).rc.clients = [] := by simpa using hum.2.2
  have hv : evalVerdicts (evalMaintenance u) = evalMaintenance u := by
    rw [evalVerdicts, forClients, hcl]
    rfl
  rw [hv]
  simpa using hum.1

/-- What a new clock value leaves of an entry (R119, R129, R132). -/
def roaming (c : Client) : Addr × Role × Nat × BitVec 16 × Option Nat × Option (BitVec 16) × Option Nat :=
  (c.addr, c.role, c.serving, c.tenure, c.timer, c.claimNo, c.claimant)

theorem roaming_modClient {i : Nat} {f : Client → Client} (hf : ∀ c, roaming (f c) = roaming c) (s : State) (j : Nat) :
    (clientAt (modClient i f s) j).map roaming = (clientAt s j).map roaming := by
  by_cases h : j = i
  · subst h
    rw [clientAt_modClient_self, Option.map_map]
    congr 1
    funext c
    exact hf c
  · rw [clientAt_modClient_ne f s h]

theorem roaming_removeFlowsOf (i : Nat) (s : State) (j : Nat) :
    (clientAt (removeFlowsOf i s) j).map roaming = (clientAt s j).map roaming :=
  roaming_modClient (f := fun c => { c with games := 0 }) (fun _ => rfl) _ j

theorem roaming_evalVerdict (i : Nat) (s : State) (j : Nat) :
    (clientAt (evalVerdict i s) j).map roaming = (clientAt s j).map roaming := by
  have hmod (v : Option Verdict) : (clientAt (modClient i (fun x => { x with verdict := v }) s) j).map roaming =
      (clientAt s j).map roaming := roaming_modClient (f := fun x => { x with verdict := v }) (fun _ => rfl) s j
  unfold evalVerdict
  split
  · split
    · split
      · split
        · rfl
        · exact (roaming_removeFlowsOf i _ j).trans (hmod _)
      · dsimp only
        split
        · exact hmod _
        · exact hmod _
    · rfl
  · rfl

/-- A new clock value changes verdicts, counters and activity, and no entry's place in the roaming (R121). -/
theorem roaming_newClockValue (g : Grade) (minute milli : Nat) (s : State) (j : Nat) :
    (clientAt (newClockValue g minute milli s) j).map roaming = (clientAt s j).map roaming := by
  have hv := forClients_keeps (fun t : State => (clientAt t j).map roaming) _ (fun i t => roaming_evalVerdict i t j)
    (evalMaintenance (evalProfiles (rolloverFrom (dayOf s.su.clock)
      (setClock { grade := g, minute := minute, milli := milli, sub := 0 } s))))
  have hm : ∀ t : State, clientAt (evalMaintenance (evalProfiles t)) j = clientAt t j := fun t => by simp [clientAt]
  refine hv.trans ?_
  rw [hm]
  unfold rolloverFrom
  split
  · rfl
  · simp only [clientAt, rollover, setClients, State.setRc_rc, tabGet_tabMap, Option.map_map]
    rfl

theorem servedCount_removeFlowsOf (i : Nat) (s : State) : servedCount (removeFlowsOf i s) = 0 ↔ servedCount s = 0 :=
  servedCount_modClient (f := fun c => { c with games := 0 }) (s := s.setFc _) fun _ _ => rfl

theorem servedCount_evalVerdict (i : Nat) (s : State) : servedCount (evalVerdict i s) = 0 ↔ servedCount s = 0 := by
  have hmod (v : Option Verdict) : servedCount (modClient i (fun x => { x with verdict := v }) s) = 0 ↔ servedCount s = 0 :=
    servedCount_modClient fun _ _ => rfl
  unfold evalVerdict
  split
  · split
    · split
      · split
        · rfl
        · exact (servedCount_removeFlowsOf i _).trans (hmod _)
      · dsimp only
        split
        · exact hmod _
        · exact hmod _
    · rfl
  · rfl

theorem servedCount_newClockValue (g : Grade) (minute milli : Nat) (s : State) :
    servedCount (newClockValue g minute milli s) = 0 ↔ servedCount s = 0 := by
  have hv := forClients_keeps (fun t : State => servedCount t = 0) _ (fun i t => propext (servedCount_evalVerdict i t))
    (evalMaintenance (evalProfiles (rolloverFrom (dayOf s.su.clock)
      (setClock { grade := g, minute := minute, milli := milli, sub := 0 } s))))
  refine (iff_of_eq hv).trans ?_
  have hm : ∀ t : State, servedCount (evalMaintenance (evalProfiles t)) = servedCount t := fun t => by simp [servedCount]
  rw [hm]
  unfold rolloverFrom
  split
  · rfl
  · exact iff_of_eq (congrArg (· = 0) (servedCount_tabMap
      (f := fun c => { c with used := 0, extra := 0, drawn := 0, day := minute / 1440 }) (fun _ => rfl) _ _ rfl))

/-! ## The tests -/

/-- A peer's time is more than 120 s from the clock (R20). -/
def farOff (b : PulseBody) (s : State) : Bool :=
  decide (120000 < weekDistance (weekMilli s.su.clock.minute s.su.clock.milli) (weekMilli b.minute b.milli))

/-- The state with peer n's entry written, and with this ML. -/
def entered (n : Nat) (q : Peer) (m : Ml) (s : State) : State :=
  { s with bu := { s.bu with peers := tabSet s.bu.peers n q }, ml := m }

theorem peerOf_entered (n : Nat) (q : Peer) (m : Ml) (s : State) : peerOf (entered n q m s) n = some q :=
  tabGet_tabSet_self _ n q

theorem peerOf_entered_ne {n k : Nat} (q : Peer) (m : Ml) (s : State) (h : k ≠ n) :
    peerOf (entered n q m s) k = peerOf s k := tabGet_tabSet_ne _ q h

@[simp] theorem entered_frame (n : Nat) (q : Peer) (m : Ml) (s : State) :
    (entered n q m s).bu = { s.bu with peers := tabSet s.bu.peers n q } ∧ (entered n q m s).rc = s.rc ∧
    (entered n q m s).fc = s.fc ∧ (entered n q m s).sc = s.sc ∧ (entered n q m s).es = s.es ∧
    (entered n q m s).su = s.su ∧ (entered n q m s).flash = s.flash ∧ (entered n q m s).ie = s.ie ∧
    (entered n q m s).ac = s.ac ∧ (entered n q m s).ml = m ∧ (entered n q m s).sl = s.sl ∧
    (entered n q m s).pins = s.pins ∧ (entered n q m s).now = s.now := by
  simp [entered]

theorem entered_entered (n : Nat) (q r : Peer) (m k : Ml) (s : State) :
    entered n q m (entered n r k s) = entered n q m s := by simp [entered, tabSet_tabSet]

theorem offerAll_ite (x : State) (c : Bool) (e : Event) (m : Ml) :
    (if c then offerEvent (stamp e x) m else m) = offerAll x (if c then [e] else []) m := by
  split <;> rfl

/-- What the period test raises (R18). -/
def periodEvents (n : Nat) (b : PulseBody) (s : State) (p : Peer) : List Event :=
  if b.period != s.sl.params.pulsePeriod && !p.mismatch then [.periodMismatch n b.period] else []

/-- What the comparison with a running clock raises (R20). -/
def skewEvents (n : Nat) (b : PulseBody) (s : State) (p : Peer) : List Event :=
  if farOff b s && !p.skew then [.timeSkew n b.minute b.milli] else []

theorem periodTest_eq {n : Nat} {b : PulseBody} {p : Peer} {s : State} (h : peerOf s n = some p) : periodTest n b s =
    entered n { p with mismatch := b.period != s.sl.params.pulsePeriod } (offerAll s (periodEvents n b s p) s.ml) s := by
  rw [periodEvents, ← offerAll_ite]
  simp only [periodTest, h]
  by_cases hc : (b.period != s.sl.params.pulsePeriod && !p.mismatch) = true
  · rw [if_pos hc, if_pos hc]
    rfl
  · rw [if_neg hc, if_neg hc]
    rfl

theorem skewTest_eq {n : Nat} {b : PulseBody} {p : Peer} {s : State} (h : peerOf s n = some p) : skewTest n b s =
    entered n { p with skew := farOff b s } (offerAll s (skewEvents n b s p) s.ml) s := by
  rw [skewEvents, ← offerAll_ite]
  simp only [skewTest, h]
  by_cases hc : (farOff b s && !p.skew) = true
  · rw [if_pos hc]
    exact if_pos hc
  · rw [if_neg hc]
    exact if_neg hc

/-- The tests of a pulse whose time is not looked at (R18). -/
theorem timeTest_ungraded {n : Nat} {b : PulseBody} {p : Peer} {s : State} (h : peerOf s n = some p) (hg : b.grade ≠ .set) :
    timeTest n b (periodTest n b s) =
      entered n { p with mismatch := b.period != s.sl.params.pulsePeriod } (offerAll s (periodEvents n b s p) s.ml) s := by
  rw [periodTest_eq h]
  exact if_neg (by simpa using hg)

/-- The tests of a grade-2 pulse met by a running clock (R18, R20). -/
theorem timeTest_compared {n : Nat} {b : PulseBody} {p : Peer} {s : State} (h : peerOf s n = some p)
    (hg : b.grade = .set) (hu : s.su.clock.grade ≠ .unset) : timeTest n b (periodTest n b s) =
      entered n { p with mismatch := b.period != s.sl.params.pulsePeriod, skew := farOff b s }
        (offerAll s (periodEvents n b s p ++ skewEvents n b s p) s.ml) s := by
  rw [periodTest_eq h, timeTest, if_pos (by simp [hg]), if_neg (by simpa [entered] using hu),
    skewTest_eq (peerOf_entered ..), entered_entered, offerAll_append]
  rfl

/-- A grade-2 pulse lends its time to an UNSET clock (R19). -/
theorem timeTest_borrowed {n : Nat} {b : PulseBody} {p : Peer} {s : State} (h : peerOf s n = some p)
    (hg : b.grade = .set) (hu : s.su.clock.grade = .unset) : timeTest n b (periodTest n b s) =
    raise (.timeBorrowed n) (newClockValue .borrowed b.minute b.milli
      (entered n { p with mismatch := b.period != s.sl.params.pulsePeriod } (offerAll s (periodEvents n b s p) s.ml) s)) := by
  rw [periodTest_eq h, timeTest, if_pos (by simp [hg]), if_pos (by simp [entered, hu])]

end Sys2Proof.Machine
end
section
/-! SUPPORT. What an accepted PULSE leaves, from an ABSENT node and from a known one (R3, R6, R15, R142, R144, R161, R162). -/

namespace Sys2Proof.Machine

/-! ## The entry and the events -/

/-- The entry an accepted pulse leaves, its tests taken (R15, R18, R20). -/
def testedEntry (b : PulseBody) (s : State) (p : Peer) : Peer :=
  { p with
    mismatch := b.period != s.sl.params.pulsePeriod
    skew := if b.grade = .set ∧ s.su.clock.grade ≠ .unset then farOff b s else p.skew }

/-- PEER JOINED of a SILENT peer that is heard again (R15). -/
def joinEvents (n : Nat) (o : Option Peer) : List Event := if o.any (fun p => p.state == .silent) then [.peerJoined n] else []

/-- The state an accepted pulse is taken in: after a restart the peer was lost (R6). -/
def restarted (n : Nat) (b : PulseBody) (o : Option Peer) (s : State) : State :=
  if o.any (isRestart b) then losePeer n s else s

section
variable (n : Nat) (f : MeshFrame) (b : PulseBody) (o : Option Peer) (s : State)

theorem restarted_frame : (restarted n b o s).bu = s.bu ∧ (restarted n b o s).fc = s.fc ∧ (restarted n b o s).sc = s.sc ∧
    (restarted n b o s).es = s.es ∧ (restarted n b o s).su = s.su ∧ (restarted n b o s).flash = s.flash ∧
    (restarted n b o s).ac = s.ac ∧ (restarted n b o s).sl = s.sl ∧ (restarted n b o s).pins = s.pins ∧
    (restarted n b o s).now = s.now := by
  unfold restarted
  split <;> simp

theorem acceptPulse_tests : acceptPulse n f b o s = timeTest n b (periodTest n b
    (entered n (pulseEntry s.now f b o) (offerAll s (joinEvents n o) (restarted n b o s).ml) (restarted n b o s))) := by
  obtain ⟨-, -, -, -, hsu, -, -, -, -, hnow⟩ := restarted_frame n b o s
  have hd : (if o.any (fun p => p.state == .silent) then
      raise (.peerJoined n) (setPeers (tabSet (restarted n b o s).bu.peers n (pulseEntry (restarted n b o s).now f b o))
        (restarted n b o s))
      else setPeers (tabSet (restarted n b o s).bu.peers n (pulseEntry (restarted n b o s).now f b o)) (restarted n b o s)) =
      entered n (pulseEntry s.now f b o) (offerAll s (joinEvents n o) (restarted n b o s).ml) (restarted n b o s) := by
    rw [hnow, offerAll_clock (y := restarted n b o s) (by rw [hsu]), joinEvents, ← offerAll_ite]
    split <;> rfl
  exact congrArg (fun d => timeTest n b (periodTest n b d)) hd

/-- An accepted pulse that leaves the clock as it was (R15, R18, R20). -/
theorem acceptPulse_kept (hg : b.grade ≠ .set ∨ s.su.clock.grade ≠ .unset) : acceptPulse n f b o s =
    entered n (testedEntry b s (pulseEntry s.now f b o))
      (offerAll s (joinEvents n o ++ (periodEvents n b s (pulseEntry s.now f b o) ++
        if b.grade = .set then skewEvents n b s (pulseEntry s.now f b o) else [])) (restarted n b o s).ml)
      (restarted n b o s) := by
  obtain ⟨-, -, -, -, hsu, -, -, hsl, -, -⟩ := restarted_frame n b o s
  rw [acceptPulse_tests]
  generalize restarted n b o s = a at hsu hsl ⊢
  generalize pulseEntry s.now f b o = q
  have hfar : farOff b (entered n q (offerAll s (joinEvents n o) a.ml) a) = farOff b s := by simp [farOff, entered, hsu]
  have hpar : (entered n q (offerAll s (joinEvents n o) a.ml) a).sl = s.sl := hsl
  have hclk : (entered n q (offerAll s (joinEvents n o) a.ml) a).su.clock = s.su.clock := by simp [entered, hsu]
  by_cases hset : b.grade = .set
  · have hu : s.su.clock.grade ≠ .unset := hg.resolve_left (by simp [hset])
    rw [timeTest_compared (peerOf_entered ..) hset (by rwa [hclk]), entered_entered, offerAll_clock hclk]
    simp only [testedEntry, hset, hu, ne_eq, not_false_eq_true, and_self, if_true, hfar, hpar, skewEvents, periodEvents,
      offerAll_append, entered_frame]
  · rw [timeTest_ungraded (peerOf_entered ..) hset, entered_entered, offerAll_clock hclk]
    simp only [testedEntry, hset, false_and, if_false, hpar, periodEvents, List.append_nil, offerAll_append, entered_frame]

/-- An accepted pulse that lends its time (R19). -/
theorem acceptPulse_lends (hg : b.grade = .set) (hu : s.su.clock.grade = .unset) : acceptPulse n f b o s =
    raise (.timeBorrowed n) (newClockValue .borrowed b.minute b.milli
      (entered n (testedEntry b s (pulseEntry s.now f b o))
        (offerAll s (joinEvents n o ++ periodEvents n b s (pulseEntry s.now f b o)) (restarted n b o s).ml)
        (restarted n b o s))) := by
  obtain ⟨-, -, -, -, hsu, -, -, hsl, -, -⟩ := restarted_frame n b o s
  rw [acceptPulse_tests]
  generalize restarted n b o s = a at hsu hsl ⊢
  generalize pulseEntry s.now f b o = q
  have hpar : (entered n q (offerAll s (joinEvents n o) a.ml) a).sl = s.sl := hsl
  have hclk : (entered n q (offerAll s (joinEvents n o) a.ml) a).su.clock = s.su.clock := by simp [entered, hsu]
  rw [timeTest_borrowed (peerOf_entered ..) hg (by rwa [hclk]), entered_entered, offerAll_clock hclk]
  simp only [testedEntry, hu, ne_eq, not_true, and_false, if_false, hpar, periodEvents, offerAll_append, entered_frame]

theorem servedCount_raise (e : Event) (s : State) : servedCount (raise e s) = servedCount s := rfl

/-- What an accepted pulse touches of the BU, the IE and the Client Table (R6, R15, R121). -/
theorem acceptPulse_leaves :
    (acceptPulse n f b o s).bu =
      { s.bu with peers := tabSet s.bu.peers n (testedEntry b s (pulseEntry s.now f b o)) } ∧
    (acceptPulse n f b o s).ie = (restarted n b o s).ie ∧
    (∀ i, (clientAt (acceptPulse n f b o s) i).map roaming = (clientAt (restarted n b o s) i).map roaming) ∧
    (servedCount (acceptPulse n f b o s) = 0 ↔ servedCount (restarted n b o s) = 0) := by
  have hbu := (restarted_frame n b o s).1
  by_cases hg : b.grade ≠ .set ∨ s.su.clock.grade ≠ .unset
  · rw [acceptPulse_kept n f b o s hg]
    simp [hbu, clientAt, servedCount]
  · simp only [ne_eq, not_or, not_not] at hg
    rw [acceptPulse_lends n f b o s hg.1 hg.2]
    refine ⟨?_, ?_, fun i => ?_, ?_⟩
    · simp [hbu]
    · simp
    · rw [clientAt_raise, roaming_newClockValue]
      simp [clientAt]
    · rw [servedCount_raise, servedCount_newClockValue]
      simp [servedCount]

/-- With no client and no profile a time that is lent raises nothing but TIME BORROWED (R19, R121). -/
theorem acceptPulse_lends_ml (hg : b.grade = .set) (hu : s.su.clock.grade = .unset)
    (hc : (restarted n b o s).rc.clients = []) (hp : s.su.profiles = []) :
    (acceptPulse n f b o s).ml = offerEvent (stamp (.timeBorrowed n) (acceptPulse n f b o s))
      (offerAll s (joinEvents n o ++ periodEvents n b s (pulseEntry s.now f b o)) (restarted n b o s).ml) := by
  have hsu : (restarted n b o s).su = s.su := (restarted_frame n b o s).2.2.2.2.1
  have hm := newClockValue_ml (g := .borrowed) (minute := b.minute) (milli := b.milli)
    (s := entered n (testedEntry b s (pulseEntry s.now f b o))
      (offerAll s (joinEvents n o ++ periodEvents n b s (pulseEntry s.now f b o)) (restarted n b o s).ml) (restarted n b o s))
    (by simpa using hc) (by simpa [hsu] using hp)
  rw [acceptPulse_lends n f b o s hg hu, stamp_raise]
  rw [entered_frame _ _ _ _ |>.2.2.2.2.2.2.2.2.2.1] at hm
  generalize newClockValue .borrowed b.minute b.milli _ = y at hm ⊢
  simp [raise, hm]

theorem acceptPulse_sameImage : SameImage s (acceptPulse n f b o s) where
  ac := by simp
  ie := by
    rw [(acceptPulse_leaves n f b o s).2.1]
    unfold restarted
    split
    · have h := (lost_losePeer n s).ie
      refine ⟨(losePeer n s).ie.fetches, (losePeer n s).ie.presence, h.trans ?_⟩
      have hs : (losePeer n s).ie = failFetchesTo n s.ie := by simp [losePeer, setIe]
      rw [hs, failFetchesTo, foldl_failFetch_eq]
    · exact ⟨s.ie.fetches, s.ie.presence, rfl⟩

end

theorem imageNoted_clock {x y : State} (h : x.su.clock = y.su.clock) (n : Nat) (present : Bool) (b : PulseBody) (s : State)
    (m : Ml) : imageNoted n present b s x m = imageNoted n present b s y m := by
  have hs (e : Event) : stamp e x = stamp e y := by simp [stamp, h]
  have hc (held : Option Desc) (flag : Bool) (m : Ml) : conflictNoted n b held flag x m = conflictNoted n b held flag y m := by
    cases held <;> simp [conflictNoted, hs]
  simp only [imageNoted, hs, hc]

/-! ## What follows -/

/-- What follows an accepted pulse, while the transmitter waits. -/
def followed (n : Nat) (b : PulseBody) (x : State) : State :=
  startFlash (issueFetches (acSettle (acPulse n b (lookForImage n b x))))

theorem pulseFollow_waits {n : Nat} {b : PulseBody} {x : State} (h : txWaits x = true) : pulseFollow n b x = followed n b x :=
  wake_waits (by simpa [txWaits] using h)

section
variable (n : Nat) (b : PulseBody) (x : State)

theorem followed_frame : (followed n b x).rc.clients = x.rc.clients ∧ (followed n b x).fc = x.fc ∧
    (followed n b x).sc = x.sc ∧ (followed n b x).es = x.es ∧ (followed n b x).su = x.su ∧
    (followed n b x).flash = x.flash ∧ (followed n b x).sl = x.sl ∧ (followed n b x).pins = x.pins ∧
    (followed n b x).now = x.now := by simp [followed]

theorem followed_bu : (followed n b x).bu = { x.bu with control := (followed n b x).bu.control } := by
  have h : (followed n b x).bu = (issueFetches (acSettle (acPulse n b (lookForImage n b x)))).bu := by simp [followed]
  have hp : (acPulse n b (lookForImage n b x)).bu = x.bu := by simp
  rw [h, issueFetches_eq, acSettle_bu, hp]

theorem followed_imageTaken : imageTaken (isPresent x n) b x (followed n b x).ie ∧
    (followed n b x).ie.strikes = x.ie.strikes ∧ (followed n b x).ie.skips = x.ie.skips := by
  have hie : (acSettle (acPulse n b (lookForImage n b x))).ie = (lookForImage n b x).ie := by simp
  obtain ⟨ht, h1, h2⟩ := lookForImage_taken n b x
  refine ⟨imageTaken_follow (by rw [hie]; exact ht), ?_⟩
  rw [followed, startFlash_ie, issueFetches_eq]
  simp [h1, h2]

theorem acPulse_undrained (h : acDraining x = false) : acDraining (acPulse n b x) = false := by
  have h' : x.ac.state ≠ .draining := by simpa [acDraining] using h
  unfold acPulse
  split
  · split
    · exact h
    · exact h
  · exact absurd ‹_› h'
  · exact h

theorem followed_ml (hd : acDraining x = false) (h : x.ml.state ≠ .pending ∨ discovered (isPresent x n) b x = false) :
    (followed n b x).ml = imageNoted n (isPresent x n) b x x x.ml := by
  have hd' : acDraining (lookForImage n b x) = false := by simpa [acDraining] using hd
  have hm : (followed n b x).ml = (acSettle (acPulse n b (lookForImage n b x))).ml := by simp [followed]
  rw [hm, acSettle_ml (acPulse_undrained n b _ hd'), ← lookForImage_ml h]
  simp

end

/-! ## A PULSE from an ABSENT node -/

/-- Settles O20: the pulse is taken into a new entry, and what follows touches nothing else that is stated. -/
theorem pulseOpensEntry : Obligations.PulseOpensEntry := by
  intro f b s hl hw hm hb hp
  obtain ⟨ha, hr⟩ := by simpa [live] using hl
  let n := f.source.toNat
  let x := acceptPulse n f b none s
  have hrs : restarted n b none s = s := rfl
  have hx : exec (.pulseReceive f) s = .next (followed n b x) := by
    refine (taken_alive ha).trans (congrArg _ ?_)
    rw [receivePulse, if_pos (portTakes_fromMesh hm hr), hb]
    simp only [gate_absent hm hp]
    exact pulseFollow_waits (by simpa [txWaits] using hw)
  obtain ⟨hbu, hie, -, -⟩ := acceptPulse_leaves n f b none s
  have same := acceptPulse_sameImage n f b none s
  have hpeer : peerOf x n = some (testedEntry b s (pulseEntry s.now f b none)) := by
    show tabGet x.bu.peers n = _
    rw [hbu]
    exact tabGet_tabSet_self _ _ _
  have hpres : isPresent x n = false := by simp [isPresent, hpeer, testedEntry, pulseEntry]
  obtain ⟨hcl, hfc, hsc, hes, hsu, hfl, hsl, hpi, hnow⟩ := followed_frame n b x
  have hmlx (hd : acDraining s = false) : (followed n b x).ml = imageNoted n false b s x x.ml := by
    have hdx : acDraining x = false := by simpa [acDraining, x] using hd
    rw [followed_ml n b x hdx (.inr (by rw [hpres]; simp [discovered])), hpres, same.imageNoted]
  refine ⟨followed n b x, hx, ?_, ?_, ?_, ?_, ?_, ?_, ?_, fun hg => ?_, fun hg hu => ?_, ?_, ?_⟩
  · rw [followed_bu, hbu]
    have hskew : (if b.grade = .set ∧ s.su.clock.grade ≠ .unset then farOff b s else false) =
        (b.grade == .set && s.su.clock.grade != .unset && farOff b s) := by
      by_cases h1 : b.grade = .set <;> by_cases h2 : s.su.clock.grade = .unset <;> simp [h1, h2]
    simp only [testedEntry, pulseEntry, hskew]
    rfl
  · simp [hsc, x]
  · simp [hes, x]
  · simp [hfl, x]
  · simp [hsl, x]
  · simp [hpi, x]
  · simp [hnow, x]
  · have hk := acceptPulse_kept n f b none s hg
    rw [hsu, hfc, hcl]
    simp only [x, hk, hrs, entered_frame, and_self]
  · rw [hsu]
    simp only [x, acceptPulse_lends n f b none s hg hu]
    simpa using newClockValue_clock .borrowed b.minute b.milli _
  · have h := (followed_imageTaken n b x).1
    rw [hpres] at h
    exact same.imageTaken.1 h
  · intro raised m period far hd
    refine ⟨fun hg => ?_, fun hg hu => ?_, fun hg hu hc hpr => ?_⟩
    · have hk := acceptPulse_kept n f b none s (.inl hg)
      rw [hmlx hd, imageNoted_clock (y := s) (by simp [x, hk, hrs])]
      simp only [x, hk, entered_frame, hrs, hg, if_false, List.append_nil, offerAll_append, periodEvents]
      rw [← offerAll_ite]
      simp [offerAll, joinEvents, pulseEntry, period, raised, m, n]
    · have hk := acceptPulse_kept n f b none s (.inr hu)
      rw [hmlx hd, imageNoted_clock (y := s) (by simp [x, hk, hrs])]
      simp only [x, hk, entered_frame, hrs, hg, if_true, offerAll_append, periodEvents, skewEvents]
      rw [← offerAll_ite, ← offerAll_ite]
      simp [offerAll, joinEvents, pulseEntry, period, raised, m, n, far, farOff]
    · have hclk : (followed n b x).su.clock = x.su.clock := by rw [hsu]
      have hperiod : offerAll s (joinEvents n none ++ periodEvents n b s (pulseEntry s.now f b none)) s.ml = period := by
        simp only [offerAll_append, periodEvents]
        rw [← offerAll_ite]
        simp [offerAll, joinEvents, pulseEntry, period, raised, m, n]
      have hxm := acceptPulse_lends_ml n f b none s hg hu hc hpr
      rw [hrs, hperiod] at hxm
      rw [hmlx hd, imageNoted_clock hclk.symm, hxm]
      simp only [stamp, hclk]
      rfl

end Sys2Proof.Machine
end
section
/-! SUPPORT. An accepted PULSE from a known node (R5, R6, R15, R32, R53, R142, R144, R146, R161, R162). -/

namespace Sys2Proof.Machine

section
variable {f : MeshFrame} {b : PulseBody} {p : Peer} {s : State}

/-- PRESENT after an accepted pulse: PRESENT or SILENT before it (R15). -/
def staysPresent (p : Peer) : Bool := p.state = .present ∨ p.state = .silent

/-- The node that sends a PULSE is lost when the pulse tells of a restart (R6). -/
def restartOf (n : Nat) (b : PulseBody) (p : Peer) (k : Nat) : Bool := b.fresh && !p.lastFresh && k == n

theorem exec_pulse_known (hl : live s = true) (hm : fromMesh f.frameType f.meshTag f.source f.target s = true)
    (hb : readBody 1 f = some (.pulse b)) (hp : peerOf s f.source.toNat = some p) (ha : p.addr = f.srcAddr) :
    exec (.pulseReceive f) s = .next (if newer f.seq p.lastSeq || b.fresh then
      pulseFollow f.source.toNat b (acceptPulse f.source.toNat f b (some p) s) else s) := by
  obtain ⟨hal, hr⟩ := by simpa [live] using hl
  have hg := gate_fromMesh (a := f.srcAddr) hm hp
  rw [if_pos ha] at hg
  refine (taken_alive hal).trans (congrArg _ ?_)
  rw [receivePulse, if_pos (portTakes_fromMesh hm hr), hb]
  simp only [hg]

end

section
variable (n : Nat) (f : MeshFrame) (b : PulseBody) (p : Peer) (s : State)

theorem restarted_lost (h : b.fresh = true ∧ p.lastFresh = false) : restarted n b (some p) s = losePeer n s := by
  simp [restarted, isRestart, h]

theorem restarted_same (h : b.fresh = false ∨ p.lastFresh = true) : restarted n b (some p) s = s := by
  rcases h with h | h <;> simp [restarted, isRestart, h]

theorem restart_cases (b : PulseBody) (p : Peer) :
    (b.fresh = true ∧ p.lastFresh = false) ∨ (b.fresh = false ∨ p.lastFresh = true) := by
  cases b.fresh <;> cases p.lastFresh <;> simp

/-- The entry of the node that has sent an accepted pulse (R15, R18, R20). -/
theorem peerOf_acceptPulse : peerOf (acceptPulse n f b (some p) s) n =
    some (testedEntry b s (pulseEntry s.now f b (some p))) := by
  show tabGet (acceptPulse n f b (some p) s).bu.peers n = _
  rw [(acceptPulse_leaves n f b (some p) s).1]
  exact tabGet_tabSet_self _ _ _

theorem isPresent_acceptPulse : isPresent (acceptPulse n f b (some p) s) n = staysPresent p := by
  simp only [isPresent, peerOf_acceptPulse, testedEntry, pulseEntry, staysPresent]
  cases p.state <;> rfl

/-- A restart fails the fetches of the node back (R6, R146). -/
theorem restarted_failedBack : FailedBack (fun k => restartOf n b p k = true) s.ie (restarted n b (some p) s).ie := by
  rcases restart_cases b p with h | h
  · rw [restarted_lost n b p s h]
    have hl : (fun k => restartOf n b p k = true) = (· ∈ [n]) := by
      funext k
      simp [restartOf, h]
    rw [hl]
    exact (lost_losePeer n s).fetches
  · rw [restarted_same n b p s h]
    refine .of_eq (fun k => ?_) rfl rfl
    rcases h with h | h <;> simp [restartOf, h]

/-- A restart raises nothing in an empty table, and what it has to say of the one client in a table of one (R6, R32, R53). -/
theorem restarted_ml_empty (h : s.rc.clients = []) :
    (restarted n b (some p) s).ml = s.ml ∧ (restarted n b (some p) s).rc.clients = [] := by
  rcases restart_cases b p with hr | hr
  · rw [restarted_lost n b p s hr]
    exact ⟨((lostSmall_losePeer n s).empty h).2, ((lostSmall_losePeer n s).empty h).1⟩
  · rw [restarted_same n b p s hr]
    exact ⟨rfl, h⟩

theorem restarted_ml_single {i : Nat} {c : Client} (h : s.rc.clients = [(i, c)]) : (restarted n b (some p) s).ml =
    offerAll s (if b.fresh = true ∧ p.lastFresh = false then lossEvents n c else []) s.ml := by
  rcases restart_cases b p with hr | hr
  · rw [restarted_lost n b p s hr, ((lostSmall_losePeer n s).single i c h).2, if_pos hr, lossesOf, lossesOf,
      List.append_nil]
  · rw [restarted_same n b p s hr, if_neg (by rcases hr with hr | hr <;> simp [hr])]
    rfl

/-- The same, by what has happened to the one client. -/
theorem offerAll_lossEvents {c : Client} : offerAll s (if b.fresh = true ∧ p.lastFresh = false then lossEvents n c else []) s.ml =
    if (b.fresh && !p.lastFresh) = true ∧ c.serving = n ∧ (c.role = .remote ∨ c.role = .claiming ∨ c.role = .expecting) then
      offerEvent (stamp (.orphaned c.addr n) s) s.ml
    else if (b.fresh && !p.lastFresh) = true ∧ c.role = .handing ∧ c.claimant = some n then
      offerEvent (stamp (.steerFailed c.addr n true) s) s.ml
    else s.ml := by
  by_cases hr : b.fresh = true ∧ p.lastFresh = false
  · rw [if_pos hr, lossEvents]
    simp only [hr, Bool.not_false, Bool.and_self, true_and]
    split
    · rfl
    · split <;> rfl
  · have hn : (b.fresh && !p.lastFresh) = false := by simpa using hr
    simp [hr, hn, offerAll]

/-- After a pulse an entry is as the restart left it, but for what a new clock value changes. -/
theorem clientAt_followed (i : Nat) : (clientAt (followed n b (acceptPulse n f b (some p) s)) i).map roaming =
    (clientAt (restarted n b (some p) s) i).map roaming := by
  have h : clientAt (followed n b (acceptPulse n f b (some p) s)) i = clientAt (acceptPulse n f b (some p) s) i := by
    simp only [clientAt, (followed_frame n b (acceptPulse n f b (some p) s)).1]
  rw [h]
  exact (acceptPulse_leaves n f b (some p) s).2.2.1 i

theorem clientAt_followed_restart (h : b.fresh = true ∧ p.lastFresh = false) {i : Nat} {c : Client}
    (hc : clientAt s i = some c) : ∃ o, clientAt (followed n b (acceptPulse n f b (some p) s)) i = some o ∧
      roaming o = roaming (lostEntry s.sl.params s.now n c) := by
  have := clientAt_followed n f b p s i
  rw [restarted_lost n b p s h, clientAt_losePeer, hc] at this
  exact Option.map_eq_some_iff.1 this

/-- Where the pulse brings no discovery, its fetches stay as a restart has left them but for those issued since (R6, R146). -/
theorem followed_failedBack (h : discovered (staysPresent p) b s = false) :
    fetchesFailedBack (restartOf n b p) s (followed n b (acceptPulse n f b (some p) s)) := by
  have same := acceptPulse_sameImage n f b (some p) s
  have hx : discovered (isPresent (acceptPulse n f b (some p) s) n) b (acceptPulse n f b (some p) s) = false := by
    rw [isPresent_acceptPulse, same.discovered, h]
  have hlook := lookForImage_held hx
  rw [noteConflicts_eq] at hlook
  have hie := (acceptPulse_leaves n f b (some p) s).2.1
  have hinc : (acceptPulse n f b (some p) s).ie.inc = s.ie.inc := by
    obtain ⟨fs, pr, hs⟩ := same.ie
    rw [hs]
  have hback := restarted_failedBack n b p s
  rw [← hie] at hback
  have hsettled : (acSettle (acPulse n b (lookForImage n b (acceptPulse n f b (some p) s)))).ie =
      (lookForImage n b (acceptPulse n f b (some p) s)).ie := by simp
  refine fetchesFailedBack_issueFetches (y := acSettle (acPulse n b (lookForImage n b (acceptPulse n f b (some p) s)))) ?_ ?_ ?_
    ?_ ?_ ?_
  · rw [hsettled, hlook]
    exact ⟨hback.fetches, hback.missing, hback.other⟩
  · rw [hsettled, hlook]
    exact hinc
  · simp
  · rw [followed, startFlash_ie]
  · rw [followed, startFlash_ie]
  · simp [followed]

/-- With an image due that is no longer looked for, the slot is as it was when the AC looks (R142, R158). -/
theorem imageDue_lookForImage (h : imageDue s = true) (ha : s.ac.state ≠ .idle) (hw : s.ac.state ≠ .waiting) :
    imageDue (lookForImage n b (acceptPulse n f b (some p) s)) = true := by
  have same := acceptPulse_sameImage n f b (some p) s
  have hd : discovered (isPresent (acceptPulse n f b (some p) s) n) b (acceptPulse n f b (some p) s) = false := by
    rw [same.discovered]
    simp [discovered, ha, hw]
  obtain ⟨fs, pr, hie⟩ := same.ie
  rw [lookForImage_held hd, noteConflicts_eq, ← h]
  exact imageDue_congr (by simp only [hie]) (by simp only [hie]) (by simp only [hie])

/-- The conditions of R159 after the pulse are those the AC has looked at. -/
theorem activationOk_followed {x z : State} (hz : z = acPulse n b (lookForImage n b x))
    (h : (acSettle z).ac.holdoffEnds = z.ac.holdoffEnds ∧ (acSettle z).ac.activateNow = z.ac.activateNow) :
    activationOk (followed n b x) = activationOk z := by
  have hac : (followed n b x).ac = (acSettle z).ac := by simp [followed, hz]
  refine activationOk_congr ?_ ?_ ?_ ?_ ?_
  · rw [hac, h.1]
  · rw [hac, h.2]
  · simp [followed, hz]
  · simp [followed, hz]
  · simp [followed, hz]

/-- WANTING with its image due follows the conditions when a pulse has been looked at (R159, R161). -/
theorem followed_wanting {x z : State} (hz : z = acPulse n b (lookForImage n b x)) (hd : imageDue z = true)
    (hw : z.ac.state = .wanting) : (followed n b x).rc = z.rc ∧
      (followed n b x).ac = if activationOk (followed n b x) then z.ac else { z.ac with state := .waiting, count := 0 } := by
  have hs := acSettle_wanting hd hw
  have hok := activationOk_followed n b hz (by rw [hs]; split <;> exact ⟨rfl, rfl⟩)
  have hac : (followed n b x).ac = (acSettle z).ac := by simp [followed, hz]
  have hrc : (followed n b x).rc = (acSettle z).rc := by simp [followed, hz]
  rw [hac, hrc, hok, hs]
  split <;> exact ⟨rfl, rfl⟩

theorem peerBlocks_iff : peerBlocks (lookForImage n b (acceptPulse n f b (some p) s)) n = true ↔
    staysPresent p = true ∧ (b.draining = true ∨ b.leaving = true ∨ (n < s.sl.params.node ∧ b.drainWanted = true)) := by
  have hp : peerOf (lookForImage n b (acceptPulse n f b (some p) s)) n =
      some (testedEntry b s (pulseEntry s.now f b (some p))) := by
    rw [← peerOf_acceptPulse n f b p s]
    simp [peerOf]
  simp only [peerBlocks, hp, testedEntry, pulseEntry, staysPresent]
  cases p.state <;> simp [or_assoc]

theorem isPresent_lookForImage : isPresent (lookForImage n b (acceptPulse n f b (some p) s)) n = staysPresent p := by
  rw [← isPresent_acceptPulse n f b p s]
  simp [isPresent, peerOf]

/-- WANTING after an accepted pulse (R159, R161). -/
theorem wanting_followed (hd : imageDue s = true) (hw : s.ac.state = .wanting) :
    (followed n b (acceptPulse n f b (some p) s)).ac =
      if activationOk (followed n b (acceptPulse n f b (some p) s)) then
        { s.ac with count := if staysPresent p = true ∧ (b.draining = true ∨ b.leaving = true ∨
          (n < s.sl.params.node ∧ b.drainWanted = true)) then 0 else s.ac.count }
      else { s.ac with state := .waiting, count := 0 } := by
  have hdue := imageDue_lookForImage n f b p s hd (by simp [hw]) (by simp [hw])
  have hac : (lookForImage n b (acceptPulse n f b (some p) s)).ac = s.ac := by simp
  have hblocks := peerBlocks_iff n f b p s
  have hz : acPulse n b (lookForImage n b (acceptPulse n f b (some p) s)) =
      if peerBlocks (lookForImage n b (acceptPulse n f b (some p) s)) n then
        { lookForImage n b (acceptPulse n f b (some p) s) with ac := { s.ac with count := 0 } }
      else lookForImage n b (acceptPulse n f b (some p) s) := by
    simp only [acPulse, hac, hw]
    rfl
  have hzd : imageDue (acPulse n b (lookForImage n b (acceptPulse n f b (some p) s))) = true :=
    (imageDue_congr (by simp) (by simp) (by simp)).trans hdue
  have hzw : (acPulse n b (lookForImage n b (acceptPulse n f b (some p) s))).ac =
      { s.ac with count := if staysPresent p = true ∧ (b.draining = true ∨ b.leaving = true ∨
          (n < s.sl.params.node ∧ b.drainWanted = true)) then 0 else s.ac.count } := by
    rw [hz]
    by_cases hp : peerBlocks (lookForImage n b (acceptPulse n f b (some p) s)) n = true
    · rw [if_pos hp, if_pos (hblocks.1 hp)]
    · rw [if_neg hp, if_neg (fun h => hp (hblocks.2 h)), hac]
  rw [(followed_wanting n b rfl hzd (by rw [hzw]; exact hw)).2, hzw]

/-- DRAINING yields to a lower-numbered PRESENT peer that is draining (R162). -/
theorem yields_followed (hd : imageDue s = true) (hw : s.ac.state = .draining)
    (hy : staysPresent p = true ∧ n < s.sl.params.node ∧ b.draining = true) :
    (followed n b (acceptPulse n f b (some p) s)).rc.offers = [] ∧
      (followed n b (acceptPulse n f b (some p) s)).rc.lapsed = [] ∧
      (followed n b (acceptPulse n f b (some p) s)).ac = { s.ac with
        state := if activationOk (followed n b (acceptPulse n f b (some p) s)) then .wanting else .waiting
        count := 0, drainTimer := none, lapseTimer := none } := by
  have hdue := imageDue_lookForImage n f b p s hd (by simp [hw]) (by simp [hw])
  have hac : (lookForImage n b (acceptPulse n f b (some p) s)).ac = s.ac := by simp
  have hsl : (lookForImage n b (acceptPulse n f b (some p) s)).sl = s.sl := by simp
  have hz : acPulse n b (lookForImage n b (acceptPulse n f b (some p) s)) =
      acStopTimers (acTo .wanting (lookForImage n b (acceptPulse n f b (some p) s))) := by
    simp only [acPulse, hac, hw, isPresent_lookForImage, hsl, hy]
    simp
  have hdr : acDraining (lookForImage n b (acceptPulse n f b (some p) s)) = true := by simp [acDraining, hw]
  have hzd : imageDue (acPulse n b (lookForImage n b (acceptPulse n f b (some p) s))) = true :=
    (imageDue_congr (by simp) (by simp) (by simp)).trans hdue
  have hzw : (acPulse n b (lookForImage n b (acceptPulse n f b (some p) s))).ac =
      { s.ac with state := .wanting, count := 0, drainTimer := none, lapseTimer := none } := by
    rw [hz, acStopTimers]
    simp [acTo_ac]
  obtain ⟨hrc, hfa⟩ := followed_wanting n b rfl hzd (by rw [hzw])
  have hoff : (acPulse n b (lookForImage n b (acceptPulse n f b (some p) s))).rc.offers = [] ∧
      (acPulse n b (lookForImage n b (acceptPulse n f b (some p) s))).rc.lapsed = [] := by
    rw [hz, acStopTimers, acTo, hdr]
    exact ⟨rfl, rfl⟩
  rw [hrc, hfa, hzw]
  refine ⟨hoff.1, hoff.2, ?_⟩
  split <;> rfl

/-- Any other pulse leaves a DRAINING node with clients draining (R163). -/
theorem drains_followed (hd : imageDue s = true) (hw : s.ac.state = .draining)
    (hy : ¬ (staysPresent p = true ∧ n < s.sl.params.node ∧ b.draining = true)) (hc : servedCount s ≠ 0) :
    (followed n b (acceptPulse n f b (some p) s)).ac = s.ac := by
  have hdue := imageDue_lookForImage n f b p s hd (by simp [hw]) (by simp [hw])
  have hac : (lookForImage n b (acceptPulse n f b (some p) s)).ac = s.ac := by simp
  have hsl : (lookForImage n b (acceptPulse n f b (some p) s)).sl = s.sl := by simp
  have hz : acPulse n b (lookForImage n b (acceptPulse n f b (some p) s)) =
      lookForImage n b (acceptPulse n f b (some p) s) := by
    simp only [acPulse, hac, hw, isPresent_lookForImage, hsl]
    rw [if_neg (by simpa [and_assoc] using hy)]
  have hsc : servedCount (lookForImage n b (acceptPulse n f b (some p) s)) ≠ 0 := by
    have h1 : servedCount (lookForImage n b (acceptPulse n f b (some p) s)) =
        servedCount (acceptPulse n f b (some p) s) := by simp [servedCount]
    rw [h1, ne_eq, (acceptPulse_leaves n f b (some p) s).2.2.2]
    rcases restart_cases b p with h | h
    · rwa [restarted_lost n b p s h, servedCount_losePeer]
    · rwa [restarted_same n b p s h]
  have hf : (followed n b (acceptPulse n f b (some p) s)).ac =
      (acSettle (lookForImage n b (acceptPulse n f b (some p) s))).ac := by simp [followed, hz]
  rw [hf, acSettle_draining hdue (by rw [hac, hw]) hsc]
  simp

end

theorem losePeer_state (n : Nat) (s : State) : (losePeer n s).ml.state = s.ml.state := by
  have ho (i : Nat) (t : State) : (orphanOne n i t).ml.state = t.ml.state := by
    unfold orphanOne
    (repeat' split)
    · simp [raise, offerEvent_state]
    · rfl
    · rfl
  have hh (i : Nat) (t : State) : (handBackOne n i t).ml.state = t.ml.state := by
    unfold handBackOne
    (repeat' split)
    · simp [raise, offerEvent_state]
    · rfl
    · rfl
  have h1 := forClients_keeps (fun t : State => t.ml.state) _ ho s
  exact (forClients_keeps (fun t : State => t.ml.state) _ hh (forClients (orphanOne n) s)).trans h1

theorem offerAll_state (x : State) (l : List Event) (m : Ml) : (offerAll x l m).state = m.state := by rw [offerAll_eq]

/-- Settles O21: the entry, the clients of a restarted node, the events in their order, the image slot, and the AC by its state. -/
theorem pulseRenewsEntry : Obligations.PulseRenewsEntry := by
  intro f b p s hl hw hm hb hp hpa
  have hexec := exec_pulse_known hl hm hb hp hpa
  refine ⟨fun hn hf => ?_, fun hnew => ?_⟩
  · rw [hexec, hn, hf]
    rfl
  let n := f.source.toNat
  let x := acceptPulse n f b (some p) s
  have hx : exec (.pulseReceive f) s = .next (followed n b x) := by
    rw [hexec, if_pos (by simpa using hnew)]
    exact congrArg _ (pulseFollow_waits (by simpa [txWaits] using hw))
  obtain ⟨hbu, hie, -, -⟩ := acceptPulse_leaves n f b (some p) s
  have same := acceptPulse_sameImage n f b (some p) s
  have hpres := isPresent_acceptPulse n f b p s
  obtain ⟨hcl, hfc, hsc, hes, hsu, hfl, hsl, hpi, hnow⟩ := followed_frame n b x
  have hpeers : (followed n b x).bu.peers = tabSet s.bu.peers n (testedEntry b s (pulseEntry s.now f b (some p))) := by
    rw [followed_bu, hbu]
  refine ⟨followed n b x, hx, ?_, fun k hk => ?_, ?_, ?_, ?_, ?_, ?_, ?_, fun hf hlf i c hc hserv hrole => ?_,
    fun hf hlf i c hc hrole hclaim => ?_, fun hr hg => ?_, ?_⟩
  · show tabGet (followed n b x).bu.peers n = _
    rw [hpeers, tabGet_tabSet_self]
    simp [testedEntry, pulseEntry, farOff]
  · show tabGet (followed n b x).bu.peers k = _
    rw [hpeers, tabGet_tabSet_ne _ _ hk]
    rfl
  · simp [hsc, x]
  · simp [hes, x]
  · simp [hfl, x]
  · simp [hsl, x]
  · simp [hpi, x]
  · simp [hnow, x]
  · obtain ⟨o, ho, hro⟩ := clientAt_followed_restart n f b p s ⟨hf, hlf⟩ hc
    obtain ⟨h1, h2, h3, h4, -⟩ := lostTo_elsewhere (p := s.sl.params) (now := s.now) (l := [n]) hrole (by simp [hserv, n])
    have ha := (sameClient_lostEntry (p := s.sl.params) (now := s.now) (n := n) (c := c)).addr
    simp only [roaming, Prod.mk.injEq] at hro
    exact ⟨o, ho, hro.1.trans ha, hro.2.1.trans h1, hro.2.2.1.trans h2, hro.2.2.2.2.1.trans h3, hro.2.2.2.2.2.1.trans h4⟩
  · obtain ⟨o, ho, hro⟩ := clientAt_followed_restart n f b p s ⟨hf, hlf⟩ hc
    obtain ⟨h1, h2, h3, h4, h5, -⟩ := lostTo_handing (p := s.sl.params) (now := s.now) (l := [n]) hrole hclaim
      (List.mem_singleton_self n)
    have hsame := sameClient_lostEntry (p := s.sl.params) (now := s.now) (n := n) (c := c)
    simp only [roaming, Prod.mk.injEq] at hro
    exact ⟨o, ho, hro.1.trans hsame.addr, hro.2.1.trans h1, hro.2.2.1.trans h2, hro.2.2.2.2.1.trans h3,
      hro.2.2.2.2.2.1.trans h4, hro.2.2.2.2.2.2.trans h5, hro.2.2.2.1.trans hsame.tenure⟩
  · have hk := acceptPulse_kept n f b (some p) s (.inl hg)
    rw [hcl, hsu]
    simp only [x, hk, restarted_same n b p s hr, entered_frame, and_self]
  · intro raised m present restart lost period far blocks yields
    have hpresent : staysPresent p = present := rfl
    have himg := followed_imageTaken n b x
    have hst : x.ie.strikes = s.ie.strikes ∧ x.ie.skips = s.ie.skips := by
      obtain ⟨fs, pr, hs⟩ := same.ie
      simp only [x, hs, and_self]
    refine ⟨?_, himg.2.1.trans hst.1, himg.2.2.trans hst.2, followed_failedBack n f b p s, fun hsmall hd hquiet => ?_,
      fun hdue => ⟨fun hwt => ?_, fun hdr hy => ?_, fun hdr hy hc => ?_⟩⟩
    · have h := himg.1
      rw [hpres, same.imageTaken] at h
      exact h
    · have hlost : (restarted n b (some p) s).ml = lost := by
        match hcs : s.rc.clients, hsmall with
        | [], _ =>
          simp only [lost, hcs]
          exact (restarted_ml_empty n b p s hcs).1
        | [(i, c)], _ =>
          simp only [lost, hcs]
          exact (restarted_ml_single n b p s hcs).trans (offerAll_lossEvents n b p s)
        | _ :: _ :: _, hr =>
          simp only [lost, hcs]
          have hr' : restart = false := hr.resolve_right (by simp)
          have hrc : b.fresh = false ∨ p.lastFresh = true :=
            (restart_cases b p).resolve_left fun h => by simp [restart, h] at hr'
          rw [restarted_same n b p s hrc]
      have hperiod : offerAll s (joinEvents n (some p) ++ periodEvents n b s (pulseEntry s.now f b (some p)))
          (restarted n b (some p) s).ml = period := by
        rw [hlost]
        simp only [offerAll_append, periodEvents, joinEvents]
        rw [← offerAll_ite, ← offerAll_ite]
        rfl
      have hstate : lost.state = s.ml.state := by
        rw [← hlost]
        unfold restarted
        split
        · exact losePeer_state n s
        · rfl
      have hfinal (hxs : x.ml.state = s.ml.state) : (followed n b x).ml = imageNoted n present b s x x.ml := by
        rw [followed_ml n b x (by simpa [acDraining, x] using hd) ?_, hpres, same.imageNoted, hpresent]
        rw [hxs, hpres, same.discovered]
        exact hquiet
      have hrs : (restarted n b (some p) s).ml.state = s.ml.state := hlost ▸ hstate
      have hrsu : (restarted n b (some p) s).su = s.su := (restarted_frame n b (some p) s).2.2.2.2.1
      refine ⟨fun hg => ?_, fun hg hu => ?_, fun hg hu hc hpr => ?_⟩
      · have hk := acceptPulse_kept n f b (some p) s (.inl hg)
        have hxm : x.ml = period := by
          simp only [x, hk, entered_frame, hg, if_false, List.append_nil]
          exact hperiod
        rw [hfinal (by simp [x, hk, offerAll_state, hrs]), hxm, imageNoted_clock (y := s) (by simp [x, hk, hrsu])]
      · have hk := acceptPulse_kept n f b (some p) s (.inr hu)
        have hxm : x.ml = raised (far && !p.skew) (.timeSkew n b.minute b.milli) period := by
          simp only [x, hk, entered_frame, hg, if_true, ← List.append_assoc]
          rw [offerAll_append, hperiod, skewEvents, ← offerAll_ite]
          rfl
        rw [hfinal (by simp [x, hk, offerAll_state, hrs]), hxm, imageNoted_clock (y := s) (by simp [x, hk, hrsu])]
      · have hempty := restarted_ml_empty n b p s hc
        have hclk : (followed n b x).su.clock = x.su.clock := by rw [hsu]
        have hxm : x.ml = offerEvent (stamp (.timeBorrowed n) x) period := by
          rw [← hperiod]
          exact acceptPulse_lends_ml n f b (some p) s hg hu hempty.2 hpr
        have hps : period.state = s.ml.state := by rw [← hperiod, offerAll_state, hrs]
        refine ⟨?_, ?_⟩
        · rw [hclk]
          simp only [x, acceptPulse_lends n f b (some p) s hg hu]
          simpa using newClockValue_clock .borrowed b.minute b.milli _
        · rw [hfinal (by rw [hxm, offerEvent_state, hps]), imageNoted_clock hclk.symm, hxm]
          simp only [stamp, hclk]
          rfl
    · exact wanting_followed n f b p s hdue hwt
    · exact yields_followed n f b p s hdue hdr hy
    · exact drains_followed n f b p s hdue hdr hy hc

end Sys2Proof.Machine
end
section
/-! SUPPORT. What each target of BLOCK RESET leaves (R21, R65, R82, R99, R117, R135, R156, R176, R182). -/

namespace Sys2Proof.Machine

/-! ## PEERS -/

theorem tabGet_isSome_iff {α : Type} {t : Table α} {k : Nat} : (tabGet t k).isSome = true ↔ k ∈ tabKeys t := by
  induction t with
  | nil => simp [tabGet, tabKeys]
  | cons p r ih =>
    obtain ⟨j, w⟩ := p
    simp only [tabKeys, List.map_cons, List.mem_cons] at ih ⊢
    by_cases h : j = k
    · simp [tabGet, h]
    · simp [tabGet, h, ih, Ne.symm h]

/-- Peers lost one after the other. -/
def allLost (l : List Nat) (s : State) : State := l.foldl (fun t n => peerAbsent n t) s

theorem allLost_cons (n : Nat) (l : List Nat) (s : State) : allLost (n :: l) s = allLost l (peerAbsent n s) := rfl

theorem allPeersAbsent_eq (s : State) : allPeersAbsent s = allLost (tabKeys s.bu.peers) (setPeers [] s) := rfl

theorem lost_allLost (l : List Nat) (s : State) : Lost l s (allLost l s) := by
  induction l generalizing s with
  | nil => exact .of_eq rfl rfl rfl rfl rfl
  | cons n l ih => exact (lost_peerAbsent n s).trans (ih _)

theorem allLost_peers {l : List Nat} {s : State} (h : s.bu.peers = []) : (allLost l s).bu = s.bu := by
  induction l generalizing s with
  | nil => rfl
  | cons n l ih =>
    have he : (peerAbsent n s).bu = s.bu := by
      have ht : tabErase s.bu.peers n = s.bu.peers := by rw [h]; rfl
      rw [peerAbsent_peers, ht]
    rw [allLost_cons, ih (by rw [he, h]), he]

theorem allLost_strikes {l : List Nat} {n : Nat} (s : State) (hn : n ∈ l) :
    tabGet (allLost l s).ie.strikes n = none ∧ tabGet (allLost l s).ie.skips n = none := by
  have kept : ∀ (l : List Nat) (s : State), tabGet s.ie.strikes n = none ∧ tabGet s.ie.skips n = none →
      tabGet (allLost l s).ie.strikes n = none ∧ tabGet (allLost l s).ie.skips n = none := by
    intro l
    induction l with
    | nil => exact fun s h => h
    | cons m l ih =>
      intro s h
      obtain ⟨h1, h2⟩ := peerAbsent_strikes m n s
      exact ih _ ⟨by rw [h1, h.1, ite_self], by rw [h2, h.2, ite_self]⟩
  induction l generalizing s with
  | nil => simp at hn
  | cons m l ih =>
    by_cases hm : n = m
    · obtain ⟨h1, h2⟩ := peerAbsent_strikes m n s
      exact kept l _ ⟨by rw [h1, if_pos hm], by rw [h2, if_pos hm]⟩
    · exact ih _ ((List.mem_cons.1 hn).resolve_left hm)

/-- With the Peer Table empty no offer is made (R62). -/
theorem offerFill_noPeers {s : State} (h : s.bu.peers = []) : offerFill s = s := by
  have hel (i : Nat) (c : Client) : offerEligible s i c = false := by
    cases hb : c.best <;> simp [offerEligible, hb, isPresent, peerOf, h, tabGet]
  have hnone : s.rc.clients.find? (fun p => offerEligible s p.1 p.2) = none := by simp [hel]
  have hone : offerOne s = s := by rw [offerOne, hnone]
  have hloop (n : Nat) : offerLoop n s = s := by
    induction n with
    | zero => rfl
    | succ n ih => rw [offerLoop, hone, ih, ite_self]
  rw [offerFill, hloop, ite_self]

/-- With the Peer Table empty no fetch is issued (R145). -/
theorem issueFetches_noPeers {s : State} (h : s.bu.peers = []) : issueFetches s = s := by
  have hone : fetchOne s = s := by
    cases hd : s.ie.incDesc with
    | none => simp [fetchOne, hd]
    | some d =>
      refine fetchOne_idle hd (.inr ?_)
      have hn : nodes.filter (fetchEligible s d) = [] := by
        simp [List.filter_eq_nil_iff, fetchEligible, peerOf, h, tabGet]
      simp [fetchPeer, hn]
  have hloop (n : Nat) : fetchLoop n s = s := by
    induction n with
    | zero => rfl
    | succ n ih => rw [fetchLoop, hone, ih, ite_self]
  rw [issueFetches, hloop, ite_self]

/-- What is left when every peer has become ABSENT without further notice (R21). -/
theorem allPeersAbsent_lost (s : State) : Lost (tabKeys s.bu.peers) s (allPeersAbsent s) ∧
    (allPeersAbsent s).bu = { s.bu with peers := [] } := by
  have h : (setPeers [] s).bu = { s.bu with peers := [] } := rfl
  refine ⟨?_, ?_⟩
  · have h0 : Lost [] s (setPeers [] s) := .of_eq rfl rfl rfl rfl rfl
    exact h0.trans (lost_allLost (tabKeys s.bu.peers) (setPeers [] s))
  · rw [allPeersAbsent_eq, allLost_peers (by rw [h]), h]

/-- Whether a node is lost when every peer is. -/
def knownPeer (s : State) (n : Nat) : Bool := (peerOf s n).isSome

theorem knownPeer_iff {s : State} {n : Nat} : knownPeer s n = true ↔ n ∈ tabKeys s.bu.peers := tabGet_isSome_iff

/-- What the loss of every peer makes of an entry, in the words of R32 and R53. -/
theorem lostTo_allPeers (p : Params) (now : Nat) (s : State) (o : Client) :
    SameClient o (lostTo p now (tabKeys s.bu.peers) o) ∧
    (o.role = .remote ∨ o.role = .claiming ∨ o.role = .expecting → knownPeer s o.serving = true →
      (lostTo p now (tabKeys s.bu.peers) o).role = .orphan ∧ (lostTo p now (tabKeys s.bu.peers) o).serving = 0 ∧
      (lostTo p now (tabKeys s.bu.peers) o).timer = some (now + 60000000000) ∧
      (lostTo p now (tabKeys s.bu.peers) o).claimNo = none ∧
      (lostTo p now (tabKeys s.bu.peers) o).servingReading = none ∧ (lostTo p now (tabKeys s.bu.peers) o).better = 0) ∧
    (∀ n, o.role = .handing → o.claimant = some n → knownPeer s n = true →
      (lostTo p now (tabKeys s.bu.peers) o).role = .served ∧ (lostTo p now (tabKeys s.bu.peers) o).serving = o.serving ∧
      (lostTo p now (tabKeys s.bu.peers) o).timer = none ∧ (lostTo p now (tabKeys s.bu.peers) o).claimNo = none ∧
      (lostTo p now (tabKeys s.bu.peers) o).claimant = none ∧
      (lostTo p now (tabKeys s.bu.peers) o).verdict = o.verdict) ∧
    (o.role = .served ∨ o.role = .departed ∨ o.role = .orphan → SameRole o (lostTo p now (tabKeys s.bu.peers) o)) ∧
    (∀ b, o.best = some b → (lostTo p now (tabKeys s.bu.peers) o).best =
      if knownPeer s b.node = true then none else some b) := by
  refine ⟨sameClient_lostTo, fun hr hs => lostTo_elsewhere hr (knownPeer_iff.1 hs), fun n hr hc hn =>
    lostTo_handing hr hc (knownPeer_iff.1 hn), sameRole_lostTo, fun b hb => ?_⟩
  rw [lostTo_best, hb]
  by_cases hk : knownPeer s b.node = true
  · simp [hk, knownPeer_iff.1 hk]
  · have hn : b.node ∉ tabKeys s.bu.peers := fun h => hk (knownPeer_iff.2 h)
    simp [hk, hn]

theorem allPeersAbsent_failedBack (s : State) : FailedBack (fun n => knownPeer s n = true) s.ie (allPeersAbsent s).ie := by
  have h := (allPeersAbsent_lost s).1.fetches
  have hl : (fun n => knownPeer s n = true) = (· ∈ tabKeys s.bu.peers) := funext fun n => propext knownPeer_iff
  rw [hl]
  exact h

theorem FailedBack.fetches_bool {lost : Nat → Bool} {e x : Ie} (h : FailedBack (fun n => lost n = true) e x) :
    x.fetches = e.fetches.filter (fun f => !lost f.peer) := by
  rw [h.fetches]
  exact List.filter_congr fun f _ => by simp

theorem allPeersAbsent_strikes (s : State) {n : Nat} (h : knownPeer s n = true) :
    tabGet (allPeersAbsent s).ie.strikes n = none ∧ tabGet (allPeersAbsent s).ie.skips n = none :=
  allLost_strikes (setPeers [] s) (knownPeer_iff.1 h)

theorem resetPeers_eq {s : State} (hw : txWaits s = true) : resetPeers s = complete .ok [] (allPeersAbsent s) := by
  have hp : (allPeersAbsent s).bu.peers = [] := by rw [(allPeersAbsent_lost s).2]
  rw [resetPeers, offerFill_noPeers hp, issueFetches_noPeers hp, wake_waits (by simpa [txWaits] using hw)]

/-- A command that brings a BLOCK RESET (Table 10-3; assumption log 37). -/
theorem exec_blockReset {c : Instr} {x : Submit} (h : submitOf c = some (25, x)) (s : State) :
    exec c s = taken (submit 25 (lenIs 1) runBlockReset x) s := by
  unfold submitOf at h
  split at h <;> simp at h
  all_goals
    subst h
    rfl

/-! ## CLIENTS and FLOWS -/

/-- The Flow Table emptied (R80, R82). -/
theorem emptyFlows_fc (s : State) : (emptyFlows s).fc = { s.fc with
    flows := [], gameCount := 0, quietSince := if 0 < s.fc.gameCount then some s.now else s.fc.quietSince } := by
  simp [emptyFlows, dropGames, setClients]

theorem emptyFlows_rc (s : State) : (emptyFlows s).rc =
    { s.rc with clients := tabMap s.rc.clients (fun e => { e with games := 0 }) } := rfl

theorem acConditions_rc (s : State) : (acConditions s).rc = s.rc := by
  have hto (a : AcState) (h : s.ac.state ≠ .draining) : (acTo a s).rc = s.rc := by simp [acTo, acDraining, h]
  unfold acConditions
  split
  · split
    · exact hto _ (by simp [*])
    · rfl
  · split
    · rfl
    · exact hto _ (by simp [*])
  · rfl

/-- CLIENTS: every entry is freed, and the AC's drain, if one runs, ends (R43, R65, R163). -/
theorem resetClients_leaves (s : State) : (resetClients s).rc = { s.rc with clients := [], offers := [], lapsed := [] } ∧
    (resetClients s).fc = (emptyFlows s).fc ∧ (resetClients s).bu = s.bu ∧ (resetClients s).es = s.es ∧
    (resetClients s).su = s.su ∧ (resetClients s).ie = s.ie ∧ (resetClients s).flash = s.flash ∧
    (acDraining s = false → (resetClients s).ml =
      { s.ml with state := .done, outcome := some .ok, result := [], polled := false }) ∧
    (acDraining s = true → (resetClients s).ac.state = .leaving ∧ (resetClients s).ac.drainTimer = none ∧
      (resetClients s).ac.lapseTimer = some (s.now + 600000000000)) := by
  generalize hu : (emptyFlows s).setRc { (emptyFlows s).rc with clients := [], offers := [], lapsed := [] } = u
  have hr : resetClients s = complete .ok [] (acConditions (acDrained u)) := by rw [← hu]; rfl
  have hurc : u.rc = { s.rc with clients := [], offers := [], lapsed := [] } := by rw [← hu]; rfl
  have huf : u.fc = (emptyFlows s).fc ∧ u.bu = s.bu ∧ u.es = s.es ∧ u.su = s.su ∧ u.ie = s.ie ∧ u.flash = s.flash ∧
      u.ml = s.ml ∧ u.ac = s.ac ∧ u.now = s.now := by
    rw [← hu]
    simp
  obtain ⟨hfc, hbu, hes, hsu, hie, hfl, hml, hac, hnow⟩ := huf
  have hdr : acDraining u = acDraining s := by simp [acDraining, hac]
  have h0 : servedCount u = 0 := by simp [servedCount, hurc]
  rw [hr]
  refine ⟨?_, by simp [hfc], by simp [hbu], by simp [hes], by simp [hsu], by simp [hie], by simp [hfl], fun hd => ?_,
    fun hd => ?_⟩
  · have h1 : (acDrained u).rc = { s.rc with clients := [], offers := [], lapsed := [] } := by
      unfold acDrained
      split
      · rename_i h
        rw [enterLeaving_draining false (by simpa using (Bool.and_eq_true _ _ ▸ h).1)]
        simp [hurc]
      · exact hurc
    simp only [complete, State.setMl_rc, acConditions_rc, h1]
  · rw [acDrained_calm (.inl (hdr.trans hd))]
    simp [complete, hml]
  · have he : acDrained u = enterLeaving false u := by simp [acDrained, hdr, hd, h0]
    have hac : (acDrained u).ac = { s.ac with
        state := .leaving, drainTimer := none, lapseTimer := some (s.now + 600000000000) } := by
      rw [he, enterLeaving_draining false (hdr.trans hd)]
      simp [hac, hnow]
    have hcond : acConditions (acDrained u) = acDrained u := by simp [acConditions, hac]
    simp [complete, hcond, hac]

/-- FLOWS: the Flow Table is emptied, and the AC looks at its conditions (R82, R159). -/
theorem resetFlows_leaves (s : State) : (resetFlows s).fc = (emptyFlows s).fc ∧ (resetFlows s).rc = (emptyFlows s).rc ∧
    (resetFlows s).ml = { s.ml with state := .done, outcome := some .ok, result := [], polled := false } ∧
    (resetFlows s).bu = s.bu ∧ (resetFlows s).es = s.es ∧ (resetFlows s).su = s.su ∧ (resetFlows s).ie = s.ie ∧
    (resetFlows s).flash = s.flash := by
  refine ⟨by simp [resetFlows], ?_, by simp [resetFlows, complete], by simp [resetFlows], by simp [resetFlows],
    by simp [resetFlows], by simp [resetFlows], by simp [resetFlows]⟩
  show (acConditions (emptyFlows s)).rc = _
  rw [acConditions_rc]

/-! ## SCHEDULES -/

/-- An empty profile, whatever state it had (R135). -/
def isEmptied (x : Profile) : Prop := x.record = ProfileRecord.blank ∧ x.paused = false ∧ x.staged = none

theorem profileCause_emptied {x : Profile} (c : Clock) (h : isEmptied x) : profileCause c x = none := by
  obtain ⟨hr, hp, -⟩ := h
  simp [profileCause, hr, hp, ProfileRecord.blank, inWindowNow, inWindow]

/-- Evaluated, an empty profile is OPEN (R127). -/
theorem profileOf_evalProfile {p : Nat} {s : State} (h : isEmptied (profileOf s p)) :
    profileOf (evalProfile p s) p = Profile.blank := by
  have hc := profileCause_emptied s.su.clock h
  obtain ⟨hr, hp, hst⟩ := h
  have hb (x : Profile) (h1 : x.record = ProfileRecord.blank) (h2 : x.paused = false) (h3 : x.staged = none)
      (h4 : x.closed = none) : x = Profile.blank := by
    cases x
    simp_all [Profile.blank]
  unfold evalProfile
  simp only [hc]
  cases hx : (profileOf s p).closed with
  | none => exact hb _ hr hp hst hx
  | some k =>
    simp only [profileOf, putProfile, raise, reduceCtorEq, if_false, State.setMl_su, State.setSu_su, tabGet_tabSet_self,
      Option.getD_some]
    exact hb _ hr hp hst rfl

theorem profileOf_evalProfile_ne {p q : Nat} (s : State) (h : q ≠ p) :
    profileOf (evalProfile p s) q = profileOf s q := by
  have hput (x : Profile) : tabGet (putProfile p x s).su.profiles q = tabGet s.su.profiles q :=
    tabGet_tabSet_ne _ _ h
  unfold evalProfile
  dsimp only
  split
  · split
    · rfl
    · simp [profileOf, raise, hput]
  · split
    · rfl
    · simp [profileOf, raise, hput]
  · split
    · rfl
    · simp [profileOf, hput]

theorem profileOf_evalProfiles {s : State} (h : ∀ p, isEmptied (profileOf s p)) (p : Nat) :
    profileOf (evalProfiles s) p = if p < 16 then Profile.blank else profileOf s p := by
  have fold : ∀ (l : List Nat) (t : State), (∀ q, isEmptied (profileOf t q)) →
      profileOf (l.foldl (fun t q => evalProfile q t) t) p = if p ∈ l then Profile.blank else profileOf t p := by
    intro l
    induction l with
    | nil => simp
    | cons q l ih =>
      intro t ht
      have hstep : ∀ r, isEmptied (profileOf (evalProfile q t) r) := by
        intro r
        by_cases hr : r = q
        · subst hr
          rw [profileOf_evalProfile (ht r)]
          exact ⟨rfl, rfl, rfl⟩
        · rw [profileOf_evalProfile_ne t hr]
          exact ht r
      rw [List.foldl_cons, ih _ hstep]
      by_cases hp : p = q
      · subst hp
        rw [profileOf_evalProfile (ht p)]
        simp
      · rw [profileOf_evalProfile_ne t hp]
        simp [hp]
  rw [evalProfiles, fold _ s h]
  simp [Config.profiles]

/-- What an evaluation of the verdicts leaves of an entry (R129, R132). -/
structure SameAccount (e o : Client) : Prop where
  role : o.role = e.role
  profile : o.profile = e.profile
  used : o.used = e.used
  extra : o.extra = e.extra

/-- A served client whose profile is empty is ALLOWED (R129). -/
theorem evalVerdict_allowed {i : Nat} {c : Client} {s : State} (hc : clientAt s i = some c)
    (hp : profileOf s c.profile = Profile.blank) : ∃ o, clientAt (evalVerdict i s) i = some o ∧ SameAccount c o ∧
      (isServing c.role = true → o.verdict = some .allowed) := by
  have hb : blockCause s c = none := by
    simp [blockCause, hp, Profile.blank, ProfileRecord.blank, inWindowNow, inWindow, budgetSpent]
  have hmod : clientAt (modClient i (fun x => { x with verdict := some .allowed }) s) i =
      some { c with verdict := some .allowed } := by
    rw [clientAt_modClient_self, hc]
    rfl
  by_cases hs : isServing c.role = true
  · refine ⟨{ c with verdict := some .allowed }, ?_, ⟨rfl, rfl, rfl, rfl⟩, fun _ => rfl⟩
    simp only [evalVerdict, hc, hs, hb, if_true]
    split
    · exact hmod
    · exact hmod
  · refine ⟨c, ?_, ⟨rfl, rfl, rfl, rfl⟩, fun h => absurd h hs⟩
    simp only [evalVerdict, hc, hs]
    exact hc

theorem clientAt_evalVerdict_ne {i j : Nat} (s : State) (h : j ≠ i) : clientAt (evalVerdict i s) j = clientAt s j := by
  unfold evalVerdict
  split
  · split
    · split
      · split
        · rfl
        · rw [clientAt_raise, clientAt_removeFlowsOf_ne _ h, clientAt_modClient_ne _ _ h]
      · dsimp only
        split
        · rw [clientAt_raise, clientAt_modClient_ne _ _ h]
        · rw [clientAt_modClient_ne _ _ h]
    · rfl
  · rfl

/-- After the evaluation of every verdict a served client of an empty profile is ALLOWED (R129, R135). -/
theorem evalVerdicts_allowed {i : Nat} {c : Client} {s : State} (hc : clientAt s i = some c)
    (hp : profileOf s c.profile = Profile.blank) : ∃ o, clientAt (evalVerdicts s) i = some o ∧ SameAccount c o ∧
      (isServing c.role = true → o.verdict = some .allowed) := by
  have fold : ∀ (l : List Nat) (t : State) (e : Client), t.su = s.su → clientAt t i = some e → SameAccount c e →
      ∃ o, clientAt (l.foldl (fun t i => evalVerdict i t) t) i = some o ∧ SameAccount c o ∧
        (i ∈ l ∨ e.verdict = some .allowed → isServing c.role = true → o.verdict = some .allowed) := by
    intro l
    induction l with
    | nil => exact fun t e _ he hsame => ⟨e, he, hsame, fun h _ => h.resolve_left (by simp)⟩
    | cons j l ih =>
      intro t e ht he hsame
      have htj : (evalVerdict j t).su = s.su := by simpa using ht
      by_cases hj : i = j
      · subst hj
        have hpe : profileOf t e.profile = Profile.blank := by
          rw [profileOf, ht, hsame.profile]
          exact hp
        obtain ⟨o, ho, hso, hv⟩ := evalVerdict_allowed he hpe
        have hco : SameAccount c o := ⟨hso.role.trans hsame.role, hso.profile.trans hsame.profile,
          hso.used.trans hsame.used, hso.extra.trans hsame.extra⟩
        obtain ⟨r, hr, hsr, hvr⟩ := ih _ o htj ho hco
        exact ⟨r, hr, hsr, fun _ hs => hvr (.inr (hv (by rw [hsame.role]; exact hs))) hs⟩
      · obtain ⟨r, hr, hsr, hvr⟩ := ih _ e htj ((clientAt_evalVerdict_ne t hj).trans he) hsame
        exact ⟨r, hr, hsr, fun h => hvr (h.imp_left fun h => (List.mem_cons.1 h).resolve_left hj)⟩
  obtain ⟨o, ho, hso, hv⟩ := fold (tabKeys s.rc.clients) s c rfl hc ⟨rfl, rfl, rfl, rfl⟩
  exact ⟨o, ho, hso, hv (.inl (List.mem_map.2 ⟨_, mem_of_tabGet hc, rfl⟩))⟩

/-- Verdicts touch flows and their counts; rules and arrivals stay (R76, R132). -/
theorem evalVerdicts_fc (s : State) : (evalVerdicts s).fc.rules = s.fc.rules ∧
    (evalVerdicts s).fc.arrivals = s.fc.arrivals := by
  have one (i : Nat) (t : State) : (evalVerdict i t).fc.rules = t.fc.rules ∧
      (evalVerdict i t).fc.arrivals = t.fc.arrivals := by
    unfold evalVerdict
    split
    · split
      · split
        · split
          · exact ⟨rfl, rfl⟩
          · simp [removeFlowsOf, dropGames]
        · dsimp only
          split <;> simp
      · exact ⟨rfl, rfl⟩
    · exact ⟨rfl, rfl⟩
  exact ⟨forClients_keeps (fun t : State => t.fc.rules) _ (fun i t => (one i t).1) s,
    forClients_keeps (fun t : State => t.fc.arrivals) _ (fun i t => (one i t).2) s⟩

theorem profileOf_evalMaintenance (s : State) (p : Nat) : profileOf (evalMaintenance s) p = profileOf s p := rfl

/-- SCHEDULES: every profile is empty, and nobody served is BLOCKED by one (R135). -/
theorem resetSchedules_leaves (s : State) : (∀ p, p < 16 → profileOf (resetSchedules s) p = Profile.blank) ∧
    (resetSchedules s).su.maintenance = false ∧ (resetSchedules s).su.clock = s.su.clock ∧
    (resetSchedules s).fc.rules = s.fc.rules ∧ (resetSchedules s).fc.arrivals = s.fc.arrivals ∧
    (resetSchedules s).bu = s.bu ∧ (resetSchedules s).es = s.es ∧ (resetSchedules s).ie = s.ie ∧
    (∀ i e, clientAt s i = some e → e.profile < 16 → ∃ o, clientAt (resetSchedules s) i = some o ∧ SameAccount e o ∧
      (isServing e.role = true → o.verdict = some .allowed)) := by
  generalize ha : s.setSu { s.su with profiles := tabMap s.su.profiles emptied } = a
  generalize hb : evalMaintenance (evalProfiles a) = b
  have hr : resetSchedules s = complete .ok [] (acConditions (evalVerdicts b)) := by rw [← hb, ← ha]; rfl
  have hemptied (p : Nat) : isEmptied (profileOf a p) := by
    rw [← ha, profileOf, State.setSu_su, tabGet_tabMap]
    cases tabGet s.su.profiles p with
    | none => exact ⟨rfl, rfl, rfl⟩
    | some x => exact ⟨rfl, rfl, rfl⟩
  have hprof (p : Nat) (hp : p < 16) : profileOf b p = Profile.blank := by
    have := profileOf_evalProfiles hemptied p
    rw [if_pos hp] at this
    rw [← hb, profileOf_evalMaintenance, this]
  have hbf : b.su.clock = s.su.clock ∧ b.fc = s.fc ∧ b.bu = s.bu ∧ b.es = s.es ∧ b.ie = s.ie ∧ b.rc = s.rc := by
    rw [← hb, ← ha]
    simp
  obtain ⟨hclk, hfc, hbu, hes, hie, hrc⟩ := hbf
  have hsu : (resetSchedules s).su = b.su := by rw [hr]; simp
  have hcl : (resetSchedules s).rc.clients = (evalVerdicts b).rc.clients := by rw [hr]; simp
  have hv := evalVerdicts_fc b
  refine ⟨fun p hp => ?_, ?_, by rw [hsu, hclk], ?_, ?_, ?_, ?_, ?_, fun i e he hp => ?_⟩
  · rw [profileOf, hsu]
    exact hprof p hp
  · rw [hsu, ← hb, evalMaintenance, State.setSu_su]
    have h0 := profileOf_evalProfiles hemptied 0
    rw [if_pos (by decide)] at h0
    simp [h0, Profile.blank, ProfileRecord.blank, inWindowNow, inWindow]
  · rw [hr]
    simp [hv.1, hfc]
  · rw [hr]
    simp [hv.2, hfc]
  · rw [hr]
    simp [hbu]
  · rw [hr]
    simp [hes]
  · rw [hr]
    simp [hie]
  · have hbe : clientAt b i = some e := by rw [clientAt, hrc]; exact he
    obtain ⟨o, ho, hso⟩ := evalVerdicts_allowed hbe (hprof _ hp)
    exact ⟨o, by rw [clientAt, hcl]; exact ho, hso⟩

end Sys2Proof.Machine
end
section
/-! SUPPORT. BLOCK RESET with target IMAGE, and the targets together (R156, R158, R176). -/

namespace Sys2Proof.Machine

/-! ## IMAGE -/

/-- With no image due, and outside a swap, the AC settles in IDLE (R158). -/
theorem acDue_idles {s : State} (hd : imageDue s = false) (h1 : s.ac.state ≠ .swapping) (h2 : s.ac.state ≠ .swapped) :
    (acDue s).ac.state = .idle := by
  have hidle : (acToIdle s).ac.state = .idle := by simp [acToIdle, acStopTimers, acTo_ac]
  unfold acDue
  split
  · rw [hd]
    simpa
  · rw [hd]
    exact hidle
  · rw [hd]
    exact hidle
  · rw [hd]
    exact hidle
  · rw [hd]
    exact hidle
  · exact absurd ‹_› h1
  · exact absurd ‹_› h2

theorem acSettle_acDue {s : State} (hd : imageDue s = false) (h1 : s.ac.state ≠ .swapping) (h2 : s.ac.state ≠ .swapped) :
    acSettle s = acDue s := by
  have hdue := acDue_idles hd h1 h2
  have hcond : acConditions (acDue s) = acDue s := by simp [acConditions, hdue]
  have hdr : acDraining (acDue s) = false := by simp [acDraining, hdue]
  rw [acSettle, hcond, acDrained_calm (.inl hdr), offerFill_idle hdr]

theorem acSettle_idles {s : State} (hd : imageDue s = false) (h1 : s.ac.state ≠ .swapping) (h2 : s.ac.state ≠ .swapped) :
    (acSettle s).ac.state = .idle ∧ (acSettle s).bu = s.bu ∧ (acSettle s).ml = s.ml ∧ (acSettle s).ie = s.ie := by
  rw [acSettle_acDue hd h1 h2]
  exact ⟨acDue_idles hd h1 h2, by simp, by simp, by simp⟩

theorem imageDue_notReady {s : State} (h : s.ie.inc ≠ .ready) : imageDue s = false := by simp [imageDue, incReady, h]

/-- With no serve read waiting none waits after flash work has started. -/
theorem startFlash_serves {s : State} (h : s.ie.serves = []) : (startFlash s).ie.serves = [] := by
  have hs : servableFrom s s.ie.serves = [] := by rw [h]; rfl
  unfold startFlash
  split
  · exact h
  · split
    · exact h
    · split
      · exact h
      · split
        · exact h
        · split
          · rename_i hq
            rw [hs] at hq
            cases hq
          · (repeat' split) <;> rfl

theorem beginErase_ml_other {a : After} {s : State} (h : s.ml.code ≠ 11) : (beginErase a s).ml = s.ml := by
  simp only [beginErase]
  split
  · rw [completePending_eq]
    simp [setIe, h]
  · rfl

theorem beginErase_kept (a : After) (s : State) : (beginErase a s).ie.fault = s.ie.fault ∧
    (beginErase a s).ie.activeSlot = s.ie.activeSlot ∧
    (s.ie.serves = [] → (beginErase a s).ie.serves = []) := by
  simp only [beginErase]
  split
  · simp only [completePending_frame, setIe, State.setIe_ie, true_and]
    intro h
    simp [h]
  · simp only [setIe, State.setIe_ie, true_and]
    intro h
    simp [h]

/-- The slot on its way to EMPTY, by the state it is in (R156). -/
def emptying (s : State) : State :=
  match s.ie.inc with
  | .empty => complete .ok [] s
  | .erasing => setIe s (fun e => { e with after := .nothing, conflictInc := false })
  | .filling | .checking | .ready | .rejected => beginErase .nothing s

theorem bringToEmpty_eq (s : State) : bringToEmpty s = acSettle (emptying s) := by
  unfold bringToEmpty emptying
  cases s.ie.inc <;> rfl

/-- An erase of the incoming slot, begun or under way, or an EMPTY slot: the three ends of a slot on its way to EMPTY. -/
theorem emptying_leaves {s : State} (hf : s.ie.fetches = []) (hv : s.ie.serves = []) (hc : s.ml.code ≠ 11) :
    (emptying s).ie.fetches = [] ∧ (emptying s).ie.serves = [] ∧ (emptying s).ie.strikes = s.ie.strikes ∧
    (emptying s).ie.skips = s.ie.skips ∧ (emptying s).ie.fault = s.ie.fault ∧
    (emptying s).ie.activeSlot = s.ie.activeSlot ∧
    (emptying s).ie.after = (if s.ie.inc = .empty then s.ie.after else .nothing) ∧
    (emptying s).ac = s.ac ∧ (emptying s).bu = s.bu ∧ (emptying s).flash = s.flash ∧ (emptying s).es = s.es ∧
    (s.ie.inc = .empty → (emptying s).ie.inc = .empty ∧
      (emptying s).ml = { s.ml with state := .done, outcome := some .ok, result := [], polled := false }) ∧
    (s.ie.inc ≠ .empty → (emptying s).ie.inc = .erasing ∧ (emptying s).ml = s.ml) := by
  have erased (hi : s.ie.inc ≠ .empty) (hx : emptying s = beginErase .nothing s) :
      (emptying s).ie.fetches = [] ∧ (emptying s).ie.serves = [] ∧ (emptying s).ie.strikes = s.ie.strikes ∧
      (emptying s).ie.skips = s.ie.skips ∧ (emptying s).ie.fault = s.ie.fault ∧
      (emptying s).ie.activeSlot = s.ie.activeSlot ∧
      (emptying s).ie.after = (if s.ie.inc = .empty then s.ie.after else .nothing) ∧
      (emptying s).ac = s.ac ∧ (emptying s).bu = s.bu ∧ (emptying s).flash = s.flash ∧ (emptying s).es = s.es ∧
      (s.ie.inc = .empty → (emptying s).ie.inc = .empty ∧
        (emptying s).ml = { s.ml with state := .done, outcome := some .ok, result := [], polled := false }) ∧
      (s.ie.inc ≠ .empty → (emptying s).ie.inc = .erasing ∧ (emptying s).ml = s.ml) := by
    obtain ⟨h1, -, h3, -, h5, -, -, -, -, -, h11, h12⟩ := beginErase_ie .nothing s
    obtain ⟨k1, k2, k3⟩ := beginErase_kept .nothing s
    rw [hx, if_neg hi]
    exact ⟨h5, k3 hv, h11, h12, k1, k2, h3, by simp, by simp, by simp, by simp, fun h => absurd h hi,
      fun _ => ⟨h1, beginErase_ml_other hc⟩⟩
  cases hi : s.ie.inc with
  | empty =>
    have hx : emptying s = complete .ok [] s := by simp [emptying, hi]
    rw [hx]
    simp [hf, hv, hi, complete]
  | erasing =>
    have hx : emptying s = setIe s (fun e => { e with after := .nothing, conflictInc := false }) := by simp [emptying, hi]
    rw [hx]
    simp [hf, hv, hi, setIe]
  | filling => exact hi ▸ erased (by simp [hi]) (by simp [emptying, hi])
  | checking => exact hi ▸ erased (by simp [hi]) (by simp [emptying, hi])
  | ready => exact hi ▸ erased (by simp [hi]) (by simp [emptying, hi])
  | rejected => exact hi ▸ erased (by simp [hi]) (by simp [emptying, hi])

/-- The fetch list and the serve queue emptied at once (R156). -/
def unlisted (s : State) : State := setIe s (fun e => { emptyFetches e with serves := [] })

theorem unlisted_ie (s : State) : (unlisted s).ie =
    { s.ie with fetches := [], serves := [], presence := (emptyFetches s.ie).presence } := by
  simp only [unlisted, setIe, State.setIe_ie]
  rw [emptyFetches_eq]

theorem emptyFetches_presence (e : Ie) (j : Nat) :
    (tabGet e.presence j = some .requested → (∃ f ∈ e.fetches, inRun f j ∧ j ∉ f.received) →
      tabGet (emptyFetches e).presence j = none) ∧
    (tabGet e.presence j ≠ some .requested ∨ (∀ f ∈ e.fetches, inRun f j → j ∈ f.received) →
      tabGet (emptyFetches e).presence j = tabGet e.presence j) := by
  have h := foldl_failFetch_presence e.fetches e j
  refine ⟨fun hr hf => h.trans (if_pos ⟨hr, hf⟩), fun hn => h.trans (if_neg ?_)⟩
  rintro ⟨hr, f, hf, hrun, hrec⟩
  rcases hn with hn | hn
  · exact hn hr
  · exact hrec (hn f hf hrun)

theorem eraseWaits_iff (e : Ie) : eraseWaits e = true ↔
    e.inc ≠ .empty ∧ e.inc ≠ .erasing ∧ ∃ sl pos p b, e.op = some (.chunk sl pos p b) := by
  unfold eraseWaits
  split
  · simp [*]
  · simp [*]
  · rename_i sl pos p b ho h1 h2
    exact iff_of_true rfl ⟨h1, h2, sl, pos, p, b, ho⟩
  · rename_i h1 h2 h3
    simp only [Bool.false_eq_true, false_iff]
    rintro ⟨he, hr, sl, pos, p, b, ho⟩
    exact h3 sl pos p b ho

theorem resetImage_swap {s : State} (h : s.ac.state = .swapping ∨ s.ac.state = .swapped) :
    resetImage s = complete .wrongState [] s := if_pos h

theorem resetImage_eq {s : State} (h1 : s.ac.state ≠ .swapping) (h2 : s.ac.state ≠ .swapped) : resetImage s =
    if eraseWaits s.ie then setIe (unlisted s) (fun e => { e with resetWaits := true })
    else startFlash (bringToEmpty (unlisted s)) := by
  have hw : eraseWaits (unlisted s).ie = eraseWaits s.ie := by
    rw [unlisted_ie]
    rfl
  rw [← hw]
  exact if_neg (by simp [h1, h2])

/-- IMAGE with no program sequence to wait for: the slot is EMPTY or on its way there, the AC IDLE (R156, R158). -/
theorem resetImage_leaves {s : State} (h1 : s.ac.state ≠ .swapping) (h2 : s.ac.state ≠ .swapped)
    (hw : eraseWaits s.ie = false) (hc : s.ml.code ≠ 11) :
    (resetImage s).ie.fetches = [] ∧ (resetImage s).ie.serves = [] ∧ (resetImage s).ac.state = .idle ∧
    (resetImage s).flash = s.flash ∧ (resetImage s).es = s.es ∧ (resetImage s).bu = s.bu ∧
    (resetImage s).ie.strikes = s.ie.strikes ∧ (resetImage s).ie.skips = s.ie.skips ∧
    (resetImage s).ie.fault = s.ie.fault ∧ (resetImage s).ie.activeSlot = s.ie.activeSlot ∧
    (resetImage s).ie.after = (if s.ie.inc = .empty then s.ie.after else .nothing) ∧
    (s.ie.inc = .empty → (resetImage s).ie.inc = .empty ∧
      (resetImage s).ml = { s.ml with state := .done, outcome := some .ok, result := [], polled := false }) ∧
    (s.ie.inc ≠ .empty → (resetImage s).ie.inc = .erasing ∧ (resetImage s).ml = s.ml) := by
  have hu := unlisted_ie s
  obtain ⟨hf, hv, hst, hsk, hfa, has, haf, hac, hbu, hfl, hes, hem, her⟩ := emptying_leaves (s := unlisted s)
    (by rw [hu]) (by rw [hu]) hc
  have hinc : (unlisted s).ie.inc = s.ie.inc := by rw [hu]
  have hml : (unlisted s).ml = s.ml := rfl
  rw [hinc] at hem her haf
  rw [hml] at hem her
  have hnr : (emptying (unlisted s)).ie.inc ≠ .ready := by
    by_cases he : s.ie.inc = .empty
    · simp [(hem he).1]
    · simp [(her he).1]
  have hacs : (emptying (unlisted s)).ac = s.ac := hac
  obtain ⟨hidle, hsbu, hsml, hsie⟩ := acSettle_idles (imageDue_notReady hnr) (by rw [hacs]; exact h1) (by rw [hacs]; exact h2)
  rw [resetImage_eq h1 h2, hw, if_neg (by simp), bringToEmpty_eq]
  refine ⟨?_, startFlash_serves (by rw [hsie, hv]), by simpa using hidle, ?_, ?_, ?_, ?_, ?_, ?_, ?_, ?_, fun he => ⟨?_, ?_⟩,
    fun he => ⟨?_, ?_⟩⟩
  · rw [startFlash_ie, hsie]
    exact hf
  · simpa [unlisted, setIe] using hfl
  · simpa [unlisted, setIe] using hes
  · rw [startFlash_frame _ |>.1, hsbu]
    exact hbu
  · rw [startFlash_ie, hsie]
    exact hst.trans (by rw [hu])
  · rw [startFlash_ie, hsie]
    exact hsk.trans (by rw [hu])
  · rw [startFlash_ie, hsie]
    exact hfa.trans (by rw [hu])
  · rw [startFlash_ie, hsie]
    exact has.trans (by rw [hu])
  · rw [startFlash_ie, hsie]
    exact haf.trans (by rw [hu])
  · rw [startFlash_ie, hsie]
    exact (hem he).1
  · simpa [hsml] using (hem he).2
  · rw [startFlash_ie, hsie]
    exact (her he).1
  · simpa [hsml] using (her he).2

/-! ## The targets together -/

section
variable {c : Instr} {x : Submit} {s : State}

/-- A BLOCK RESET that passes its checks is carried out in the part with its request PENDING (R172, R176). -/
theorem exec_blockReset_taken (h : submitOf c = some (25, x)) (ht : requestTaken (lenIs 1) x s) :
    exec c s = .next (runBlockReset (submitArgs x) (s.setMl (mlPending 25 x s))) :=
  (exec_blockReset h s).trans (taken_submit ht)

theorem runBlockReset_bad {d : List Byte} (h : field 0 1 d = 0 ∨ 7 < field 0 1 d) :
    runBlockReset d s = complete .badField [] s := by
  rcases h with h | h
  · simp only [runBlockReset, h]
  · obtain ⟨k, hk⟩ : ∃ k, field 0 1 d = k + 8 := ⟨field 0 1 d - 8, by omega⟩
    simp only [runBlockReset, hk]

end

end Sys2Proof.Machine
end
section
/-! SUPPORT. What the backhaul transmitter sends does not change what a BLOCK RESET does (R106, R176). -/

namespace Sys2Proof.Machine

/-- The state in which the backhaul transmitter sends this frame, or nothing. -/
def sending (o : Option TxFrame) (s : State) : State := s.setEs { s.es with backhaulTx := o }

section
variable {o : Option TxFrame}

/-! ## A list of steps, each of which leaves the transmitter out of account -/

theorem foldl_sending {α : Type} {f : State → α → State} (h : ∀ s a, f (sending o s) a = sending o (f s a)) (l : List α)
    (s : State) : l.foldl f (sending o s) = sending o (l.foldl f s) := by
  induction l generalizing s with
  | nil => rfl
  | cons a l ih => rw [List.foldl_cons, List.foldl_cons, h, ih]

theorem forClients_sending {f : Nat → State → State} (h : ∀ i s, f i (sending o s) = sending o (f i s)) (s : State) :
    forClients f (sending o s) = sending o (forClients f s) := foldl_sending (fun s i => h i s) _ s

/-! ## The Client Table and the Peer Table -/

theorem modClient_sending (i : Nat) (f : Client → Client) (s : State) :
    modClient i f (sending o s) = sending o (modClient i f s) := by
  unfold modClient
  have h : clientAt (sending o s) i = clientAt s i := rfl
  rw [h]
  split <;> rfl

theorem toRole_sending (i : Nat) (r : Role) (f : Client → Client) (s : State) :
    toRole i r f (sending o s) = sending o (toRole i r f s) := by
  unfold toRole
  dsimp only
  have h : modClient i (fun c => f (changeRole (sending o s).sl.params (sending o s).now r c)) (sending o s) =
      sending o (modClient i (fun c => f (changeRole s.sl.params s.now r c)) s) := modClient_sending ..
  rw [h]
  split <;> rfl

theorem orphanOne_sending (n i : Nat) (s : State) : orphanOne n i (sending o s) = sending o (orphanOne n i s) := by
  unfold orphanOne
  have h : clientAt (sending o s) i = clientAt s i := rfl
  rw [h]
  split
  · split
    · rw [toRole_sending]
      rfl
    · rfl
  · rfl

theorem handBackOne_sending (n i : Nat) (s : State) : handBackOne n i (sending o s) = sending o (handBackOne n i s) := by
  unfold handBackOne
  have h : clientAt (sending o s) i = clientAt s i := rfl
  rw [h]
  split
  · split
    · rw [toRole_sending]
      rfl
    · rfl
  · rfl

theorem peerAbsent_sending (n : Nat) (s : State) : peerAbsent n (sending o s) = sending o (peerAbsent n s) := by
  have h (t : State) : forClients (handBackOne n) (forClients (orphanOne n) (sending o t)) =
      sending o (forClients (handBackOne n) (forClients (orphanOne n) t)) := by
    rw [forClients_sending (orphanOne_sending n), forClients_sending (handBackOne_sending n)]
  have hp : setPeers (tabErase s.bu.peers n) (sending o s) = sending o (setPeers (tabErase s.bu.peers n) s) := rfl
  unfold peerAbsent losePeer loseClients
  dsimp only
  rw [show (sending o s).bu = s.bu from rfl, hp, h]
  rfl

theorem allPeersAbsent_sending (s : State) : allPeersAbsent (sending o s) = sending o (allPeersAbsent s) :=
  foldl_sending (f := fun t n => peerAbsent n t) (fun s n => peerAbsent_sending n s) _ (setPeers [] s)

/-! ## The AC -/

theorem acTo_sending (a : AcState) (s : State) : acTo a (sending o s) = sending o (acTo a s) := by
  unfold acTo
  have h : acDraining (sending o s) = acDraining s := rfl
  rw [h]
  dsimp only
  split <;> rfl

theorem acDue_sending (s : State) : acDue (sending o s) = sending o (acDue s) := by
  have hd : imageDue (sending o s) = imageDue s := rfl
  have hi : acToIdle (sending o s) = sending o (acToIdle s) := by
    rw [acToIdle, acTo_sending]
    rfl
  unfold acDue
  rw [hd, hi, acTo_sending, show (sending o s).ac.state = s.ac.state from rfl]
  (repeat' split) <;> rfl

theorem acConditions_sending (s : State) : acConditions (sending o s) = sending o (acConditions s) := by
  have h : activationOk (sending o s) = activationOk s := rfl
  unfold acConditions
  rw [show (sending o s).ac.state = s.ac.state from rfl, h, acTo_sending, acTo_sending]
  (repeat' split) <;> rfl

theorem acDrained_sending (s : State) : acDrained (sending o s) = sending o (acDrained s) := by
  have h : enterLeaving false (sending o s) = sending o (enterLeaving false s) := by
    rw [enterLeaving, acTo_sending]
    rfl
  have hc : (acDraining (sending o s) && servedCount (sending o s) == 0) = (acDraining s && servedCount s == 0) := rfl
  unfold acDrained
  rw [h, hc]
  split <;> rfl

/-! ## Schedules and verdicts -/

theorem evalProfile_sending (p : Nat) (s : State) : evalProfile p (sending o s) = sending o (evalProfile p s) := by
  unfold evalProfile
  rw [show (sending o s).su = s.su from rfl, show profileOf (sending o s) p = profileOf s p from rfl]
  dsimp only
  (repeat' split) <;> rfl

theorem removeFlowsOf_sending (i : Nat) (s : State) : removeFlowsOf i (sending o s) = sending o (removeFlowsOf i s) :=
  modClient_sending i _ (s.setFc _)

theorem evalVerdict_sending (i : Nat) (s : State) : evalVerdict i (sending o s) = sending o (evalVerdict i s) := by
  have hb (c : Client) : blockCause (sending o s) c = blockCause s c := rfl
  unfold evalVerdict
  rw [show clientAt (sending o s) i = clientAt s i from rfl]
  split
  · rw [hb]
    split
    · split
      · split
        · rfl
        · rw [modClient_sending, removeFlowsOf_sending]
          rfl
      · dsimp only
        rw [modClient_sending]
        split <;> rfl
    · rfl
  · rfl

theorem evalSchedules_sending (s : State) : evalVerdicts (evalMaintenance (evalProfiles (sending o s))) =
    sending o (evalVerdicts (evalMaintenance (evalProfiles s))) := by
  have hp : evalProfiles (sending o s) = sending o (evalProfiles s) := foldl_sending (fun s p => evalProfile_sending p s) _ s
  have hm (t : State) : evalMaintenance (sending o t) = sending o (evalMaintenance t) := rfl
  rw [hp, hm]
  exact forClients_sending evalVerdict_sending _

/-! ## The incoming slot -/

theorem startFlash_sending (s : State) : startFlash (sending o s) = sending o (startFlash s) := by
  have hs (l : List Serve) : servableFrom (sending o s) l = servableFrom s l := by
    induction l with
    | nil => rfl
    | cons e l ih =>
      rw [servableFrom, servableFrom, ih]
      rfl
  unfold startFlash
  rw [show nextHeader (sending o s) = nextHeader s from rfl, show nextProg (sending o s) = nextProg s from rfl,
    show (sending o s).ie = s.ie from rfl, show nextErase (sending o s) = nextErase s from rfl, hs]
  (repeat' split) <;> rfl

theorem setIe_sending (f : Ie → Ie) (s : State) : setIe (sending o s) f = sending o (setIe s f) := rfl

theorem completePending_sending (k : Nat) (r : ReqOutcome) (d : List Byte) (s : State) :
    completePending k r d (sending o s) = sending o (completePending k r d s) := by
  unfold completePending
  rw [show (sending o s).ml = s.ml from rfl]
  split <;> rfl

theorem emptying_sending (s : State) : emptying (sending o s) = sending o (emptying s) := by
  have hb : beginErase .nothing (sending o s) = sending o (beginErase .nothing s) := by
    unfold beginErase
    dsimp only
    rw [show (sending o s).ie = s.ie from rfl]
    split
    · rw [setIe_sending, completePending_sending]
      rfl
    · rfl
  unfold emptying
  rw [hb, show (sending o s).ie = s.ie from rfl]
  split <;> rfl

theorem emptying_ac (s : State) : (emptying s).ac = s.ac ∧ (emptying s).ie.inc ≠ .ready := by
  have erased : (beginErase .nothing s).ac = s.ac ∧ (beginErase .nothing s).ie.inc ≠ .ready := by
    refine ⟨by simp, ?_⟩
    rw [(beginErase_ie .nothing s).1]
    exact nofun
  unfold emptying
  split
  · simp [complete, *]
  · simp [setIe, *]
  · exact erased
  · exact erased
  · exact erased
  · exact erased

/-- With no image due after the slot is on its way to EMPTY, the AC has only to become IDLE (R158). -/
theorem resetImage_settled {s : State} (h1 : s.ac.state ≠ .swapping) (h2 : s.ac.state ≠ .swapped) : resetImage s =
    if eraseWaits s.ie then setIe (unlisted s) (fun e => { e with resetWaits := true })
    else startFlash (acDue (emptying (unlisted s))) := by
  obtain ⟨ha, hr⟩ := emptying_ac (unlisted s)
  rw [resetImage_eq h1 h2, bringToEmpty_eq, acSettle_acDue (imageDue_notReady hr) (by rw [ha]; exact h1)
    (by rw [ha]; exact h2)]

theorem resetImage_sending (s : State) : resetImage (sending o s) = sending o (resetImage s) := by
  by_cases h : s.ac.state = .swapping ∨ s.ac.state = .swapped
  · rw [resetImage_swap h, resetImage_swap (s := sending o s) h]
    rfl
  · obtain ⟨h1, h2⟩ := not_or.1 h
    have hu : unlisted (sending o s) = sending o (unlisted s) := rfl
    rw [resetImage_settled h1 h2, resetImage_settled (s := sending o s) h1 h2, hu, emptying_sending, acDue_sending,
      startFlash_sending, show (sending o s).ie = s.ie from rfl]
    split <;> rfl

theorem resetImage_bu (s : State) : (resetImage s).bu = s.bu := by
  by_cases h : s.ac.state = .swapping ∨ s.ac.state = .swapped
  · rw [resetImage_swap h]
    rfl
  · obtain ⟨h1, h2⟩ := not_or.1 h
    have he : (emptying (unlisted s)).bu = s.bu := by
      unfold emptying
      split <;> simp [complete, setIe, unlisted]
    rw [resetImage_settled h1 h2]
    split
    · rfl
    · simp [he]

/-! ## The targets -/

theorem complete_sending (r : ReqOutcome) (d : List Byte) (s : State) :
    complete r d (sending o s) = sending o (complete r d s) := rfl

/-- With every peer ABSENT no offer and no fetch can begin, so that PEERS ends where it stands (R21). -/
theorem resetPeers_still {s : State} (h : wake (allPeersAbsent s) = allPeersAbsent s) :
    resetPeers s = complete .ok [] (allPeersAbsent s) := by
  have hp : (allPeersAbsent s).bu.peers = [] := by rw [(allPeersAbsent_lost s).2]
  rw [resetPeers, offerFill_noPeers hp, issueFetches_noPeers hp, h]

/-- Nothing waits that a READY transmitter could take (R107, R109). -/
structure NothingToTake (s : State) : Prop where
  control : s.bu.control = []
  classes : ∀ c, classFound s.es c = false

theorem wake_nothing {s : State} (h : NothingToTake s) : wake s = s := by
  by_cases hr : backhaulReady s = true
  · exact wake_idle hr h.control (chooseClass_none h.classes)
  · simp [wake, hr]

theorem NothingToTake.of_eq {s t : State} (h : NothingToTake s) (hb : t.bu.control = s.bu.control) (he : t.es = s.es) :
    NothingToTake t := ⟨hb.trans h.control, fun c => he ▸ h.classes c⟩

theorem NothingToTake.sending {s : State} (h : NothingToTake s) : NothingToTake (sending o s) :=
  ⟨h.control, fun c => (classFound_backhaulTx s.es o c).trans (h.classes c)⟩

theorem resetPeers_nothing {s : State} (h : NothingToTake s) : resetPeers s = complete .ok [] (allPeersAbsent s) :=
  resetPeers_still (wake_nothing (h.of_eq (by rw [(allPeersAbsent_lost s).2]) (by simp)))

theorem runBlockReset_nothing (d : List Byte) {s : State} (h : NothingToTake s) : NothingToTake (runBlockReset d s) := by
  have kept {t : State} (hb : t.bu = s.bu) (he : t.es = s.es) : NothingToTake t := h.of_eq (by rw [hb]) he
  unfold runBlockReset
  split
  · rw [resetPeers_nothing h]
    exact h.of_eq (by simp [complete, (allPeersAbsent_lost s).2]) (by simp [complete])
  · exact kept (by simp) (by simp)
  · exact kept (by simp) (by simp)
  · refine ⟨h.control, fun c => classFound_eq_false.2 (.inr ?_)⟩
    cases c <;> exact Int.le_refl 0
  · exact kept (by simp) (by simp)
  · exact kept (resetImage_bu s) (by simp)
  · exact kept (by simp) (by simp)
  · exact kept rfl rfl

theorem runBlockReset_sending (d : List Byte) {s : State} (h : NothingToTake s) :
    runBlockReset d (sending o s) = sending o (runBlockReset d s) := by
  have hpeers : resetPeers (sending o s) = sending o (resetPeers s) := by
    rw [resetPeers_nothing h, resetPeers_nothing h.sending, allPeersAbsent_sending]
    rfl
  have hclients : resetClients (sending o s) = sending o (resetClients s) := by
    unfold resetClients
    dsimp only
    have (t : State) : complete .ok [] (acConditions (acDrained (sending o t))) =
      sending o (complete .ok [] (acConditions (acDrained t))) := by
      rw [acDrained_sending, acConditions_sending]
      rfl
    exact this ((emptyFlows s).setRc { (emptyFlows s).rc with clients := [], offers := [], lapsed := [] })
  have hflows : resetFlows (sending o s) = sending o (resetFlows s) := by
    unfold resetFlows
    rw [show emptyFlows (sending o s) = sending o (emptyFlows s) from rfl, acConditions_sending]
    rfl
  have hsched : resetSchedules (sending o s) = sending o (resetSchedules s) := by
    have hset (p : Table Profile) : (sending o s).setSu { s.su with profiles := p } =
      sending o (s.setSu { s.su with profiles := p }) := rfl
    unfold resetSchedules
    dsimp only
    rw [show (sending o s).su = s.su from rfl, hset, evalSchedules_sending, acConditions_sending, complete_sending]
  unfold runBlockReset
  rw [hpeers, hclients, hflows, hsched, resetImage_sending]
  split <;> rfl


theorem dispatchReset_sending (x : Submit) {s : State} (h : NothingToTake s) :
    dispatch (lenIs 1) runBlockReset x (sending o s) = sending o (dispatch (lenIs 1) runBlockReset x s) := by
  unfold dispatch
  rw [runBlockReset_sending _ h, complete_sending, complete_sending, show (sending o s).sl = s.sl from rfl]
  (repeat' split) <;> rfl

/-- A BLOCK RESET leaves the transmitter out of account, and gives it nothing to take (R106, R176). -/
theorem submitReset_sending (x : Submit) {s : State} (h : NothingToTake s) :
    submit 25 (lenIs 1) runBlockReset x (sending o s) = sending o (submit 25 (lenIs 1) runBlockReset x s) := by
  have hshift : shiftOut (2 + x.length) (echoBytes (sending o s)) (sending o s) =
    sending o (shiftOut (2 + x.length) (echoBytes s) s) := rfl
  have htake (t : State) : takeSubmit 25 (submitTag x) (sending o t) = sending o (takeSubmit 25 (submitTag x) t) := rfl
  unfold submit
  rw [hshift]
  dsimp only
  have ht : NothingToTake (takeSubmit 25 (submitTag x) (shiftOut (2 + x.length) (echoBytes s) s)) := h.of_eq rfl rfl
  have hml (t : State) : (sending o t).ml = t.ml := rfl
  rw [htake, dispatchReset_sending x ht, hml]
  (repeat' split) <;> rfl

theorem submitReset_nothing (x : Submit) {s : State} (h : NothingToTake s) :
    NothingToTake (submit 25 (lenIs 1) runBlockReset x s) := by
  unfold submit
  dsimp only
  split
  · split
    · exact h.of_eq rfl rfl
    · unfold dispatch
      split
      · exact h.of_eq rfl rfl
      · split
        · exact h.of_eq rfl rfl
        · exact runBlockReset_nothing _ (h.of_eq rfl rfl)
  · exact h.of_eq rfl rfl

theorem submitReset_frame (x : Submit) (s : State) :
    (submit 25 (lenIs 1) runBlockReset x s).now = s.now ∧ (submit 25 (lenIs 1) runBlockReset x s).pins = s.pins := by
  unfold submit
  dsimp only
  split
  · split
    · exact ⟨rfl, rfl⟩
    · unfold dispatch
      split
      · exact ⟨rfl, rfl⟩
      · split
        · exact ⟨rfl, rfl⟩
        · simp [takeSubmit, shiftOut]
  · exact ⟨rfl, rfl⟩

/-- A READY transmitter with nothing to take does after the request what it does when a frame of no length ends. -/
theorem reset_ready {c : Instr} {x : Submit} {s : State} (hc : submitOf c = some (25, x)) (ha : alive s = true)
    (ht : s.es.backhaulTx = none) (h : NothingToTake s) (fr : TxFrame) (hf : fr.ends = s.now) :
    ∃ t, exec c (sending (some fr) s) = .next t ∧ exec c s = exec .backhaulTxDone t := by
  have run (u : State) (hu : alive u = true) : exec c u = .next (submit 25 (lenIs 1) runBlockReset x u) :=
    (exec_blockReset hc u).trans (taken_alive hu)
  have hx : sending none (submit 25 (lenIs 1) runBlockReset x s) = submit 25 (lenIs 1) runBlockReset x s := by
    rw [← submitReset_sending x h, show sending none s = s by rw [sending, ← ht]; rfl]
  obtain ⟨hn, hp⟩ := submitReset_frame x s
  refine ⟨_, run _ ha, ?_⟩
  rw [submitReset_sending x h, run s ha]
  generalize hr : submit 25 (lenIs 1) runBlockReset x s = r at *
  have htime : runTo fr.ends (sending (some fr) r) = sending (some fr) r := by
    rw [runTo, if_neg]
    simp [sending, hf, hn]
  rw [exec_backhaulTxDone (fr := fr) (by rw [← ha]; simp [alive, sending, hp]) rfl, htime]
  refine congrArg _ (Eq.symm ?_)
  calc wake (sending none r) = wake r := by rw [hx]
    _ = r := wake_nothing (hr ▸ submitReset_nothing x h)

end

/-- Settles O60: the targets one by one, then the READY transmitter, which finds nothing to take. -/
theorem blockResetsClearTheirTarget : Obligations.BlockResetsClearTheirTarget := by
  refine ⟨fun c x s hc ht hw => ?_, ?_⟩
  · intro k done emptied
    have he := exec_blockReset_taken hc ht
    have run {n : Nat} (hk : k = n) {r : State} (hr : runBlockReset (submitArgs x) (s.setMl (mlPending 25 x s)) = r) :
        exec c s = .next r := he.trans (congrArg _ hr)
    have hcode : (s.setMl (mlPending 25 x s)).ml.code ≠ 11 := by simp [mlPending]
    refine ⟨fun hk => ?_, fun hk => ?_, fun hk => ?_, fun hk => ?_, fun hk => ?_, fun hk hsw => ?_, fun hk h1 h2 => ?_,
      fun hk => ?_, fun hk => ?_⟩
    · have heq := resetPeers_eq (s := s.setMl (mlPending 25 x s)) hw
      obtain ⟨hlost, hbu⟩ := allPeersAbsent_lost (s.setMl (mlPending 25 x s))
      have hback := allPeersAbsent_failedBack (s.setMl (mlPending 25 x s))
      have hstr := fun n => allPeersAbsent_strikes (s.setMl (mlPending 25 x s)) (n := n)
      generalize hu : allPeersAbsent (s.setMl (mlPending 25 x s)) = u at heq hlost hbu hback hstr
      have hfetch : u.ie.fetches = s.ie.fetches.filter (fun f => !knownPeer s f.peer) := hback.fetches_bool
      refine ⟨complete .ok [] u, run hk (by
          simp only [runBlockReset, show field 0 1 (submitArgs x) = 1 from hk]
          exact heq), hbu, rfl, rfl, ?_, ?_, ?_, ?_, ?_, ?_, ⟨[], ?_, fun _ => rfl, by simp, by simp, fun j _ => ?_⟩, ?_,
        fun n hn => ?_, fun i o ho => ?_⟩
      · simp [← hu]
      · simp [← hu]
      · simp [← hu]
      · simp [← hu]
      · exact (congrArg Rc.noUplink hlost.rc).trans rfl
      · exact (congrArg Rc.claimCounter hlost.rc).trans rfl
      · exact hfetch.trans (List.append_nil _).symm
      · exact ⟨hback.missing j, hback.other j⟩
      · refine hfetch.trans (List.filter_congr fun f _ => ?_)
        cases h : peerOf s f.peer <;> simp [knownPeer, h]
      · exact hstr n hn
      · have hcl := hlost.clients i
        rw [show clientAt (s.setMl (mlPending 25 x s)) i = some o from ho] at hcl
        obtain ⟨hsame, helse, hhand, hset, hbest⟩ := lostTo_allPeers s.sl.params s.now s o
        refine ⟨_, hcl, hsame.addr, hsame.tenure, hsame.profile, hsame.used, hsame.extra, hsame.average, helse, hhand,
          fun hr => ?_, fun b hb => ?_⟩
        · have h := hset hr
          exact ⟨h.role, h.serving, h.timer, h.verdict⟩
        · exact hbest b hb
    · obtain ⟨hrc, hfc, hbu, hes, hsu, hie, hfl, hml, hdr⟩ := resetClients_leaves (s.setMl (mlPending 25 x s))
      refine ⟨_, run hk (by simp only [runBlockReset, show field 0 1 (submitArgs x) = 2 from hk]), hrc,
        hfc.trans (emptyFlows_fc _), hbu, hes, hsu, hie, hfl, hml, hdr⟩
    · obtain ⟨hfc, hrc, hml, hbu, hes, hsu, hie, hfl⟩ := resetFlows_leaves (s.setMl (mlPending 25 x s))
      exact ⟨_, run hk (by simp only [runBlockReset, show field 0 1 (submitArgs x) = 3 from hk]), hfc.trans (emptyFlows_fc _),
        hrc, hml, hbu, hes, hsu, hie, hfl⟩
    · refine run hk ?_
      simp only [runBlockReset, show field 0 1 (submitArgs x) = 4 from hk]
      rfl
    · obtain ⟨hp, hm, hclk, hru, har, hbu, hes, hie, hcl⟩ := resetSchedules_leaves (s.setMl (mlPending 25 x s))
      refine ⟨_, run hk (by simp only [runBlockReset, show field 0 1 (submitArgs x) = 5 from hk]), hp, hm, hclk, ?_, hbu, hes,
        hie, rfl, rfl, fun i e hi hpi => ?_⟩
      · have kept (y : Fc) (h1 : y.rules = s.fc.rules) (h2 : y.arrivals = s.fc.arrivals) :
            y = { y with rules := s.fc.rules, arrivals := s.fc.arrivals } := by rw [← h1, ← h2]
        exact kept _ hru har
      · obtain ⟨o, ho, hso, hv⟩ := hcl i e hi hpi
        exact ⟨o, ho, hso.role, hso.profile, hso.used, hso.extra, hv⟩
    · refine run hk ?_
      simp only [runBlockReset, show field 0 1 (submitArgs x) = 6 from hk]
      exact resetImage_swap hsw
    · have hr : runBlockReset (submitArgs x) (s.setMl (mlPending 25 x s)) = resetImage (s.setMl (mlPending 25 x s)) := by
        simp only [runBlockReset, show field 0 1 (submitArgs x) = 6 from hk]
      have hwaits := eraseWaits_iff s.ie
      refine ⟨fun hwt => ?_, fun hwt => ?_⟩
      · refine ⟨{ s.ie with fetches := [], serves := [], resetWaits := true, presence := (emptyFetches s.ie).presence },
          run hk (hr.trans ?_), rfl, fun j => (emptyFetches_presence s.ie j).1, fun j => (emptyFetches_presence s.ie j).2⟩
        refine (resetImage_eq (s := s.setMl (mlPending 25 x s)) h1 h2).trans ((if_pos (hwaits.2 hwt)).trans ?_)
        rw [setIe, unlisted_ie]
        rfl
      · have hno : eraseWaits s.ie = false := by
          rw [← Bool.not_eq_true, hwaits]
          exact hwt
        exact ⟨_, run hk hr, resetImage_leaves (s := s.setMl (mlPending 25 x s)) h1 h2 hno hcode⟩
    · refine run hk ?_
      simp only [runBlockReset, show field 0 1 (submitArgs x) = 7 from hk]
      rfl
    · refine he.trans (congrArg _ (runBlockReset_bad hk))
  · intro c x s hc hl hb _ hctl hcls busy
    have hal : alive s = true := (Bool.and_eq_true_iff.1 hl).1
    exact reset_ready hc hal hb ⟨hctl, fun k => classFound_eq_false.2 (hcls k)⟩ ⟨[], s.now⟩ rfl

end Sys2Proof.Machine
end
section
/-! SUPPORT. A SIGHTING's listing of an unknown client, which is learned, and of a known one (R27 to R30, Table 2-3). -/

namespace Sys2Proof.Machine

/-! ## A table written where it was erased -/

theorem tabErase_tabSet {α : Type} (t : Table α) (i : Nat) (v : α) : tabErase (tabSet t i v) i = tabErase t i := by
  induction t with
  | nil => simp [tabSet, tabErase]
  | cons p r ih =>
    obtain ⟨j, w⟩ := p
    unfold tabErase at ih ⊢
    by_cases hlt : i < j
    · simp [tabSet, hlt]
    · by_cases heq : i = j
      · simp [tabSet, heq]
      · simp only [tabSet, hlt, heq, if_false, List.filter_cons, ih]

theorem tabErase_of_absent {α : Type} {t : Table α} {i : Nat} (h : ∀ p ∈ t, p.1 ≠ i) : tabErase t i = t := by
  rw [tabErase, List.filter_eq_self]
  intro p hp
  simpa using h p hp

/-- In a table whose indexes rise, what is written at an index does not depend on what stood there. -/
theorem tabSet_tabErase {α : Type} {t : Table α} (h : tabSorted t = true) (i : Nat) (v : α) :
    tabSet (tabErase t i) i v = tabSet t i v := by
  induction t with
  | nil => rfl
  | cons p r ih =>
    obtain ⟨j, w⟩ := p
    obtain ⟨hall, hr⟩ := tabSorted_cons.1 h
    by_cases heq : j = i
    · subst heq
      have he : tabErase ((j, w) :: r) j = r := by
        rw [tabErase, List.filter_cons_of_neg (by simp)]
        exact tabErase_of_absent fun p hp => (hall p hp).ne'
      rw [he]
      cases r with
      | nil => simp [tabSet]
      | cons q r' =>
        have hq : j < q.1 := hall q List.mem_cons_self
        simp [tabSet, hq]
    · have he : tabErase ((j, w) :: r) i = (j, w) :: tabErase r i := by
        rw [tabErase, List.filter_cons_of_pos (by simpa using heq)]
        rfl
      rw [he]
      by_cases hlt : i < j
      · have hr' : tabErase r i = r := tabErase_of_absent fun p hp => (hlt.trans (hall p hp)).ne'
        simp [tabSet, hlt, hr']
      · simp [tabSet, hlt, Ne.symm heq, ih hr]

/-- An entry with a new address is the one found by it (R23). -/
theorem find?_tabSet_new {α : Type} {t : Table α} {i : Nat} {v : α} {f : α → Bool}
    (h : t.find? (fun p => f p.2) = none) (hv : f v = true) : (tabSet t i v).find? (fun p => f p.2) = some (i, v) := by
  induction t with
  | nil => simp [tabSet, hv]
  | cons p r ih =>
    obtain ⟨j, u⟩ := p
    obtain ⟨hu, hr⟩ : f u = false ∧ r.find? (fun p => f p.2) = none := by
      rw [List.find?_eq_none] at h
      refine ⟨by simpa using h _ List.mem_cons_self, List.find?_eq_none.2 fun q hq => h q (List.mem_cons_of_mem _ hq)⟩
    by_cases hlt : i < j
    · simp [tabSet, hlt, hv]
    · by_cases heq : i = j
      · simp [tabSet, heq, hv]
      · simp [tabSet, hlt, heq, hu, ih hr]

/-! ## The entry that is evicted (R27, R30) -/

/-- Of two entries of a table the one evicted first: the older by last activity, the lower index between equals (R27). -/
def goesFirst (a b : Nat × Client) : Prop :=
  a.2.lastActivity < b.2.lastActivity ∨ (a.2.lastActivity = b.2.lastActivity ∧ a.1 ≤ b.1)

theorem olderOf_eq (a b : Nat × Client) : olderOf a b = a ∨ olderOf a b = b := by
  unfold olderOf
  split
  · exact .inr rfl
  · exact .inl rfl

theorem goesFirst_olderOf {a b : Nat × Client} (h : a.1 < b.1) : goesFirst (olderOf a b) a ∧ goesFirst (olderOf a b) b := by
  unfold olderOf goesFirst
  split <;> omega

theorem goesFirst_trans {a b c : Nat × Client} (h : goesFirst a b) (h' : goesFirst b c) : goesFirst a c := by
  unfold goesFirst at *
  omega

theorem foldl_olderOf (l : Table Client) (p : Nat × Client) (h : tabSorted (p :: l) = true) :
    l.foldl olderOf p ∈ p :: l ∧ ∀ q ∈ p :: l, goesFirst (l.foldl olderOf p) q := by
  induction l generalizing p with
  | nil => simp [goesFirst]
  | cons b l ih =>
    obtain ⟨hall, hl⟩ := tabSorted_cons.1 h
    obtain ⟨hb, hl'⟩ := tabSorted_cons.1 hl
    have hpb : p.1 < b.1 := hall b List.mem_cons_self
    have hless (q : Nat × Client) (hq : q ∈ l) : (olderOf p b).1 < q.1 := by
      rcases olderOf_eq p b with he | he
      · rw [he]
        exact hall q (List.mem_cons_of_mem _ hq)
      · rw [he]
        exact hb q hq
    have hsort : tabSorted (olderOf p b :: l) = true :=
      tabSorted_cons (i := (olderOf p b).1) (v := (olderOf p b).2) |>.2 ⟨hless, hl'⟩
    obtain ⟨hmem, hfirst⟩ := ih _ hsort
    obtain ⟨hp, hb'⟩ := goesFirst_olderOf hpb
    have htop := hfirst _ List.mem_cons_self
    refine ⟨?_, ?_⟩
    · rcases List.mem_cons.1 hmem with he | he
      · rw [List.foldl_cons, he]
        rcases olderOf_eq p b with ho | ho <;> simp [ho]
      · exact List.mem_cons_of_mem _ (List.mem_cons_of_mem _ he)
    · intro q hq
      rcases List.mem_cons.1 hq with rfl | hq
      · exact goesFirst_trans htop hp
      · rcases List.mem_cons.1 hq with rfl | hq
        · exact goesFirst_trans htop hb'
        · exact hfirst q (List.mem_cons_of_mem _ hq)

theorem oldestOf_none {s : State} {r : Role} (hs : tabSorted s.rc.clients = true)
    (h : ∀ i c, clientAt s i = some c → c.role ≠ r) : oldestOf s r = none := by
  have he : s.rc.clients.filter (fun p => p.2.role == r) = [] := by
    rw [List.filter_eq_nil_iff]
    intro p hp
    simpa using h p.1 p.2 (tabGet_of_mem hs hp)
  rw [oldestOf, he]

theorem oldestOf_some {s : State} {i : Nat} {c : Client} (hs : tabSorted s.rc.clients = true) (hc : clientAt s i = some c)
    (h : ∀ j k, clientAt s j = some k → k.role = c.role → goesFirst (i, c) (j, k)) : oldestOf s c.role = some i := by
  have hmem : (i, c) ∈ s.rc.clients.filter (fun p => p.2.role == c.role) :=
    List.mem_filter.2 ⟨mem_of_tabGet hc, by simp⟩
  have hsort := tabSorted_filter (fun p => p.2.role == c.role) hs
  have all (q : Nat × Client) (hq : q ∈ s.rc.clients.filter (fun p => p.2.role == c.role)) : goesFirst (i, c) q := by
    obtain ⟨hq1, hq2⟩ := List.mem_filter.1 hq
    exact h q.1 q.2 (tabGet_of_mem hs hq1) (by simpa using hq2)
  unfold oldestOf
  generalize s.rc.clients.filter (fun p => p.2.role == c.role) = l at hmem hsort all
  cases l with
  | nil => cases hmem
  | cons p r =>
    obtain ⟨hin, hfirst⟩ := foldl_olderOf r p hsort
    have h1 := hfirst _ hmem
    have h2 := all _ hin
    unfold goesFirst at h1 h2
    exact congrArg some (by omega)

/-- A full table's victim: a DEPARTED entry before an ORPHAN one, the oldest of its role (R27, R30). -/
theorem victimOf_some {s : State} {i : Nat} {c : Client} (hs : tabSorted s.rc.clients = true) (hc : clientAt s i = some c)
    (hr : c.role = .departed ∨ (c.role = .orphan ∧ ∀ j k, clientAt s j = some k → k.role ≠ .departed))
    (h : ∀ j k, clientAt s j = some k → k.role = c.role → goesFirst (i, c) (j, k)) :
    victimOf s [.departed, .orphan] = some i := by
  have ho := oldestOf_some hs hc h
  rcases hr with hr | ⟨hr, hn⟩
  · rw [hr] at ho
    simp [victimOf, ho]
  · rw [hr] at ho
    simp [victimOf, ho, oldestOf_none hs hn]

theorem victimOf_none {s : State} (hs : tabSorted s.rc.clients = true)
    (h : ∀ i c, clientAt s i = some c → c.role ≠ .departed ∧ c.role ≠ .orphan) : victimOf s [.departed, .orphan] = none := by
  simp [victimOf, oldestOf_none hs fun i c hc => (h i c hc).1, oldestOf_none hs fun i c hc => (h i c hc).2]

end Sys2Proof.Machine
end
section
/-! SUPPORT. One listing of a SIGHTING at the table it finds, and the SIGHTING as a whole (R27 to R30, R34, R62, Table 2-3). -/

namespace Sys2Proof.Machine

/-! ## A listing of an unknown client -/

theorem takeListing_ignored {n : Nat} {e : Listing} {s : State} (h : isGroup e.addr = true ∨ (e.servedHere = true ∧ e.tenure = 0#16)) :
    takeListing n s e = s := by
  unfold takeListing
  rw [if_pos]
  rcases h with h | ⟨h1, h2⟩ <;> simp [*]

section
variable {n : Nat} {e : Listing} {s : State}

theorem takeListing_heard (hg : isGroup e.addr = false) (ht : e.servedHere = false ∨ e.tenure ≠ 0#16) : takeListing n s e =
    drainSettle (listingReading n e (if e.servedHere then roleEffect n e s else s)) := by
  unfold takeListing
  rw [if_neg]
  rcases ht with ht | ht <;> simp [hg, ht]

theorem drainSettle_idle (h : acDraining s = false) : drainSettle s = s := by
  rw [drainSettle, acDrained_calm (.inl h), offerFill_idle h]

theorem listingReading_unknown (h : findClient s e.addr = none) : listingReading n e s = s := by
  rw [listingReading, h]

/-- The entry a listing leaves at an index when no claim is evaluated by an average (R29, R34, R47). -/
def readOnly (n : Nat) (r : Client) : Client := { r with better := if r.role = .remote ∧ r.serving = n then 0 else r.better }

theorem readOnly_counted {r : Client} (h : r.role = .remote ∧ r.serving = n) : readOnly n r = { r with better := 0 } := by
  rw [readOnly, if_pos h]

theorem readOnly_kept {r : Client} (h : ¬ (r.role = .remote ∧ r.serving = n)) : readOnly n r = r := by
  rw [readOnly, if_neg h]

theorem recordReading_eq (n : Nat) (reading : Int) (now : Nat) (c : Client) :
    { recordReading n reading now c with lastActivity := now } = readEntry n reading now c := by
  unfold recordReading readEntry
  cases hb : c.best with
  | none => by_cases hs : c.serving = n ∧ (c.role = .remote ∨ c.role = .claiming ∨ c.role = .expecting) <;> simp [hs]
  | some b =>
    by_cases hs : c.serving = n ∧ (c.role = .remote ∨ c.role = .claiming ∨ c.role = .expecting) <;>
      by_cases hv : b.node = n ∨ b.value < reading <;> simp [hs, hv, hb]

theorem listingReading_found {i : Nat} {c : Client} (hf : findClient s e.addr = some (i, c)) (hc : clientAt s i = some c)
    (h : (readEntry n e.reading s.now c).role ≠ .remote ∨ (readEntry n e.reading s.now c).serving ≠ n ∨
      (readEntry n e.reading s.now c).average = none) :
    listingReading n e s = putClient i (readOnly n (readEntry n e.reading s.now c)) s := by
  have hm : modClient i (fun c => { recordReading n e.reading s.now c with lastActivity := s.now }) s =
      putClient i (readEntry n e.reading s.now c) s := by
    rw [modClient_some _ hc, recordReading_eq]
    rfl
  have hat : clientAt (putClient i (readEntry n e.reading s.now c) s) i = some (readEntry n e.reading s.now c) :=
    tabGet_tabSet_self _ i _
  rw [listingReading, hf]
  dsimp only
  rw [hm, evaluateClaim, hat]
  dsimp only
  by_cases hr : c.role = .remote ∧ c.serving = n
  · have hav : c.average = none := by
      rcases h with h | h | h
      · exact absurd hr.1 h
      · exact absurd hr.2 h
      · exact h
    have hsr : (readEntry n e.reading s.now c).servingReading.isSome = true := by simp [readEntry, hr]
    rw [if_pos ⟨hr.1, hr.2, hsr⟩, show (readEntry n e.reading s.now c).average = none from hav]
    dsimp only
    rw [modClient_some _ hat, readOnly_counted (r := readEntry n e.reading s.now c) hr]
    exact congrArg (fun l => s.setRc { s.rc with clients := l }) (tabSet_tabSet _ _ _ _)
  · rw [if_neg (fun h => hr ⟨h.1, h.2.1⟩), readOnly_kept (r := readEntry n e.reading s.now c) hr]

/-! ## Table 2-3 at an entry not served here -/

/-- State u is s with entry i for an address being x, in which other contents put at i leave nothing of x. -/
structure HasEntry (s : State) (a : Addr) (i : Nat) (x : Client) (offers : List Offer) (u : State) : Prop where
  found : findClient u a = some (i, x)
  entry : clientAt u i = some x
  now : u.now = s.now
  put : ∀ v, putClient i v u = s.setRc { s.rc with clients := tabSet s.rc.clients i v, offers := offers }

variable {a : Addr} {i : Nat} {c x : Client}

theorem hasEntry_self (hf : findClient s a = some (i, c)) (hc : clientAt s i = some c) :
    HasEntry s a i c s.rc.offers s := ⟨hf, hc, rfl, fun _ => rfl⟩

theorem hasEntry_put (hf : findClient s a = some (i, c)) (hx : x.addr = c.addr) :
    HasEntry s a i x s.rc.offers (putClient i x s) :=
  ⟨findClient_tabSet hf hx rfl, tabGet_tabSet_self _ i x, rfl,
    fun v => congrArg (fun l => s.setRc { s.rc with clients := l }) (tabSet_tabSet _ i x v)⟩

theorem hasEntry_toRole {r : Role} {f : Client → Client} (hf : findClient s a = some (i, c)) (hc : clientAt s i = some c)
    (hx : (f (changeRole s.sl.params s.now r c)).addr = c.addr) (hr : r ≠ .served) :
    HasEntry s a i (f (changeRole s.sl.params s.now r c)) (s.rc.offers.filter (fun o => o.client != i)) (toRole i r f s) := by
  have he : toRole i r f s = dropOffersOf i (putClient i (f (changeRole s.sl.params s.now r c)) s) := by
    simp only [toRole, modClient_some _ hc, beq_eq_false_iff_ne.2 hr]
    rfl
  rw [he]
  exact ⟨findClient_tabSet hf hx rfl, tabGet_tabSet_self _ i _, rfl, fun v =>
    congrArg (fun l => s.setRc { s.rc with clients := l, offers := s.rc.offers.filter (fun o => o.client != i) })
      (tabSet_tabSet _ i _ v)⟩

/-- The offer list after a listing of entry i: an ORPHAN or DEPARTED client served there is offered no more (R63). -/
def listedOffers (i : Nat) (e : Listing) (c : Client) (l : List Offer) : List Offer :=
  if e.servedHere = true ∧ (c.role = .orphan ∨ c.role = .departed) then l.filter (fun o => o.client != i) else l

/-- A served-here listing acts by Table 2-3 on an entry in any role but SERVED and HANDING. -/
theorem roleEffect_listed (hf : findClient s e.addr = some (i, c)) (hc : clientAt s i = some c)
    (hr : c.role ≠ .served ∧ c.role ≠ .handing) (hs : e.servedHere = true) :
    ∃ x, HasEntry s e.addr i x (listedOffers i e c s.rc.offers) (roleEffect n e s) ∧
      readEntry n e.reading s.now x = readEntry n e.reading s.now (listedEntry n e c) := by
  have turned (r : Role) (hrole : c.role = r) (hgone : r = .orphan ∨ r = .departed)
      (he : roleEffect n e s = toRole i .remote (fun x => setServing n { x with tenure := e.tenure }) s) :
      ∃ x, HasEntry s e.addr i x (listedOffers i e c s.rc.offers) (roleEffect n e s) ∧
        readEntry n e.reading s.now x = readEntry n e.reading s.now (listedEntry n e c) := by
    rw [listedOffers, if_pos ⟨hs, hrole ▸ hgone⟩, he]
    refine ⟨_, hasEntry_toRole hf hc ?_ (by decide), ?_⟩
    · simp [changeRole, setServing_eq]
    · rcases hgone with rfl | rfl <;>
        simp [readEntry, listedEntry, hs, hrole, changeRole, setServing_eq, isServing, roleTimer]
  have other {x : Client} {u : State} (hrole : c.role ≠ .orphan ∧ c.role ≠ .departed) (he : roleEffect n e s = u)
      (h : HasEntry s e.addr i x s.rc.offers u) (hx : x = listedEntry n e c) :
      ∃ x, HasEntry s e.addr i x (listedOffers i e c s.rc.offers) (roleEffect n e s) ∧
        readEntry n e.reading s.now x = readEntry n e.reading s.now (listedEntry n e c) := by
    rw [listedOffers, if_neg (fun h => h.2.elim hrole.1 hrole.2), he]
    exact ⟨x, h, by rw [hx]⟩
  cases hrole : c.role with
  | served => exact absurd hrole hr.1
  | handing => exact absurd hrole hr.2
  | orphan => exact turned _ hrole (.inl rfl) (by simp [roleEffect, hf, hrole])
  | departed => exact turned _ hrole (.inr rfl) (by simp [roleEffect, hf, hrole])
  | claiming | expecting =>
    exact other (by simp [hrole]) (by simp [roleEffect, hf, hrole]) (hasEntry_self hf hc) (by simp [listedEntry, hs, hrole])
  | remote =>
    have hne : c.role ≠ .orphan ∧ c.role ≠ .departed := by simp [hrole]
    by_cases hn : c.serving = n
    · by_cases ht : newer e.tenure c.tenure = true
      · exact other (x := { c with tenure := e.tenure }) hne (by simp [roleEffect, hf, hrole, hn, ht]) (hasEntry_put hf rfl)
          (by simp [listedEntry, hs, hrole, hn, ht])
      · exact other hne (by simp [roleEffect, hf, hrole, hn, ht]) (hasEntry_self hf hc) (by simp [listedEntry, hs, hrole, hn, ht])
    · by_cases ht : (newer e.tenure c.tenure || (e.tenure == c.tenure && decide (n < c.serving))) = true
      · exact other (x := setServing n { c with tenure := e.tenure }) hne
          (by simp only [roleEffect, hf, hrole, if_neg hn, if_pos ht]) (hasEntry_put hf (by simp [setServing_eq]))
          (by simp only [listedEntry, hs, hrole, if_neg hn, if_pos ht]; simp [setServing_eq, hn])
      · exact other hne (by simp only [roleEffect, hf, hrole, if_neg hn, if_neg ht]) (hasEntry_self hf hc)
          (by simp [listedEntry, hs, hrole, hn, ht])

/-- The state a listing leaves of entry i when no claim is evaluated by an average (R28, R29). -/
def afterListing (n : Nat) (e : Listing) (i : Nat) (c : Client) (s : State) : State := s.setRc { s.rc with
  clients := tabSet s.rc.clients i (readOnly n (readEntry n e.reading s.now (listedEntry n e c)))
  offers := listedOffers i e c s.rc.offers }

/-- A listing of a client not served here, of which no average tells the reading: its entry alone changes (R28, R29). -/
theorem listed_entry (hf : findClient s e.addr = some (i, c)) (hc : clientAt s i = some c)
    (hr : e.servedHere = false ∨ (c.role ≠ .served ∧ c.role ≠ .handing))
    (h : (readEntry n e.reading s.now (listedEntry n e c)).role ≠ .remote ∨
      (readEntry n e.reading s.now (listedEntry n e c)).serving ≠ n ∨
      (readEntry n e.reading s.now (listedEntry n e c)).average = none) :
    listingReading n e (if e.servedHere then roleEffect n e s else s) = afterListing n e i c s := by
  by_cases hs : e.servedHere = true
  · obtain ⟨x, hu, hx⟩ := roleEffect_listed hf hc (hr.resolve_left (by simp [hs])) hs
    have hread := listingReading_found (n := n) hu.found hu.entry (by rw [hu.now, hx]; exact h)
    rw [if_pos hs, hread, hu.put, hu.now, hx]
    rfl
  · have hl : listedEntry n e c = c := by simp [listedEntry, hs]
    rw [hl] at h
    rw [if_neg hs, listingReading_found hf hc h, afterListing, listedOffers, if_neg (fun h => hs h.1), hl]
    rfl

/-- The reading of a listing leaves open whether any client is served (R24). -/
theorem isServing_readOnly (hr : e.servedHere = false ∨ (c.role ≠ .served ∧ c.role ≠ .handing)) :
    isServing (readOnly n (readEntry n e.reading s.now (listedEntry n e c))).role = isServing c.role := by
  show isServing (listedEntry n e c).role = isServing c.role
  by_cases hs : e.servedHere = true
  · obtain ⟨h1, h2⟩ := hr.resolve_left (by simp [hs])
    unfold listedEntry
    rw [if_neg (by simp [hs])]
    cases hrole : c.role with
    | served => exact absurd hrole h1
    | handing => exact absurd hrole h2
    | orphan | departed => rfl
    | claiming | expecting => simp [hrole]
    | remote =>
      dsimp only
      (repeat' split) <;> simp [hrole]
  · simp [listedEntry, hs]

/-- Such a listing ends no drain: what follows it is the filling of the offer list (R62, R163). -/
theorem afterListing_settles (hc : clientAt s i = some c) (hr : e.servedHere = false ∨ (c.role ≠ .served ∧ c.role ≠ .handing))
    (hd : acDraining s = true → servedCount s ≠ 0) :
    drainSettle (afterListing n e i c s) = offerFill (afterListing n e i c s) := by
  have hcalm : acDraining (afterListing n e i c s) = false ∨ servedCount (afterListing n e i c s) ≠ 0 := by
    cases hdr : acDraining s with
    | false => exact .inl hdr
    | true => exact .inr ((servedCount_putClient hc (isServing_readOnly (n := n) (s := s) hr)).not.2 (hd hdr))
  exact congrArg offerFill (acDrained_calm hcalm)

/-! ## A client learned -/

/-- The entry R30 learns from a listing. -/
def learned (n : Nat) (e : Listing) (s : State) : Client :=
  { newClient s e.addr .remote n e.tenure with
    best := some { node := n, value := e.reading, since := s.now }
    servingReading := some { value := e.reading, since := s.now } }

/-- Room made at an index gives the learned entry there, with its reading (R29, R30). -/
theorem learn_listed {t : State} (hg : isGroup e.addr = false) (hn : t.rc.clients.find? (fun p => p.2.addr == e.addr) = none)
    (hm : makeRoom [.departed, .orphan] s = some (i, t)) (hnow : t.now = s.now) (hsl : t.sl = s.sl) (hsu : t.su = s.su)
    (hf : findClient s e.addr = none) :
    listingReading n e (roleEffect n e s) = putClient i (learned n e s) t := by
  have hnew : newClient t e.addr .remote n e.tenure = newClient s e.addr .remote n e.tenure := by
    simp only [newClient, hnow, hsl, hsu]
  have hre : roleEffect n e s = putClient i (newClient s e.addr .remote n e.tenure) t := by
    simp only [roleEffect, hf, learn, hm, hnew]
  have hfound : findClient (putClient i (newClient s e.addr .remote n e.tenure) t) e.addr =
      some (i, newClient s e.addr .remote n e.tenure) := by
    rw [findClient_eq hg]
    exact find?_tabSet_new (f := fun c : Client => c.addr == e.addr) hn (by simp [newClient])
  rw [hre, listingReading_found hfound (tabGet_tabSet_self _ i _) (.inr (.inr rfl))]
  have hentry : readOnly n (readEntry n e.reading (putClient i (newClient s e.addr .remote n e.tenure) t).now
      (newClient s e.addr .remote n e.tenure)) = learned n e s := by
    rw [show (putClient i (newClient s e.addr .remote n e.tenure) t).now = s.now from hnow]
    simp [readOnly, readEntry, learned, newClient]
  rw [hentry]
  exact congrArg (fun l => t.setRc { t.rc with clients := l }) (tabSet_tabSet _ _ _ _)

/-- A full table's victim goes with its flows, its offer and its lapsed record (R25, R27). -/
theorem removeClient_eq (hc : clientAt s i = some c) : removeClient i s = { s with
    fc := dropGames (s.fc.gameCount - s.fc.flows.countP (fun q => q.2.client == i && q.2.cls == .game)) s.now
      { s.fc with flows := s.fc.flows.filter (fun q => q.2.client != i) }
    rc := { s.rc with
      clients := tabErase s.rc.clients i
      lapsed := tabErase s.rc.lapsed i
      offers := s.rc.offers.filter (fun o => o.client != i) } } := by
  have hm : removeFlowsOf i s = (s.setFc (dropGames (s.fc.gameCount - s.fc.flows.countP (fun q => q.2.client == i &&
      q.2.cls == .game)) s.now { s.fc with flows := s.fc.flows.filter (fun q => q.2.client != i) })).setRc
      { s.rc with clients := tabSet s.rc.clients i { c with games := 0 } } :=
    modClient_some (s := s.setFc _) (fun c => { c with games := 0 }) hc
  simp only [removeClient, hm, State.setRc, State.setFc, tabErase_tabSet]

end

/-! ## A SIGHTING -/

theorem exec_sighting {f : MeshFrame} {p : Peer} {es : List Listing} {s : State} (h : delivered 2 f p (.sighting es) s)
    (hw : txWaits s = true) : exec (.sightingReceive f) s = .next (es.foldl (takeListing f.source.toNat) (afterSeq f p s)) := by
  have hk : txWaits (es.foldl (takeListing f.source.toNat) (afterSeq f p s)) = true :=
    (foldl_keeps txWaits _ (fun t e => by simp [txWaits]) es (afterSeq f p s)).trans hw
  show execSightingReceive f s = _
  rw [execSightingReceive, taken_receive _ h, takeSighting, wake_waits hk]

/-- A SIGHTING touches neither the Peer Table nor what the part takes a frame by. -/
theorem sighting_keeps (n : Nat) (es : List Listing) (s : State) :
    (es.foldl (takeListing n) s).bu.peers = s.bu.peers ∧ (es.foldl (takeListing n) s).sl = s.sl ∧
    (es.foldl (takeListing n) s).pins = s.pins ∧ (es.foldl (takeListing n) s).es = s.es := by
  have h := foldl_keeps (fun t : State => (t.bu.peers, t.sl, t.pins, t.es)) (takeListing n) (fun t e => by simp) es s
  simpa only [Prod.mk.injEq] using h

/-- Settles O22: a client learned, one learned in a full table, one known, and SIGHTINGs in parts. -/
theorem sightingOfUnknownClient : Obligations.SightingOfUnknownClient := by
  refine ⟨fun f p e s hd hw hdr hg hf => ?_, fun f p e s hd hw hdr hg hf hs ht hfree hsort => ?_,
    fun f p e i c s hd hw hdr ht hent hr => ?_, fun f g h p a b s hd hw hbg hbh hg hh => ?_,
    fun f p es s hd hw hes => ?_⟩
  · rw [exec_sighting hd hw, List.foldl_cons, List.foldl_nil]
    have hf' : findClient (afterSeq f p s) e.addr = none := hf
    refine ⟨fun hs => ?_, fun i hs ht hi => ?_⟩
    · rw [takeListing_heard hg (.inl hs), if_neg (by simp [hs]), listingReading_unknown hf', drainSettle_idle (s := afterSeq f p s) hdr]
      rfl
    · have hm : makeRoom [.departed, .orphan] (afterSeq f p s) = some (i, afterSeq f p s) := by
        rw [makeRoom, show tabFree (afterSeq f p s).rc.clients Config.clientEntries = some i from hi]
      rw [findClient_eq hg] at hf
      rw [takeListing_heard hg (.inr ht), if_pos hs, learn_listed (i := i) (t := afterSeq f p s) hg hf hm rfl rfl rfl hf',
        drainSettle_idle (s := putClient i _ (afterSeq f p s)) hdr]
      rfl
  · rw [exec_sighting hd hw, List.foldl_cons, List.foldl_nil, takeListing_heard hg (.inr ht), if_pos hs]
    have hf' : findClient (afterSeq f p s) e.addr = none := hf
    have hfree' : tabFree (afterSeq f p s).rc.clients Config.clientEntries = none := hfree
    refine ⟨fun hnone => ?_, fun i c hc hr hfirst => ?_⟩
    · have hm : makeRoom [.departed, .orphan] (afterSeq f p s) = none := by
        rw [makeRoom, hfree']
        dsimp only
        rw [victimOf_none (s := afterSeq f p s) hsort hnone]
      have hre : roleEffect f.source.toNat e (afterSeq f p s) = afterSeq f p s := by
        simp only [roleEffect, hf', learn, hm]
      rw [hre, listingReading_unknown hf', drainSettle_idle (s := afterSeq f p s) hdr]
      rfl
    · intro games
      have hc' : clientAt (afterSeq f p s) i = some c := hc
      have hm : makeRoom [.departed, .orphan] (afterSeq f p s) = some (i, removeClient i (afterSeq f p s)) := by
        rw [makeRoom, hfree']
        dsimp only
        rw [victimOf_some (s := afterSeq f p s) hsort hc' hr hfirst]
      have hnone : (removeClient i (afterSeq f p s)).rc.clients.find? (fun p => p.2.addr == e.addr) = none := by
        rw [findClient_eq hg, List.find?_eq_none] at hf
        rw [removeClient_eq hc', List.find?_eq_none]
        exact fun q hq => hf q (List.mem_of_mem_filter hq)
      rw [learn_listed (i := i) hg hnone hm (by simp) (by simp) (by simp) hf', removeClient_eq hc']
      rw [drainSettle_idle (by exact hdr)]
      simp only [putClient, setClients, tabSet_tabErase (t := (afterSeq f p s).rc.clients) hsort, dropGames, Bool.and_eq_true,
        decide_eq_true_eq, beq_iff_eq]
      rfl
  · intro n r turned h
    have hlist := listed_entry (n := n) (s := afterSeq f p s) hent.1 hent.2 hr h
    rw [exec_sighting hd hw, List.foldl_cons, List.foldl_nil, takeListing_heard (findClient_some hent.1).2 ht, hlist,
      afterListing_settles (s := afterSeq f p s) hent.2 hr hdr]
    refine ⟨_, rfl, ?_, fun hdr' => ?_⟩
    · obtain ⟨l, q, -, he⟩ := offerFill_offered (afterListing n e i c (afterSeq f p s))
      rw [he]
      rfl
    · rw [offerFill_idle (by exact hdr')]
      exact ⟨rfl, rfl⟩
  · have hdg : delivered 2 g p (.sighting a) s := by
      obtain ⟨h1, h2, -, h4, h5, h6, h7⟩ := hd
      rw [hg]
      rw [hg] at hbg
      exact ⟨h1, h2, hbg, h4, h5, h6, h7⟩
    have hsrc : g.source = f.source ∧ afterSeq g p s = afterSeq f p s := by
      rw [hg]
      exact ⟨rfl, rfl⟩
    refine ⟨_, exec_sighting hdg hw, ?_⟩
    rw [exec_sighting hd hw, List.foldl_append, hsrc.1, hsrc.2]
    have hkeep := sighting_keeps f.source.toNat a (afterSeq f p s)
    generalize hu : a.foldl (takeListing f.source.toNat) (afterSeq f p s) = u at *
    obtain ⟨hpe, hsl, hpi, hes⟩ : u.bu.peers = (afterSeq f p s).bu.peers ∧ u.sl = s.sl ∧ u.pins = s.pins ∧ u.es = s.es := hkeep
    have hdh : delivered 2 h p (.sighting b) { u with bu := { u.bu with peers := s.bu.peers } } := by
      obtain ⟨h1, h2, -, h4, h5, h6, h7⟩ := hd
      rw [hh]
      rw [hh] at hbh
      refine ⟨?_, ?_, hbh, h4, h5, h6, ?_⟩
      · simpa [live, alive, running, hsl, hpi] using h1
      · simpa [fromMesh, hsl] using h2
      · rwa [show ({ u with bu := { u.bu with peers := s.bu.peers } } : State).sl = s.sl from hsl]
    have hsrc' : h.source = f.source ∧ h.seq = f.seq := by
      rw [hh]
      exact ⟨rfl, rfl⟩
    have hback : afterSeq h p { u with bu := { u.bu with peers := s.bu.peers } } = u := by
      have hp : tabSet s.bu.peers h.source.toNat { p with lastSeq := h.seq } = u.bu.peers := by
        rw [hpe, hsrc'.1, hsrc'.2]
        rfl
      simp only [afterSeq, seqTaken, State.setBu, hp]
    rw [exec_sighting hdh (by simpa [txWaits, hes] using hw), hback, hsrc'.1]
  · have hsame : es.foldl (takeListing f.source.toNat) (afterSeq f p s) = afterSeq f p s := by
      clear hd
      induction es with
      | nil => rfl
      | cons e es ih =>
        rw [List.foldl_cons, takeListing_ignored (hes e List.mem_cons_self)]
        exact ih fun x hx => hes x (List.mem_cons_of_mem _ hx)
    rw [exec_sighting hd hw, hsame]
    rfl

end Sys2Proof.Machine
end
section
/-! SUPPORT. What an own epoch edge makes of the Peer Table and of what hangs on lost peers (R16, R17, R32, R53, R146). -/

namespace Sys2Proof.Machine

/-! ## Losses and the tables -/

theorem forClients_holds {P : State → Prop} {f : Nat → State → State} (h : ∀ i t, P t → P (f i t)) {s : State} (hs : P s) :
    P (forClients f s) := by
  unfold forClients
  generalize tabKeys s.rc.clients = l
  induction l generalizing s with
  | nil => exact hs
  | cons i l ih => exact ih (h i s hs)

/-- The Client Table's indexes rise, and no offer stands; a loss keeps either (R23, R63). -/
def SortedTable (s : State) : Prop := tabSorted s.rc.clients = true

def NoOffers (s : State) : Prop := s.rc.offers = []

theorem sortedTable_toRole {i : Nat} {r : Role} {f : Client → Client} {s : State} (h : SortedTable s) :
    SortedTable (toRole i r f s) := by
  have hm : SortedTable (modClient i (fun c => f (changeRole s.sl.params s.now r c)) s) := by
    unfold modClient
    split
    · exact tabSorted_tabSet i _ h
    · exact h
  unfold toRole
  split
  · exact hm
  · exact hm

theorem noOffers_toRole {i : Nat} {r : Role} {f : Client → Client} {s : State} (h : NoOffers s) :
    NoOffers (toRole i r f s) := by
  have hm : NoOffers (modClient i (fun c => f (changeRole s.sl.params s.now r c)) s) := by
    unfold modClient
    split
    · exact h
    · exact h
  unfold toRole
  split
  · exact hm
  · show List.filter _ (modClient i (fun c => f (changeRole s.sl.params s.now r c)) s).rc.offers = []
    rw [hm]
    rfl

/-- What every role change keeps, and a change of readings too, the loss of a peer keeps (R32, R53). -/
theorem holds_loseClients {P : State → Prop} (hrole : ∀ i r f s, P s → P (toRole i r f s)) (hraise : ∀ e s, P s → P (raise e s))
    (hread : ∀ n s, P s → P (s.setRc { s.rc with
      clients := tabMap s.rc.clients (dropReadings n), offers := s.rc.offers.filter (fun o => o.node != n) }))
    (n : Nat) {s : State} (h : P s) : P (loseClients n s) := by
  have ho : P (forClients (orphanOne n) s) := forClients_holds (fun i t ht => by
    unfold orphanOne
    (repeat' split)
    · exact hraise _ _ (hrole i .orphan (setServing 0) t ht)
    · exact ht
    · exact ht) h
  exact hread n _ (forClients_holds (fun i t ht => by
    unfold handBackOne
    (repeat' split)
    · exact hraise _ _ (hrole i .served id t ht)
    · exact ht
    · exact ht) ho)

theorem sortedTable_peerAbsent (n : Nat) {s : State} (h : SortedTable s) : SortedTable (peerAbsent n s) :=
  holds_loseClients (P := SortedTable) (fun _ _ _ _ => sortedTable_toRole) (fun _ _ h => h)
    (fun n _ h => tabSorted_tabMap (dropReadings n) h) n (s := setPeers (tabErase s.bu.peers n) s) h

theorem noOffers_peerAbsent (n : Nat) {s : State} (h : NoOffers s) : NoOffers (peerAbsent n s) :=
  holds_loseClients (P := NoOffers) (fun _ _ _ _ => noOffers_toRole) (fun _ _ h => h)
    (fun n s (h : s.rc.offers = []) => show s.rc.offers.filter _ = [] by rw [h]; rfl) n
    (s := setPeers (tabErase s.bu.peers n) s) h

/-! ## One entry at the edge (R16) -/

/-- A peer entry once its run, quiet count and heard flag are up to date. -/
def agedPeer (s : State) (p : Peer) : Peer := edgePeer (heardAt s p) p

/-- The state of an aged entry after the edge; none is ABSENT. -/
def edgeState (q : Peer) : Option PeerState :=
  match q.state with
  | .joining => if 3 ≤ q.run then some .present else if 8 ≤ q.quiet then none else some .joining
  | .present => if 8 ≤ q.quiet then some .silent else some .present
  | .silent => if 120 ≤ q.quiet then none else some .silent

/-- The entry an edge leaves; none is ABSENT. -/
def edgeEntry (s : State) (p : Peer) : Option Peer :=
  (edgeState (agedPeer s p)).map (fun x => { agedPeer s p with state := x })

/-- What an edge has to say of an aged entry of node n. -/
def edgeEvents (n : Nat) (q : Peer) : List Event :=
  match q.state with
  | .joining => if 3 ≤ q.run then [.peerJoined n] else if 8 ≤ q.quiet then [.peerGone n] else []
  | .present => if 8 ≤ q.quiet then [.peerSilent n] else []
  | .silent => if 120 ≤ q.quiet then [.peerGone n] else []

/-- Node n becomes ABSENT at the edge. -/
def goneAtEdge (s : State) (n : Nat) : Bool := (peerOf s n).any (fun p => (edgeEntry s p).isNone)

section
variable {n : Nat} {p q : Peer} {s : State}

theorem liveness_absent (h : peerOf s n = none) : liveness n s = s := by simp only [liveness, h]

theorem liveness_kept (h : peerOf s n = some p) (he : edgeEntry s p = some q) :
    liveness n s = setPeers (tabSet s.bu.peers n q) (s.setMl (offerAll s (edgeEvents n (agedPeer s p)) s.ml)) := by
  have haged : edgePeer (heardAt s p) p = agedPeer s p := rfl
  simp only [liveness, h, haged]
  unfold edgeEntry edgeState at he
  unfold edgeEvents
  generalize agedPeer s p = x at he
  obtain ⟨state, addr, lastSeq, lastFresh, quiet, run⟩ := x
  cases state with
  | joining =>
    by_cases hr : 3 ≤ run
    · obtain rfl : _ = q := by simpa [hr] using he
      simp only [hr, if_true]
      rfl
    · by_cases hq : 8 ≤ quiet
      · simp [hr, hq] at he
      · obtain rfl : _ = q := by simpa [hr, hq] using he
        simp only [hr, hq, if_false]
        rfl
  | present =>
    by_cases hq : 8 ≤ quiet
    · obtain rfl : _ = q := by simpa [hq] using he
      simp only [hq, if_true]
      rfl
    · obtain rfl : _ = q := by simpa [hq] using he
      simp only [hq, if_false]
      rfl
  | silent =>
    by_cases hq : 120 ≤ quiet
    · simp [hq] at he
    · obtain rfl : _ = q := by simpa [hq] using he
      simp only [hq, if_false]
      rfl

theorem edgeEvents_gone (he : edgeEntry s p = none) : edgeEvents n (agedPeer s p) = [.peerGone n] := by
  unfold edgeEntry edgeState at he
  unfold edgeEvents
  generalize agedPeer s p = x at he
  obtain ⟨state, addr, lastSeq, lastFresh, quiet, run⟩ := x
  cases state with
  | joining =>
    by_cases hr : 3 ≤ run
    · simp [hr] at he
    · by_cases hq : 8 ≤ quiet
      · simp [hr, hq]
      · simp [hr, hq] at he
  | present => by_cases hq : 8 ≤ quiet <;> simp [hq] at he
  | silent =>
    by_cases hq : 120 ≤ quiet
    · simp [hq]
    · simp [hq] at he

theorem liveness_gone (h : peerOf s n = some p) (he : edgeEntry s p = none) :
    liveness n s = peerAbsent n (raise (.peerGone n) s) := by
  have haged : edgePeer (heardAt s p) p = agedPeer s p := rfl
  simp only [liveness, h, haged]
  unfold edgeEntry edgeState at he
  generalize agedPeer s p = x at he
  obtain ⟨state, addr, lastSeq, lastFresh, quiet, run⟩ := x
  cases state with
  | joining =>
    by_cases hr : 3 ≤ run
    · simp [hr] at he
    · by_cases hq : 8 ≤ quiet
      · simp only [hr, hq, if_true, if_false]
      · simp [hr, hq] at he
  | present => by_cases hq : 8 ≤ quiet <;> simp [hq] at he
  | silent =>
    by_cases hq : 120 ≤ quiet
    · simp only [hq, if_true]
    · simp [hq] at he

end

/-! ## The edge at several entries -/

/-- From s to t the entries of these nodes are brought up to date (R16, R17). -/
structure Edged (l : List Nat) (s t : State) : Prop where
  lost : Lost (l.filter (goneAtEdge s)) s t
  bu : t.bu = { s.bu with peers := t.bu.peers }
  peers : ∀ n, peerOf t n = if n ∈ l then (peerOf s n).bind (edgeEntry s) else peerOf s n
  struck : ∀ n, (n ∈ l ∧ goneAtEdge s n = true) ∨ (tabGet s.ie.strikes n = none ∧ tabGet s.ie.skips n = none) →
    tabGet t.ie.strikes n = none ∧ tabGet t.ie.skips n = none
  served : servedCount t = 0 ↔ servedCount s = 0
  sorted : SortedTable s → SortedTable t
  offers : NoOffers s → NoOffers t
  calm : (∀ n p, n ∈ l → peerOf s n = some p → edgeEvents n (agedPeer s p) = []) → t.rc = s.rc ∧ t.ml = s.ml ∧ t.ie = s.ie

theorem edged_nil (s : State) : Edged [] s s where
  lost := .of_eq rfl rfl rfl rfl rfl
  bu := rfl
  peers n := by simp
  struck n h := h.elim (fun h => by simp at h) id
  served := .rfl
  sorted h := h
  offers h := h
  calm _ := ⟨rfl, rfl, rfl⟩

theorem edged_liveness (n : Nat) (s : State) : Edged [n] s (liveness n s) := by
  cases h : peerOf s n with
  | none =>
    have hg : goneAtEdge s n = false := by simp [goneAtEdge, h]
    rw [liveness_absent h]
    exact { edged_nil s with
      lost := by simpa [hg] using (edged_nil s).lost
      peers := fun k => by
        by_cases hk : k = n
        · simp [hk, h]
        · simp [hk]
      struck := fun k hk => hk.elim (fun hk => by
        obtain rfl : k = n := by simpa using hk.1
        simp [hg] at hk) id
      calm := fun _ => ⟨rfl, rfl, rfl⟩ }
  | some p =>
    cases he : edgeEntry s p with
    | some q =>
      have hg : goneAtEdge s n = false := by simp [goneAtEdge, h, he]
      rw [liveness_kept h he]
      exact {
        lost := by
          rw [List.filter_singleton, hg]
          exact .of_eq rfl rfl rfl rfl rfl
        bu := rfl
        peers := fun k => by
          by_cases hk : k = n
          · subst hk
            rw [if_pos (List.mem_singleton.2 rfl), h, Option.bind_some, he]
            exact tabGet_tabSet_self s.bu.peers k q
          · rw [if_neg (by simpa using hk)]
            exact tabGet_tabSet_ne s.bu.peers q hk
        struck := fun k hk => hk.elim (fun hk => by
          obtain rfl : k = n := by simpa using hk.1
          simp [hg] at hk) id
        served := .rfl
        sorted := fun h => h
        offers := fun h => h
        calm := fun hc => ⟨rfl, by rw [hc n p (by simp) h]; rfl, rfl⟩ }
    | none =>
      have hg : goneAtEdge s n = true := by simp [goneAtEdge, h, he]
      rw [liveness_gone h he]
      have hr : Lost [] s (raise (.peerGone n) s) := .of_eq rfl rfl rfl rfl rfl
      exact {
        lost := by simpa [hg] using hr.trans (lost_peerAbsent n (raise (.peerGone n) s))
        bu := by rw [peerAbsent_peers]; rfl
        peers := fun k => by
          rw [peerOf, peerAbsent_peers]
          by_cases hk : k = n
          · subst hk
            simp [h, he]
          · rw [if_neg (by simpa using hk)]
            exact tabGet_tabErase_ne s.bu.peers hk
        struck := fun k hk => by
          obtain ⟨h1, h2⟩ := peerAbsent_strikes n k (raise (.peerGone n) s)
          rw [h1, h2]
          by_cases hkn : k = n
          · simp [hkn]
          · rw [if_neg hkn, if_neg hkn]
            exact hk.elim (fun hk => absurd (by simpa using hk.1) hkn) id
        served := servedCount_peerAbsent n (raise (.peerGone n) s)
        sorted := fun h => sortedTable_peerAbsent n (s := raise (.peerGone n) s) h
        offers := fun h => noOffers_peerAbsent n (s := raise (.peerGone n) s) h
        calm := fun hc => absurd (hc n p (by simp) h) (by simp [edgeEvents_gone he]) }

/-- What an edge makes of an entry depends on the period and the instant alone, which an edge leaves. -/
theorem agedPeer_congr {s t : State} (hsl : t.sl = s.sl) (hn : t.now = s.now) (p : Peer) : agedPeer t p = agedPeer s p := by
  simp only [agedPeer, heardAt, hsl, hn]

theorem Edged.cons {n : Nat} {l : List Nat} {s t u : State} (hn : n ∉ l) (h : Edged [n] s t) (k : Edged l t u) :
    Edged (n :: l) s u := by
  have haged (p : Peer) : agedPeer t p = agedPeer s p := agedPeer_congr h.lost.sl h.lost.now p
  have hentry (p : Peer) : edgeEntry t p = edgeEntry s p := by rw [edgeEntry, edgeEntry, haged]
  have hpeer {m : Nat} (hm : m ∈ l) : peerOf t m = peerOf s m := by
    rw [h.peers, if_neg (by simpa using fun he : m = n => hn (he ▸ hm))]
  have hgone {m : Nat} (hm : m ∈ l) : goneAtEdge t m = goneAtEdge s m := by
    simp only [goneAtEdge, hpeer hm, hentry]
  exact {
    lost := by
      have hf : l.filter (goneAtEdge t) = l.filter (goneAtEdge s) := List.filter_congr fun m hm => hgone hm
      have := h.lost.trans k.lost
      rw [hf, ← List.filter_append] at this
      exact this
    bu := by rw [k.bu, h.bu]
    peers := fun m => by
      rw [k.peers]
      by_cases hm : m ∈ l
      · rw [if_pos hm, if_pos (List.mem_cons_of_mem _ hm), hpeer hm]
        exact congrArg _ (funext hentry)
      · rw [if_neg hm, h.peers]
        simp [hm]
    struck := fun m hm => by
      refine k.struck m ?_
      rcases hm with ⟨hm, hg⟩ | hm
      · rcases List.mem_cons.1 hm with rfl | hm
        · exact .inr (h.struck m (.inl ⟨by simp, hg⟩))
        · exact .inl ⟨hm, by rwa [hgone hm]⟩
      · exact .inr (h.struck m (.inr hm))
    served := k.served.trans h.served
    sorted := fun hs => k.sorted (h.sorted hs)
    offers := fun hs => k.offers (h.offers hs)
    calm := fun hc => by
      obtain ⟨h1, h2, h3⟩ := h.calm fun m p hm hp => by
        obtain rfl : m = n := by simpa using hm
        exact hc m p (by simp) hp
      obtain ⟨k1, k2, k3⟩ := k.calm fun m p hm hp => by
        rw [haged]
        exact hc m p (List.mem_cons_of_mem _ hm) (hpeer hm ▸ hp)
      exact ⟨k1.trans h1, k2.trans h2, k3.trans h3⟩ }

theorem edged_foldl (l : List Nat) (hl : l.Nodup) (s : State) : Edged l s (l.foldl (fun t n => liveness n t) s) := by
  induction l generalizing s with
  | nil => exact edged_nil s
  | cons n l ih =>
    obtain ⟨hn, hl⟩ := List.nodup_cons.1 hl
    exact (edged_liveness n s).cons hn (ih hl _)

theorem edged_livenessAll (s : State) : Edged nodes s (livenessAll s) := edged_foldl nodes (by decide) s

/-! ## The looks of R16 -/

section
variable {n : Nat} {p : Peer} {s : State}

/-- Of the three looks of R16: a JOINING entry heard three times, a PRESENT one that falls SILENT, one that is gone. -/
def joinsAtEdge (s : State) (p : Peer) : Prop := p.state = .joining ∧ 3 ≤ (agedPeer s p).run

def quietsAtEdge (s : State) (p : Peer) : Prop := p.state = .present ∧ 8 ≤ (agedPeer s p).quiet

def goesAtEdge (s : State) (p : Peer) : Prop :=
  (p.state = .joining ∧ (agedPeer s p).run < 3 ∧ 8 ≤ (agedPeer s p).quiet) ∨ (p.state = .silent ∧ 120 ≤ (agedPeer s p).quiet)

theorem agedPeer_state (s : State) (p : Peer) : (agedPeer s p).state = p.state := by
  unfold agedPeer edgePeer
  split <;> rfl

theorem edge_joins (h : joinsAtEdge s p) :
    edgeEntry s p = some { agedPeer s p with state := .present } ∧ edgeEvents n (agedPeer s p) = [.peerJoined n] := by
  have hst := (agedPeer_state s p).trans h.1
  simp only [edgeEntry, edgeState, edgeEvents, hst, if_pos h.2, Option.map_some, and_self]

theorem edge_quiets (h : quietsAtEdge s p) :
    edgeEntry s p = some { agedPeer s p with state := .silent } ∧ edgeEvents n (agedPeer s p) = [.peerSilent n] := by
  have hst := (agedPeer_state s p).trans h.1
  simp only [edgeEntry, edgeState, edgeEvents, hst, if_pos h.2, Option.map_some, and_self]

theorem edge_goes (h : goesAtEdge s p) : edgeEntry s p = none := by
  rcases h with ⟨hs, hr, hq⟩ | ⟨hs, hq⟩
  · have hst := (agedPeer_state s p).trans hs
    simp only [edgeEntry, edgeState, hst, if_neg (Nat.not_le.2 hr), if_pos hq, Option.map_none]
  · have hst := (agedPeer_state s p).trans hs
    simp only [edgeEntry, edgeState, hst, if_pos hq, Option.map_none]

/-- An entry of which no look says anything keeps its state. -/
theorem edge_calm (hj : ¬ joinsAtEdge s p) (hq : ¬ quietsAtEdge s p) (hg : ¬ goesAtEdge s p) :
    edgeEntry s p = some (agedPeer s p) ∧ edgeEvents n (agedPeer s p) = [] := by
  have hst := agedPeer_state s p
  unfold joinsAtEdge at hj
  unfold quietsAtEdge at hq
  unfold goesAtEdge at hg
  rw [← hst] at hj hq hg
  unfold edgeEntry edgeState edgeEvents
  generalize agedPeer s p = x at hj hq hg
  obtain ⟨state, addr, lastSeq, lastFresh, quiet, run⟩ := x
  cases state with
  | joining =>
    have hr : ¬ 3 ≤ run := fun h => hj ⟨rfl, h⟩
    have h8 : ¬ 8 ≤ quiet := fun h => hg (.inl ⟨rfl, Nat.not_le.1 hr, h⟩)
    simp [hr, h8]
  | present =>
    have h8 : ¬ 8 ≤ quiet := fun h => hq ⟨rfl, h⟩
    simp [h8]
  | silent =>
    have h120 : ¬ 120 ≤ quiet := fun h => hg (.inr ⟨rfl, h⟩)
    simp [h120]

theorem goesAtEdge_iff : goesAtEdge s p ↔ edgeEntry s p = none := by
  refine ⟨edge_goes, fun h => ?_⟩
  by_contra hg
  by_cases hj : joinsAtEdge s p
  · simp [(edge_joins (n := 0) hj).1] at h
  · by_cases hq : quietsAtEdge s p
    · simp [(edge_quiets (n := 0) hq).1] at h
    · simp [(edge_calm (n := 0) hj hq hg).1] at h

end

/-! ## A table of one peer: what is raised -/

theorem foldl_liveness_others {n : Nat} {s : State} (h : ∀ m, m ≠ n → peerOf s m = none) (l : List Nat) (hl : n ∉ l) :
    l.foldl (fun t m => liveness m t) s = s := by
  induction l with
  | nil => rfl
  | cons m l ih =>
    obtain ⟨hm, hl⟩ := not_or.1 (fun h => hl (List.mem_cons.2 h))
    rw [List.foldl_cons, liveness_absent (h m (Ne.symm hm)), ih hl]

theorem foldl_liveness_single {n : Nat} {s : State} (h : ∀ m, m ≠ n → peerOf s m = none) (l : List Nat) (hl : l.Nodup)
    (hn : n ∈ l) : l.foldl (fun t m => liveness m t) s = liveness n s := by
  induction l with
  | nil => cases hn
  | cons m l ih =>
    obtain ⟨hm, hl⟩ := List.nodup_cons.1 hl
    rw [List.foldl_cons]
    by_cases hmn : m = n
    · subst hmn
      refine foldl_liveness_others (n := m) (fun k hk => ?_) l hm
      rw [(edged_liveness m s).peers, if_neg (by simpa using hk)]
      exact h k hk
    · rw [liveness_absent (h m hmn)]
      exact ih hl ((List.mem_cons.1 hn).resolve_left (Ne.symm hmn))

/-- In a table of one peer the edge is that peer's look. -/
theorem livenessAll_single {n : Nat} {p : Peer} {s : State} (h1 : 1 ≤ n) (h8 : n ≤ 8) (h : s.bu.peers = [(n, p)]) :
    livenessAll s = liveness n s := by
  refine foldl_liveness_single (fun m hm => ?_) nodes (by decide) ?_
  · simp [peerOf, h, tabGet, Ne.symm hm]
  · simp only [nodes, List.mem_cons, List.not_mem_nil]
    omega

section
variable {n : Nat} {p : Peer} {s : State} (h1 : 1 ≤ n) (h8 : n ≤ 8) (h : s.bu.peers = [(n, p)])
include h1 h8 h

theorem livenessAll_ml_kept (he : edgeEntry s p ≠ none) :
    (livenessAll s).ml = offerAll s (edgeEvents n (agedPeer s p)) s.ml := by
  obtain ⟨q, hq⟩ := Option.ne_none_iff_exists'.1 he
  rw [livenessAll_single h1 h8 h, liveness_kept (by simp [peerOf, h, tabGet]) hq]
  rfl

/-- A peer that is gone takes its clients with it: what is raised of a table of at most one (R17, R32, R53). -/
theorem livenessAll_ml_gone (he : edgeEntry s p = none) :
    (s.rc.clients = [] → (livenessAll s).ml = offerEvent (stamp (.peerGone n) s) s.ml) ∧
    (∀ i c, s.rc.clients = [(i, c)] →
      (livenessAll s).ml = offerAll s (lossEvents n c) (offerEvent (stamp (.peerGone n) s) s.ml)) := by
  rw [livenessAll_single h1 h8 h, liveness_gone (by simp [peerOf, h, tabGet]) he]
  have hl := lostSmall_peerAbsent n (raise (.peerGone n) s)
  refine ⟨fun hc => (hl.empty hc).2, fun i c hc => ?_⟩
  rw [(hl.single i c hc).2]
  simp only [lossesOf, List.append_nil]
  exact offerAll_clock rfl _ _

end

end Sys2Proof.Machine
end
section
/-! SUPPORT. The offer list filled from empty: the first eight clients that may be offered, in index order (R62). -/

namespace Sys2Proof.Machine

/-- A peer that is PRESENT and neither draining nor leaving (R62). -/
def takesClients (s : State) (n : Nat) : Bool := isPresent s n && !isDrainingPeer s n

/-- A table entry that may be offered while the offer list is empty and nothing has lapsed, with its best peer reading. -/
def candidate (s : State) (p : Nat × Client) : Option (Nat × Client × BestReading) :=
  if p.2.role = .served then (p.2.best.filter (fun b => takesClients s b.node)).map (fun b => (p.1, p.2, b)) else none

def candidates (s : State) : List (Nat × Client × BestReading) := s.rc.clients.filterMap (candidate s)

/-- The offer made of a candidate, and the bulletin that makes it. -/
def offerOf (s : State) (x : Nat × Client × BestReading) : Offer :=
  { client := x.1, node := x.2.2.node, ends := s.now + Config.claimWaitNs }

def offerBulletin (x : Nat × Client × BestReading) : Control := .bulletin x.2.2.node (.offer x.2.1.addr)

/-- The state in which the first j candidates have been offered. -/
def offering (j : Nat) (s : State) : State :=
  { s with
    rc := { s.rc with offers := ((candidates s).take j).map (offerOf s) }
    bu := { s.bu with control := ((candidates s).take j).foldl (fun q x => joinControl (offerBulletin x) q) s.bu.control } }

theorem candidate_some {s : State} {p : Nat × Client} {x : Nat × Client × BestReading} :
    candidate s p = some x ↔
      p = (x.1, x.2.1) ∧ x.2.1.role = .served ∧ x.2.1.best = some x.2.2 ∧ takesClients s x.2.2.node = true := by
  obtain ⟨i, c⟩ := p
  obtain ⟨j, d, b⟩ := x
  unfold candidate
  constructor
  · intro h
    split at h
    · rename_i hr
      obtain ⟨b', hb', he⟩ := Option.map_eq_some_iff.1 h
      obtain ⟨hb, ht⟩ := Option.filter_eq_some_iff.1 hb'
      cases he
      exact ⟨rfl, hr, hb, ht⟩
    · cases h
  · rintro ⟨h, hr, hb, ht⟩
    cases h
    simp only at hr hb ht
    simp [hr, hb, ht]

/-- In a table whose indexes rise the entry found first after the first j candidates is the next one. -/
theorem find?_candidate (s : State) {l : Table Client} (hl : tabSorted l = true) (j : Nat) :
    l.find? (fun p => (candidate s p).isSome && !((l.filterMap (candidate s)).take j).any (fun x => x.1 == p.1)) =
      ((l.filterMap (candidate s))[j]?).map (fun x => (x.1, x.2.1)) := by
  induction l generalizing j with
  | nil => simp
  | cons p r ih =>
    obtain ⟨hall, hr⟩ := tabSorted_cons.1 hl
    cases hp : candidate s p with
    | none => simpa [hp] using ih hr j
    | some x =>
      obtain ⟨hpx, -⟩ := candidate_some.1 hp
      cases j with
      | zero =>
        rw [List.filterMap_cons_some hp, List.find?_cons_of_pos (by simp [hp])]
        simp [hpx]
      | succ j =>
        have hx : x.1 = p.1 := by rw [hpx]
        have hcongr : r.find? (fun q => (candidate s q).isSome &&
            !((x :: r.filterMap (candidate s)).take (j + 1)).any (fun y => y.1 == q.1)) =
            r.find? (fun q => (candidate s q).isSome && !((r.filterMap (candidate s)).take j).any (fun y => y.1 == q.1)) := by
          refine List.find?_congr fun q hq => ?_
          have hne : (x.1 == q.1) = false := beq_eq_false_iff_ne.2 (hx ▸ (hall q hq).ne)
          simp [hne]
        rw [List.filterMap_cons_some hp, List.find?_cons_of_neg (by simp [hx]), hcongr, ih hr j]
        simp

theorem offerEligible_offering {s : State} (hl : s.rc.lapsed = []) (j : Nat) (p : Nat × Client) : offerEligible (offering j s) p.1 p.2 =
    ((candidate s p).isSome && !((candidates s).take j).any (fun x => x.1 == p.1)) := by
  have hany : (offering j s).rc.offers.any (fun o => o.client == p.1) = ((candidates s).take j).any (fun x => x.1 == p.1) := by
    show (((candidates s).take j).map (offerOf s)).any _ = _
    rw [List.any_map]
    rfl
  have hlapsed : tabGet (offering j s).rc.lapsed p.1 = none := by
    rw [show (offering j s).rc.lapsed = [] from hl]
    rfl
  have htakes (b : BestReading) : (isPresent (offering j s) b.node && !isDrainingPeer (offering j s) b.node) =
    takesClients s b.node := rfl
  unfold offerEligible candidate
  rw [hany, hlapsed]
  by_cases hrole : p.2.role = .served
  · cases hb : p.2.best with
    | none => simp
    | some b =>
      dsimp only
      rw [htakes]
      cases ht : takesClients s b.node <;> simp [hrole, ht]
  · simp [hrole]

section
variable {s : State} (hr : running s = true) (hs : SortedTable s) (hl : s.rc.lapsed = [])
include hr hs hl

theorem offerOne_offering (j : Nat) : offerOne (offering j s) = offering (j + 1) s := by
  have hfind : (offering j s).rc.clients.find? (fun p => offerEligible (offering j s) p.1 p.2) =
      ((candidates s)[j]?).map (fun x => (x.1, x.2.1)) := by
    refine Eq.trans ?_ (find?_candidate s hs j)
    exact List.find?_congr fun p _ => offerEligible_offering hl j p
  rw [offerOne, hfind]
  cases hx : (candidates s)[j]? with
  | none =>
    have hlen : (candidates s).length ≤ j := List.getElem?_eq_none_iff.1 hx
    simp [offering, List.take_of_length_le hlen, List.take_of_length_le (Nat.le_succ_of_le hlen)]
  | some x =>
    obtain ⟨p, hp, hc⟩ := List.mem_filterMap.1 (List.mem_of_getElem? hx)
    obtain ⟨-, -, hb, -⟩ := candidate_some.1 hc
    have htake : (candidates s).take (j + 1) = (candidates s).take j ++ [x] := by
      rw [List.take_add_one, hx]
      rfl
    have hrun : running (offering j s) = true := hr
    simp only [Option.map_some, hb, sendBulletin, queueControl, hrun, if_true]
    simp only [offering, htake, List.map_append, List.foldl_append]
    rfl

theorem offerLoop_offering (k j : Nat) (h : j + k ≤ 8) : offerLoop k (offering j s) = offering (j + k) s := by
  induction k generalizing j with
  | zero => rfl
  | succ k ih =>
    have hlen : (offering j s).rc.offers.length < Config.offerListMax := by
      show (((candidates s).take j).map (offerOf s)).length < 8
      rw [List.length_map, List.length_take]
      omega
    rw [offerLoop, if_pos hlen, offerOne_offering hr hs hl, ih (j + 1) (by omega)]
    congr 1
    omega

/-- The first eight candidates are offered from an empty list (R62). -/
theorem offerLoop_empty (h : NoOffers s) : offerLoop Config.offerListMax s = offering 8 s := by
  have h0 : offering 0 s = s := by
    simp only [offering, List.take_zero, List.map_nil, List.foldl_nil]
    rw [← show s.rc.offers = [] from h]
  have := offerLoop_offering hr hs hl 8 0 (by omega)
  rwa [h0] at this

end

/-! ## A list to which nothing can be added -/

/-- The offer list holds eight offers, or no entry may be offered (R62). -/
def OffersFull (s : State) : Prop := 8 ≤ s.rc.offers.length ∨ ∀ p ∈ s.rc.clients, offerEligible s p.1 p.2 = false

theorem offerLoop_full {s : State} (h : OffersFull s) (k : Nat) : offerLoop k s = s := by
  induction k with
  | zero => rfl
  | succ k ih =>
    rw [offerLoop]
    split
    · rename_i hlen
      have hnone : s.rc.clients.find? (fun p => offerEligible s p.1 p.2) = none :=
        List.find?_eq_none.2 fun p hp => by simp [h.resolve_left (Nat.not_le.2 hlen) p hp]
      have hone : offerOne s = s := by rw [offerOne, hnone]
      rw [hone, ih]
    · rfl

theorem offerFill_full {s : State} (h : OffersFull s) : offerFill s = s := by
  rw [offerFill, offerLoop_full h, ite_self]

theorem OffersFull.of_eq {s t : State} (h : OffersFull s) (hr : t.rc = s.rc) (hp : t.bu.peers = s.bu.peers) : OffersFull t := by
  have he (i : Nat) (c : Client) : offerEligible t i c = offerEligible s i c := by
    simp only [offerEligible, isPresent, isDrainingPeer, peerOf, hr, hp]
  unfold OffersFull
  simp only [he, hr]
  exact h

theorem offersFull_offering {s : State} (hs : SortedTable s) (hl : s.rc.lapsed = []) : OffersFull (offering 8 s) := by
  by_cases hlen : 8 ≤ (candidates s).length
  · left
    show 8 ≤ (((candidates s).take 8).map (offerOf s)).length
    rw [List.length_map, List.length_take]
    omega
  · right
    have hfind := find?_candidate s hs 8
    have hx : (candidates s)[8]? = none := List.getElem?_eq_none_iff.2 (by omega)
    rw [show (s.rc.clients.filterMap (candidate s))[8]? = none from hx, Option.map_none, List.find?_eq_none] at hfind
    intro p hp
    rw [offerEligible_offering hl]
    simpa [candidates] using hfind p hp

/-- With nobody SERVED nobody can be offered. -/
theorem offersFull_unserved {s : State} (h : servedCount s = 0) : OffersFull s := by
  refine .inr fun p hp => ?_
  have hserv := servedCount_eq_zero.1 h p hp
  have hr : (p.2.role == .served) = false := by
    cases hrole : p.2.role <;> simp [hrole, isServing] at hserv ⊢
  simp [offerEligible, hr]

/-! ## What the offers made are -/

section
variable {s : State}

theorem candidates_sorted (hs : SortedTable s) : ((candidates s).map Prod.fst).Pairwise (· < ·) := by
  unfold SortedTable at hs
  unfold candidates
  generalize s.rc.clients = l at hs
  induction l with
  | nil => simp
  | cons p r ih =>
    obtain ⟨hall, hr⟩ := tabSorted_cons.1 hs
    cases hp : candidate s p with
    | none => simpa [hp] using ih hr
    | some x =>
      obtain ⟨hpx, -⟩ := candidate_some.1 hp
      rw [List.filterMap_cons_some hp, List.map_cons, List.pairwise_cons]
      refine ⟨fun i hi => ?_, ih hr⟩
      obtain ⟨y, hy, rfl⟩ := List.mem_map.1 hi
      obtain ⟨q, hq, hc⟩ := List.mem_filterMap.1 hy
      obtain ⟨hqy, -⟩ := candidate_some.1 hc
      have := hall q hq
      rw [hpx, hqy] at this
      exact this

theorem mem_candidates (hs : SortedTable s) {x : Nat × Client × BestReading} : x ∈ candidates s ↔
    clientAt s x.1 = some x.2.1 ∧ x.2.1.role = .served ∧ x.2.1.best = some x.2.2 ∧ takesClients s x.2.2.node = true := by
  unfold candidates
  rw [List.mem_filterMap]
  constructor
  · rintro ⟨p, hp, hc⟩
    obtain ⟨rfl, h⟩ := candidate_some.1 hc
    exact ⟨tabGet_of_mem hs hp, h⟩
  · rintro ⟨hc, h⟩
    exact ⟨(x.1, x.2.1), mem_of_tabGet hc, candidate_some.2 ⟨rfl, h⟩⟩

/-- A candidate beyond the eighth has a higher index than all eight (R62). -/
theorem candidates_beyond (hs : SortedTable s) {x : Nat × Client × BestReading} (hx : x ∈ candidates s) :
    x ∈ (candidates s).take 8 ∨ (((candidates s).take 8).length = 8 ∧ ∀ y ∈ (candidates s).take 8, y.1 < x.1) := by
  rcases List.mem_append.1 ((List.take_append_drop 8 (candidates s)).symm ▸ hx) with h | h
  · exact .inl h
  · have hsort := candidates_sorted hs
    rw [← List.take_append_drop 8 (candidates s), List.map_append, List.pairwise_append] at hsort
    refine .inr ⟨?_, fun y hy => hsort.2.2 _ (List.mem_map_of_mem hy) _ (List.mem_map_of_mem h)⟩
    have : (candidates s).drop 8 ≠ [] := List.ne_nil_of_mem h
    rw [ne_eq, List.drop_eq_nil_iff] at this
    rw [List.length_take]
    omega

end

end Sys2Proof.Machine
end
section
/-! SUPPORT. The own epoch edge as a whole (R11, R16, R72, R83, R105, R145, R161, R162). -/

namespace Sys2Proof.Machine

/-! ## The AC's look in WANTING (R161, R162) -/

section
variable {s : State}

theorem acEdge_idle (h : s.ac.state ≠ .wanting) : acEdge s = s := by simp [acEdge, h]

theorem acEdge_blocked (h : s.ac.state = .wanting) (hb : anyBlocks s = true) : acEdge s = s.setAc { s.ac with count := 0 } := by
  simp [acEdge, h, hb]

theorem acEdge_counts (h : s.ac.state = .wanting) (hb : anyBlocks s = false) (hc : s.ac.count < 3) :
    acEdge s = s.setAc { s.ac with count := s.ac.count + 1 } := by
  simp [acEdge, h, hb, Nat.not_le.2 hc]

/-- The state in which a drain begins: DRAINING with its timer, DRAIN BEGUN raised (R162). -/
def drainBegun (s : State) : State :=
  { s with
    ac := { s.ac with state := .draining, count := 4, drainTimer := some (s.now + Config.drainNs) }
    ml := offerEvent (stamp (.drainBegun (servedCount s) (incomingNumber s)) s) s.ml }

theorem acEdge_drains (h : s.ac.state = .wanting) (hb : anyBlocks s = false) (hc : 3 ≤ s.ac.count) :
    acEdge s = acDrained (offerLoop Config.offerListMax (drainBegun s)) := by
  have hto (x : Ac) : acTo .draining (s.setAc x) = s.setAc { x with state := .draining } := by
    unfold acTo
    dsimp only
    rw [if_neg (by simp)]
    rfl
  have he : acEdge s = enterDraining (s.setAc { s.ac with count := 4 }) := by simp [acEdge, h, hb, hc]
  rw [he, enterDraining, hto]
  rfl

theorem acEdge_serving (h : s.ac.state = .wanting) (hb : anyBlocks s = false) (hc : 3 ≤ s.ac.count) (hn : servedCount s ≠ 0) :
    acEdge s = offerLoop Config.offerListMax (drainBegun s) := by
  have hcount : servedCount (offerLoop Config.offerListMax (drainBegun s)) = servedCount s := by
    simp only [servedCount, offerLoop_frame]
    rfl
  rw [acEdge_drains h hb hc, acDrained_calm (.inr (by rw [hcount]; exact hn))]

theorem acEdge_empty (h : s.ac.state = .wanting) (hb : anyBlocks s = false) (hc : 3 ≤ s.ac.count) (hn : servedCount s = 0) :
    acEdge s = enterLeaving false (drainBegun s) := by
  have hz : servedCount (drainBegun s) = 0 := hn
  rw [acEdge_drains h hb hc, offerLoop_full (offersFull_unserved hz), acDrained, if_pos (by rw [hz]; rfl)]

theorem acEdge_bu (s : State) : (acEdge s).bu = { s.bu with control := (acEdge s).bu.control } := by
  by_cases h : s.ac.state = .wanting
  · cases hb : anyBlocks s with
    | true => rw [acEdge_blocked h hb]; rfl
    | false =>
      by_cases hc : s.ac.count < 3
      · rw [acEdge_counts h hb hc]; rfl
      · rw [acEdge_drains h hb (Nat.not_lt.1 hc)]
        obtain ⟨l, q, -, he⟩ := offerLoop_offered Config.offerListMax (drainBegun s)
        simp only [acDrained_frame]
        rw [he]
        rfl
  · rw [acEdge_idle h]

end

/-! ## The edge -/

theorem issueFetches_bu (u : State) : (issueFetches u).bu = { u.bu with control := (issueFetches u).bu.control } :=
  congrArg State.bu (issueFetches_eq u)

theorem issueFetches_strikes (u : State) :
    (issueFetches u).ie.strikes = u.ie.strikes ∧ (issueFetches u).ie.skips = u.ie.skips :=
  ⟨congrArg (fun t => t.ie.strikes) (issueFetches_eq u), congrArg (fun t => t.ie.skips) (issueFetches_eq u)⟩

section
variable (d : Quad) (s : State)

/-- The state after liveness, the SC's and the ES's work and the counts of an edge (R16, R83, R72). -/
def edgeBase : State := (edgeShare d (livenessAll s)).setFc (edgeCounts s.fc)

/-- The state before the offers of an edge are filled (R145). -/
def edgeFetched : State :=
  if (livenessAll s).ie.fetches.length < s.ie.fetches.length then issueFetches (acEdge (edgeBase d s))
  else acEdge (edgeBase d s)

theorem epochEdge_eq : epochEdge d s = offerFill (edgeFetched d s) := by
  have hfc : (edgeShare d (livenessAll s)).fc = s.fc := by simp
  unfold epochEdge edgeFetched edgeBase
  dsimp only
  rw [hfc]

theorem edgeFetched_leaves : (edgeFetched d s).rc = (acEdge (edgeBase d s)).rc ∧
    (edgeFetched d s).ac = (acEdge (edgeBase d s)).ac ∧ (edgeFetched d s).ml = (acEdge (edgeBase d s)).ml ∧
    (edgeFetched d s).sc = (edgeBase d s).sc ∧ (edgeFetched d s).es = (edgeBase d s).es ∧
    (edgeFetched d s).fc = (edgeBase d s).fc ∧
    (edgeFetched d s).bu = { (livenessAll s).bu with control := (edgeFetched d s).bu.control } ∧
    (edgeFetched d s).ie.strikes = (livenessAll s).ie.strikes ∧ (edgeFetched d s).ie.skips = (livenessAll s).ie.skips := by
  have hbu : (acEdge (edgeBase d s)).bu = { (livenessAll s).bu with control := (acEdge (edgeBase d s)).bu.control } := by
    rw [acEdge_bu]
    simp [edgeBase]
  have hie : (acEdge (edgeBase d s)).ie = (livenessAll s).ie := by simp [edgeBase]
  unfold edgeFetched
  split
  · refine ⟨by simp, by simp, by simp, by simp, by simp, by simp, ?_, ?_, ?_⟩
    · rw [issueFetches_bu, hbu]
    · rw [(issueFetches_strikes _).1, hie]
    · rw [(issueFetches_strikes _).2, hie]
  · exact ⟨rfl, rfl, rfl, by simp, by simp, by simp, hbu, congrArg Ie.strikes hie, congrArg Ie.skips hie⟩

/-- What an edge leaves of the blocks, offers and waiting bulletins apart. -/
structure EdgeLeaves (t : State) : Prop where
  clients : t.rc.clients = (livenessAll s).rc.clients
  ac : t.ac = (acEdge (edgeBase d s)).ac
  ml : t.ml = (acEdge (edgeBase d s)).ml
  sc : t.sc = scEdge (takeSnapshot (livenessAll s) (nextEpoch s.sc.epoch) d) s.sc
  es : t.es = { s.es with tokens := refill s.es.tokens s.sc.staged }
  fc : t.fc = edgeCounts s.fc
  bu : t.bu = { (livenessAll s).bu with control := t.bu.control }
  strikes : t.ie.strikes = (livenessAll s).ie.strikes
  skips : t.ie.skips = (livenessAll s).ie.skips

theorem epochEdge_leaves : EdgeLeaves d s (epochEdge d s) := by
  obtain ⟨hrc, hac, hml, hsc, hes, hfc, hbu, hst, hsk⟩ := edgeFetched_leaves d s
  rw [epochEdge_eq]
  refine ⟨?_, ?_, ?_, ?_, ?_, ?_, ?_, ?_, ?_⟩
  · simp [hrc, edgeBase]
  · simp [hac]
  · simp [hml]
  · simp [hsc, edgeBase, edgeShare]
  · simp [hes, edgeBase, edgeShare, scEdge]
  · simp [hfc, edgeBase]
  · rw [offerFill_bu, hbu]
  · simp [hst]
  · simp [hsk]

/-- Fetches to the peers that are gone are failed back, and others may be issued for them (R146). -/
theorem epochEdge_failedBack : fetchesFailedBack (fun n => decide (n ∈ nodes.filter (goneAtEdge s))) s (epochEdge d s) := by
  have hlost := (edged_livenessAll s).lost
  have hback : FailedBack (fun n => decide (n ∈ nodes.filter (goneAtEdge s)) = true) s.ie (livenessAll s).ie := by
    simp only [decide_eq_true_eq]
    exact hlost.fetches
  have hie : (acEdge (edgeBase d s)).ie = (livenessAll s).ie := by simp [edgeBase]
  have hinc : (livenessAll s).ie.inc = s.ie.inc := by rw [hlost.ie]
  rw [epochEdge_eq]
  unfold edgeFetched
  split
  · exact fetchesFailedBack_issueFetches (y := acEdge (edgeBase d s)) (by rw [hie]; exact hback) (by rw [hie, hinc])
      (by simp [edgeBase]) (by simp) (by simp) (by simp [edgeBase])
  · refine ⟨[], ?_, fun _ => rfl, by simp, by simp, fun k _ => ?_⟩
    · simp only [offerFill_frame, hie, List.append_nil]
      exact hback.fetches_bool
    · simp only [offerFill_frame, hie]
      exact ⟨hback.missing k, hback.other k⟩

variable {d s}

/-- Offers that are full, or not made at all, stay what the AC's look left them (R62). -/
theorem epochEdge_rc (h : acDraining (acEdge (edgeBase d s)) = false ∨ OffersFull (acEdge (edgeBase d s))) :
    (epochEdge d s).rc = (acEdge (edgeBase d s)).rc ∧ ((livenessAll s).ie = s.ie →
      (epochEdge d s).bu.control = (acEdge (edgeBase d s)).bu.control) := by
  obtain ⟨hrc, hac, -, -, -, -, hbu, -⟩ := edgeFetched_leaves d s
  have hpeers : (edgeFetched d s).bu.peers = (acEdge (edgeBase d s)).bu.peers := by
    rw [hbu]
    simp [edgeBase]
  have hstay : offerFill (edgeFetched d s) = edgeFetched d s := by
    rcases h with h | h
    · refine offerFill_idle ?_
      rw [acDraining, hac]
      exact h
    · exact offerFill_full (h.of_eq hrc hpeers)
  rw [epochEdge_eq, hstay]
  refine ⟨hrc, fun hie => ?_⟩
  rw [edgeFetched, if_neg (by rw [hie]; omega)]

end

/-! ## The PULSE that makes it -/

/-- The state in which the edge begins: the PULSE under way, its number used, FRESH counted down (R4, R11, R12). -/
def pulseSent (u : State) (r : List Control) : State :=
  let d := ownDemand u
  let bytes := bulletinBytes u.sl.params 0 u.bu.seq (.pulse (advertisement d u))
  { u with
    bu := { u.bu with
      control := r, seq := nextNonzero u.bu.seq, freshCount := u.bu.freshCount - 1, lastDemand := d }
    es := { u.es with
      backhaulTx := some { bytes := bytes, ends := u.now + wireNs u.pins.straps.bhFast bytes.length } } }

theorem exec_timedPulse {s : State} {fr : TxFrame} {r : List Control} (hl : live s = true) (hf : s.es.backhaulTx = some fr)
    (hp : s.es.pause = none) (hc : s.bu.control = .pulse true :: r) :
    exec .backhaulTxDone s = .next (epochEdge (ownDemand (runTo fr.ends s)) (pulseSent (runTo fr.ends s) r)) := by
  obtain ⟨ha, hr⟩ := Bool.and_eq_true_iff.1 hl
  rw [exec_backhaulTxDone ha hf]
  have hes : (runTo fr.ends s).es = s.es := by simp
  have hbu : (runTo fr.ends s).bu = s.bu := by simp
  have hrun : running (runTo fr.ends s) = true := by simpa [running] using hr
  rw [← hes] at hp ⊢
  rw [← hbu] at hc
  generalize runTo fr.ends s = v at *
  have ready : backhaulReady (v.setEs { v.es with backhaulTx := none }) = true := wake_ready hrun rfl hp
  rw [wake_pulse ready hc, takePulse, pulseBody_eq_advertisement]
  rfl

end Sys2Proof.Machine
end
section
/-! SUPPORT. The own epoch edge clause by clause: peers, clients, events, the AC, the snapshot (R16, R17, R83, R86, R161, R162). -/

namespace Sys2Proof.Machine

section
variable {d : Quad} {s t : State} (h : EdgeLeaves d s t)
include h

/-! ## Peers and clients -/

theorem EdgeLeaves.peers (n : Nat) (hn : 1 ≤ n ∧ n ≤ 8) : peerOf t n = (peerOf s n).bind (edgeEntry s) := by
  have hp : peerOf t n = peerOf (livenessAll s) n := by rw [peerOf, h.bu, peerOf]
  rw [hp, (edged_livenessAll s).peers, if_pos (mem_nodes.2 hn)]

theorem EdgeLeaves.clientAt_lost (i : Nat) :
    clientAt t i = (clientAt s i).map (lostTo s.sl.params s.now (nodes.filter (goneAtEdge s))) := by
  rw [clientAt, h.clients]
  exact (edged_livenessAll s).lost.clients i

/-- A peer that is gone leaves no strikes, no skip timer, no client elsewhere and no client handed to it (R17, R32, R53). -/
theorem EdgeLeaves.gone {n : Nat} {p : Peer} (hn : 1 ≤ n ∧ n ≤ 8) (hp : peerOf s n = some p) (hg : goesAtEdge s p) :
    peerOf t n = none ∧ tabGet t.ie.strikes n = none ∧ tabGet t.ie.skips n = none ∧
    (∀ i c, clientAt s i = some c → c.serving = n → c.role = .remote ∨ c.role = .claiming ∨ c.role = .expecting →
      ∃ o, clientAt t i = some o ∧ o.addr = c.addr ∧ o.role = .orphan ∧ o.serving = 0 ∧ o.claimNo = none ∧
        o.timer = some (s.now + 60000000000)) ∧
    (∀ i c, clientAt s i = some c → c.role = .handing → c.claimant = some n → ∃ o, clientAt t i = some o ∧
      o.addr = c.addr ∧ o.role = .served ∧ o.claimNo = none ∧ o.claimant = none ∧ o.timer = none) := by
  have hgone : goneAtEdge s n = true := by simp [goneAtEdge, hp, edge_goes hg]
  have hmem : n ∈ nodes.filter (goneAtEdge s) := List.mem_filter.2 ⟨mem_nodes.2 hn, hgone⟩
  obtain ⟨hst, hsk⟩ := (edged_livenessAll s).struck n (.inl ⟨mem_nodes.2 hn, hgone⟩)
  refine ⟨by rw [h.peers n hn, hp]; exact edge_goes hg, by rw [h.strikes, hst], by rw [h.skips, hsk], fun i c hc hs hr => ?_,
    fun i c hc hr hcl => ?_⟩
  · obtain ⟨h1, h2, h3, h4, -⟩ := lostTo_elsewhere (p := s.sl.params) (now := s.now) hr (hs ▸ hmem)
    exact ⟨_, by rw [h.clientAt_lost, hc, Option.map_some], sameClient_lostTo.addr, h1, h2, h4, h3⟩
  · obtain ⟨h1, -, h3, h4, h5, -⟩ := lostTo_handing (p := s.sl.params) (now := s.now) hr hcl hmem
    exact ⟨_, by rw [h.clientAt_lost, hc, Option.map_some], sameClient_lostTo.addr, h1, h4, h5, h3⟩

theorem EdgeLeaves.servedCount_eq : servedCount t = servedCount (livenessAll s) := by simp only [servedCount, h.clients]

end

/-! ## The snapshot (R83, R86) -/

section
variable {s : State}

/-- What a node of the mesh contributes to a snapshot, and why one is left out. -/
def partOf (own : Quad) (s : State) (n : Nat) : Option Part :=
  if n = s.sl.params.node then some { node := n, demand := own, held := false, served := servedCount s }
  else (peerOf s n).bind (fun p => if (shareReason p).isNone then
    some { node := n, demand := p.adv.demand, held := decide (1 ≤ p.quiet), served := p.adv.served } else none)

def leftOut (s : State) (n : Nat) : Option (Nat × ShareReason) :=
  (peerOf s n).bind (fun p => (shareReason p).map (fun r => (n, r)))

theorem shareParts_eq (own : Quad) (s : State) : shareParts s own = nodes.filterMap (partOf own s) := by
  unfold shareParts
  refine congrFun (congrArg List.filterMap (funext fun n => ?_)) nodes
  unfold partOf
  cases peerOf s n <;> rfl

theorem shareExcluded_eq (s : State) : shareExcluded s = nodes.filterMap (leftOut s) := by
  unfold shareExcluded
  refine congrFun (congrArg List.filterMap (funext fun n => ?_)) nodes
  unfold leftOut
  cases peerOf s n <;> rfl

theorem partOf_node {own : Quad} {n : Nat} {x : Part} (h : partOf own s n = some x) : x.node = n := by
  unfold partOf at h
  split at h
  · obtain rfl := Option.some.inj h
    rfl
  · obtain ⟨p, -, hx⟩ := Option.bind_eq_some_iff.1 h
    split at hx
    · obtain rfl := Option.some.inj hx
      rfl
    · cases hx

theorem leftOut_node {n : Nat} {x : Nat × ShareReason} (h : leftOut s n = some x) : x.1 = n := by
  obtain ⟨p, -, hx⟩ := Option.bind_eq_some_iff.1 h
  obtain ⟨r, -, rfl⟩ := Option.map_eq_some_iff.1 hx
  rfl

/-- Nodes that are looked at in order give a list in order. -/
theorem pairwise_filterMap_nodes {α : Type} {f : Nat → Option α} {g : α → Nat} (hf : ∀ n x, f n = some x → g x = n) :
    ((nodes.filterMap f).map g).Pairwise (· < ·) := by
  have hn : nodes.Pairwise (· < ·) := by decide
  rw [List.pairwise_map]
  exact hn.filterMap f fun a b hab x hx y hy => by rwa [hf a x hx, hf b y hy]

/-- Participants and excluded peers stand in node order (assumption log 26). -/
theorem snapshot_sorted (s : State) (e : Nat) (own : Quad) :
    ((takeSnapshot s e own).parts.map Part.node).Pairwise (· < ·) ∧
    ((takeSnapshot s e own).excluded.map Prod.fst).Pairwise (· < ·) := by
  simp only [takeSnapshot, shareParts_eq, shareExcluded_eq]
  exact ⟨pairwise_filterMap_nodes fun _ _ => partOf_node, pairwise_filterMap_nodes fun _ _ => leftOut_node⟩

theorem shareReason_none {p : Peer} : shareReason p = none ↔
    p.state = .present ∧ p.mismatch = false ∧ p.adv.supplyFail = false ∧ p.quiet ≤ 3 := by
  unfold shareReason
  cases hs : p.state with
  | joining => simp
  | silent => simp
  | present =>
    cases hm : p.mismatch with
    | true => simp
    | false =>
      cases hf : p.adv.supplyFail with
      | true => simp
      | false =>
        by_cases hq : 4 ≤ p.quiet
        · simp [hq]
          omega
        · simp [hq]
          omega

theorem mem_shareParts {own : Quad} {x : Part} : x ∈ shareParts s own ↔
    (1 ≤ s.sl.params.node ∧ s.sl.params.node ≤ 8 ∧
      x = { node := s.sl.params.node, demand := own, held := false, served := servedCount s }) ∨
    (∃ n p, 1 ≤ n ∧ n ≤ 8 ∧ n ≠ s.sl.params.node ∧ peerOf s n = some p ∧ p.state = .present ∧ p.mismatch = false ∧
      p.adv.supplyFail = false ∧ p.quiet ≤ 3 ∧
      x = { node := n, demand := p.adv.demand, held := decide (1 ≤ p.quiet), served := p.adv.served }) := by
  rw [shareParts_eq, List.mem_filterMap]
  constructor
  · rintro ⟨n, hn, hx⟩
    obtain ⟨h1, h8⟩ := mem_nodes.1 hn
    unfold partOf at hx
    split at hx
    · rename_i he
      subst he
      exact .inl ⟨h1, h8, (Option.some.inj hx).symm⟩
    · rename_i he
      obtain ⟨p, hp, hx⟩ := Option.bind_eq_some_iff.1 hx
      split at hx
      · rename_i hr
        obtain ⟨k1, k2, k3, k4⟩ := shareReason_none.1 (Option.isNone_iff_eq_none.1 hr)
        exact .inr ⟨n, p, h1, h8, he, hp, k1, k2, k3, k4, (Option.some.inj hx).symm⟩
      · cases hx
  · rintro (⟨h1, h8, rfl⟩ | ⟨n, p, h1, h8, he, hp, k1, k2, k3, k4, rfl⟩)
    · exact ⟨_, mem_nodes.2 ⟨h1, h8⟩, if_pos rfl⟩
    · refine ⟨n, mem_nodes.2 ⟨h1, h8⟩, ?_⟩
      have hr : shareReason p = none := shareReason_none.2 ⟨k1, k2, k3, k4⟩
      simp [partOf, he, hp, hr]

theorem shareReason_eq (p : Peer) : shareReason p =
    if p.state = .joining then some .joining else if p.state = .silent then some .silent
    else if p.mismatch then some .period else if p.adv.supplyFail then some .supply
    else if 4 ≤ p.quiet then some .quiet else none := by
  unfold shareReason
  cases p.state <;> rfl

theorem mem_shareExcluded {n : Nat} {why : ShareReason} : (n, why) ∈ shareExcluded s ↔
    ∃ p, 1 ≤ n ∧ n ≤ 8 ∧ peerOf s n = some p ∧ some why = shareReason p := by
  rw [shareExcluded_eq, List.mem_filterMap]
  constructor
  · rintro ⟨k, hk, hx⟩
    obtain ⟨p, hp, hx⟩ := Option.bind_eq_some_iff.1 hx
    obtain ⟨r, hr, he⟩ := Option.map_eq_some_iff.1 hx
    cases he
    exact ⟨p, (mem_nodes.1 hk).1, (mem_nodes.1 hk).2, hp, hr.symm⟩
  · rintro ⟨p, h1, h8, hp, hr⟩
    exact ⟨n, mem_nodes.2 ⟨h1, h8⟩, by simp [leftOut, hp, ← hr]⟩

end

/-- The snapshot of an edge in terms of what the edge leaves (R83, R86). -/
theorem EdgeLeaves.mem_parts {d own : Quad} {t : State} (h : EdgeLeaves d s t) (e : Nat) (x : Part) :
    x ∈ (takeSnapshot (livenessAll s) e own).parts ↔
      (1 ≤ s.sl.params.node ∧ s.sl.params.node ≤ 8 ∧
        x = { node := s.sl.params.node, demand := own, held := false, served := servedCount t }) ∨
      (∃ n p, 1 ≤ n ∧ n ≤ 8 ∧ n ≠ s.sl.params.node ∧ peerOf t n = some p ∧ p.state = .present ∧ p.mismatch = false ∧
        p.adv.supplyFail = false ∧ p.quiet ≤ 3 ∧
        x = { node := n, demand := p.adv.demand, held := decide (1 ≤ p.quiet), served := p.adv.served }) := by
  have hsl : (livenessAll s).sl = s.sl := by simp
  have hpeer (n : Nat) : peerOf (livenessAll s) n = peerOf t n := by rw [peerOf, peerOf, h.bu]
  simp only [takeSnapshot]
  rw [mem_shareParts, hsl, h.servedCount_eq]
  simp only [hpeer]

theorem EdgeLeaves.mem_excluded {d own : Quad} {t : State} (h : EdgeLeaves d s t) (e n : Nat) (why : ShareReason) :
    (n, why) ∈ (takeSnapshot (livenessAll s) e own).excluded ↔ ∃ p, 1 ≤ n ∧ n ≤ 8 ∧ peerOf t n = some p ∧
      some why = (if p.state = .joining then some .joining else if p.state = .silent then some .silent
        else if p.mismatch then some .period else if p.adv.supplyFail then some .supply
        else if 4 ≤ p.quiet then some .quiet else none) := by
  have hpeer (n : Nat) : peerOf (livenessAll s) n = peerOf t n := by rw [peerOf, peerOf, h.bu]
  simp only [takeSnapshot]
  rw [mem_shareExcluded]
  simp only [hpeer, shareReason_eq]

/-! ## What is raised in a table of one peer -/

section
variable {s : State}

/-- Nothing is noted of any peer at an edge that no look says anything of. -/
theorem livenessAll_calm (h : ∀ n p, 1 ≤ n → n ≤ 8 → peerOf s n = some p →
    ¬ joinsAtEdge s p ∧ ¬ quietsAtEdge s p ∧ ¬ goesAtEdge s p) :
    (livenessAll s).rc = s.rc ∧ (livenessAll s).ml = s.ml ∧ (livenessAll s).ie = s.ie := by
  refine (edged_livenessAll s).calm fun n p hn hp => ?_
  obtain ⟨h1, h8⟩ := mem_nodes.1 hn
  obtain ⟨hj, hq, hg⟩ := h n p h1 h8 hp
  exact (edge_calm hj hq hg).2

/-- The AC's look starts from what liveness left and from the AC as it was. -/
theorem edgeBase_fields (d : Quad) (s : State) : (edgeBase d s).ac = s.ac ∧ (edgeBase d s).rc = (livenessAll s).rc ∧
    (edgeBase d s).ml = (livenessAll s).ml ∧ (edgeBase d s).ie = (livenessAll s).ie ∧ (edgeBase d s).su = s.su ∧
    (edgeBase d s).now = s.now ∧ (edgeBase d s).bu = (livenessAll s).bu ∧ (edgeBase d s).sl = s.sl := by
  simp [edgeBase]

theorem servedCount_edgeBase (d : Quad) (s : State) : servedCount (edgeBase d s) = 0 ↔ servedCount s = 0 := by
  have h : servedCount (edgeBase d s) = servedCount (livenessAll s) := by
    simp only [servedCount, (edgeBase_fields d s).2.1]
  rw [h]
  exact (edged_livenessAll s).served

theorem incomingNumber_edgeBase (d : Quad) (s : State) : incomingNumber (edgeBase d s) = incomingNumber s := by
  have h : (edgeBase d s).ie.incDesc = s.ie.incDesc := by
    obtain ⟨-, -, -, hie, -⟩ := edgeBase_fields d s
    rw [hie, (edged_livenessAll s).lost.ie]
  rw [incomingNumber, h, incomingNumber]

variable {d : Quad} {t : State}

theorem EdgeLeaves.anyBlocks_iff (h : EdgeLeaves d s t) : anyBlocks (edgeBase d s) = true ↔
    ∃ n p, 1 ≤ n ∧ n ≤ 8 ∧ peerOf t n = some p ∧ p.state = .present ∧
      (p.adv.draining = true ∨ p.adv.leaving = true ∨ (n < s.sl.params.node ∧ p.adv.drainWanted = true)) := by
  obtain ⟨-, -, -, -, -, -, hbu, hsl⟩ := edgeBase_fields d s
  have hp (n : Nat) : peerOf (edgeBase d s) n = peerOf t n := by rw [peerOf, hbu, peerOf, h.bu]
  rw [anyBlocks, List.any_eq_true]
  constructor
  · rintro ⟨n, hn, hb⟩
    obtain ⟨h1, h8⟩ := mem_nodes.1 hn
    rw [peerBlocks, hp, hsl] at hb
    cases hpe : peerOf t n with
    | none => simp [hpe] at hb
    | some p =>
      simp only [hpe, Bool.and_eq_true, Bool.or_eq_true, beq_iff_eq, decide_eq_true_eq, or_assoc] at hb
      exact ⟨n, p, h1, h8, hpe, hb⟩
  · rintro ⟨n, p, h1, h8, hpe, hb⟩
    refine ⟨n, mem_nodes.2 ⟨h1, h8⟩, ?_⟩
    rw [peerBlocks, hp, hsl]
    simp only [hpe, Bool.and_eq_true, Bool.or_eq_true, beq_iff_eq, decide_eq_true_eq, or_assoc]
    exact hb

/-- Where no drain begins, the AC's look changes its count at most (R161). -/
theorem acEdge_undrained {u : State} (hw : u.ac.state ≠ .wanting ∨ anyBlocks u = true ∨ u.ac.count < 3) :
    acEdge u = u.setAc (if u.ac.state = .wanting then
      { u.ac with count := if anyBlocks u = true then 0 else u.ac.count + 1 } else u.ac) := by
  by_cases hwant : u.ac.state = .wanting
  · rw [if_pos hwant]
    cases hb : anyBlocks u with
    | true => exact acEdge_blocked hwant hb
    | false =>
      rcases hw with hw | hw | hw
      · exact absurd hwant hw
      · rw [hb] at hw
        cases hw
      · exact acEdge_counts hwant hb hw
  · rw [if_neg hwant, acEdge_idle hwant]
    rfl

theorem EdgeLeaves.undrained (h : EdgeLeaves d s t) (hw : s.ac.state ≠ .wanting ∨ anyBlocks (edgeBase d s) = true ∨ s.ac.count < 3) :
    acEdge (edgeBase d s) = (edgeBase d s).setAc t.ac ∧ t.ac = (if s.ac.state = .wanting then
      { s.ac with count := if anyBlocks (edgeBase d s) = true then 0 else s.ac.count + 1 } else s.ac) := by
  obtain ⟨hac, -⟩ := edgeBase_fields d s
  have ht := h.ac
  rw [← hac] at hw
  rw [acEdge_undrained hw, hac] at ht ⊢
  exact ⟨by rw [ht]; simp only [State.setAc_ac], ht⟩

end

end Sys2Proof.Machine
end
section
/-! SUPPORT. The own epoch edge of a node that begins a drain, and the edge as a whole (R62, R63, R161 to R163). -/

namespace Sys2Proof.Machine

/-! ## A drain that begins -/

section
variable {d : Quad} {s : State}

/-- The AC's look begins a drain: WANTING, no peer in its way, the fourth edge in a row (R161, R162). -/
structure Drains (d : Quad) (s : State) : Prop where
  wanting : s.ac.state = .wanting
  clear : anyBlocks (edgeBase d s) = false
  count : 3 ≤ s.ac.count

/-- The state in which an edge begins a drain. -/
def drainBase (d : Quad) (s : State) : State := drainBegun (edgeBase d s)

theorem drainBase_fields (d : Quad) (s : State) :
    (drainBase d s).ac = { s.ac with state := .draining, count := 4, drainTimer := some (s.now + 60000000000) } ∧
    (drainBase d s).rc = (livenessAll s).rc ∧ (drainBase d s).now = s.now ∧ (drainBase d s).sl = s.sl ∧
    (drainBase d s).su = s.su ∧ (drainBase d s).bu = (livenessAll s).bu ∧
    incomingNumber (drainBase d s) = incomingNumber s ∧ (servedCount (drainBase d s) = 0 ↔ servedCount s = 0) := by
  obtain ⟨hac, hrc, -, -, hsu, hnow, hbu, hsl⟩ := edgeBase_fields d s
  have hinc := incomingNumber_edgeBase d s
  have hserv := servedCount_edgeBase d s
  unfold drainBase
  generalize edgeBase d s = u at *
  rw [← hac, ← hrc, ← hsu, ← hnow, ← hbu, ← hsl, ← hinc, ← hserv]
  exact ⟨rfl, rfl, rfl, rfl, rfl, rfl, rfl, .rfl⟩

theorem Drains.serving (h : Drains d s) (hn : servedCount s ≠ 0) :
    acEdge (edgeBase d s) = offerLoop Config.offerListMax (drainBase d s) := by
  obtain ⟨hac, -⟩ := edgeBase_fields d s
  exact acEdge_serving (by rw [hac]; exact h.wanting) h.clear (by rw [hac]; exact h.count)
    (fun hz => hn ((servedCount_edgeBase d s).1 hz))

theorem Drains.empty (h : Drains d s) (hn : servedCount s = 0) :
    acEdge (edgeBase d s) = enterLeaving false (drainBase d s) := by
  obtain ⟨hac, -⟩ := edgeBase_fields d s
  exact acEdge_empty (by rw [hac]; exact h.wanting) h.clear (by rw [hac]; exact h.count) ((servedCount_edgeBase d s).2 hn)

/-- What DRAIN BEGUN says when no peer's look says anything (R162). -/
theorem drainBase_calm (hc : (livenessAll s).rc = s.rc ∧ (livenessAll s).ml = s.ml ∧ (livenessAll s).ie = s.ie) :
    (drainBase d s).ml = offerEvent (stamp (.drainBegun (servedCount s) (incomingNumber s)) s) s.ml := by
  obtain ⟨-, hrc, hml, -, hsu, -⟩ := edgeBase_fields d s
  have hserv : servedCount (edgeBase d s) = servedCount s := by simp only [servedCount, hrc, hc.1]
  have hinc := incomingNumber_edgeBase d s
  unfold drainBase
  rw [hc.2.1] at hml
  generalize edgeBase d s = u at *
  rw [drainBegun, hserv, hinc, hml, stamp, stamp, hsu]

theorem drains_ac (h : Drains d s) (hn : servedCount s ≠ 0) :
    (epochEdge d s).ac = { s.ac with state := .draining, count := 4, drainTimer := some (s.now + 60000000000) } := by
  rw [(epochEdge_leaves d s).ac, h.serving hn]
  simpa using (drainBase_fields d s).1

theorem drains_ml (h : Drains d s) (hn : servedCount s ≠ 0)
    (hc : (livenessAll s).rc = s.rc ∧ (livenessAll s).ml = s.ml ∧ (livenessAll s).ie = s.ie) :
    (epochEdge d s).ml = offerEvent (stamp (.drainBegun (servedCount s) (incomingNumber s)) s) s.ml := by
  rw [(epochEdge_leaves d s).ml, h.serving hn]
  simpa using drainBase_calm hc

/-- The offers of a drain that begins: the first eight candidates (R62). -/
theorem drains_offering (h : Drains d s) (hn : servedCount s ≠ 0) (hr : running s = true) (hs : SortedTable s)
    (ho : NoOffers s) (hl : s.rc.lapsed = []) :
    SortedTable (drainBase d s) ∧ (epochEdge d s).rc = (offering 8 (drainBase d s)).rc ∧
    ((livenessAll s).ie = s.ie → (epochEdge d s).bu.control = (offering 8 (drainBase d s)).bu.control) := by
  obtain ⟨-, hrc, -, hsl, -, -⟩ := drainBase_fields d s
  have hs' : SortedTable (drainBase d s) := by
    rw [SortedTable, hrc]
    exact (edged_livenessAll s).sorted hs
  have ho' : NoOffers (drainBase d s) := by
    rw [NoOffers, hrc]
    exact (edged_livenessAll s).offers ho
  have hl' : (drainBase d s).rc.lapsed = [] := by
    rw [hrc, (edged_livenessAll s).lost.rc]
    exact hl
  have hr' : running (drainBase d s) = true := by
    rw [running, hsl]
    exact hr
  have heq : acEdge (edgeBase d s) = offering 8 (drainBase d s) :=
    (h.serving hn).trans (offerLoop_empty hr' hs' hl' ho')
  have hfull := offersFull_offering hs' hl'
  have hstay := epochEdge_rc (d := d) (s := s) (.inr (heq ▸ hfull))
  rw [heq] at hstay
  exact ⟨hs', hstay⟩

theorem drains_empty (h : Drains d s) (hn : servedCount s = 0) :
    (epochEdge d s).ac = { s.ac with
      state := .leaving, count := 4, drainTimer := none, lapseTimer := some (s.now + 600000000000) } ∧
    (epochEdge d s).rc.offers = [] ∧ (epochEdge d s).rc.lapsed = [] ∧
    ((livenessAll s).rc = s.rc ∧ (livenessAll s).ml = s.ml ∧ (livenessAll s).ie = s.ie →
      (epochEdge d s).ml = offerEvent (stamp (.readyToRestart (incomingNumber s) 0 false) s)
        (offerEvent (stamp (.drainBegun 0 (incomingNumber s)) s) s.ml)) := by
  obtain ⟨hac, -, hnow, -, hsu, -, hinc, hserv⟩ := drainBase_fields d s
  have hdr : acDraining (drainBase d s) = true := by rw [acDraining, hac]; rfl
  have heq := (h.empty hn).trans (enterLeaving_draining false hdr)
  have hout : acDraining (acEdge (edgeBase d s)) = false := by rw [heq]; rfl
  obtain ⟨hrc, -⟩ := epochEdge_rc (d := d) (s := s) (.inl hout)
  refine ⟨?_, by rw [hrc, heq], by rw [hrc, heq], fun hc => ?_⟩
  · rw [(epochEdge_leaves d s).ac, heq, hac, hnow]
  · have hml := drainBase_calm (d := d) hc
    rw [hn] at hml
    have hst (e : Event) : stamp e (drainBase d s) = stamp e s := by rw [stamp, stamp, hsu]
    rw [(epochEdge_leaves d s).ml, heq]
    dsimp only
    rw [hserv.2 hn, hinc, hml, hst]

end

/-! ## The statement -/

/-- Settles O36: the PULSE and the share by the blocks an edge writes, the peers by their looks, the AC by its own. -/
theorem epochEdgeOnTimedPulse : Obligations.EpochEdgeOnTimedPulse := by
  intro s fr r hl hf hp hc
  have hex := exec_timedPulse hl hf hp hc
  have hprof : (runTo fr.ends s).su.profiles = s.su.profiles := by
    unfold runTo
    split <;> rfl
  obtain ⟨m, y, hu⟩ := runTo_cases fr.ends s
  rw [hu] at hex hprof ⊢
  intro u demand heard aged joins quiets goes served
  have hr : running (pulseSent u r) = true := (Bool.and_eq_true_iff.1 hl).2
  have hE := epochEdge_leaves (ownDemand u) (pulseSent u r)
  have hback := epochEdge_failedBack (ownDemand u) (pulseSent u r)
  have hdrains := drains_ac (d := ownDemand u) (s := pulseSent u r)
  have hdrainsMl := drains_ml (d := ownDemand u) (s := pulseSent u r)
  have hoffers := drains_offering (d := ownDemand u) (s := pulseSent u r)
  have hempty := drains_empty (d := ownDemand u) (s := pulseSent u r)
  have hrcs := epochEdge_rc (d := ownDemand u) (s := pulseSent u r)
  obtain ⟨-, hflash, hsl, hpins, hnow, -⟩ := epochEdge_frame (ownDemand u) (pulseSent u r)
  have hsu : (epochEdge (ownDemand u) (pulseSent u r)).su = y := (epochEdge_frame _ _).1
  have hlive := edged_livenessAll (pulseSent u r)
  have hbu : (epochEdge (ownDemand u) (pulseSent u r)).bu = { (pulseSent u r).bu with
      control := (epochEdge (ownDemand u) (pulseSent u r)).bu.control
      peers := (epochEdge (ownDemand u) (pulseSent u r)).bu.peers } := by
    rw [hE.bu, hlive.bu]
  refine ⟨_, hex, ?_⟩
  generalize epochEdge (ownDemand u) (pulseSent u r) = t at *
  have hdemand : t.bu.lastDemand = ownDemand u := by rw [hbu]; rfl
  have settled (h : ∀ n p, 1 ≤ n → n ≤ 8 → peerOf s n = some p → ¬ joins p ∧ ¬ quiets p ∧ ¬ goes p) :=
    livenessAll_calm (s := pulseSent u r) h
  have hblocked := hE.anyBlocks_iff
  refine ⟨by rw [hbu]; rfl, by rw [hbu]; rfl, hdemand.trans rfl, by rw [hE.sc]; rfl, by rw [hE.sc]; rfl, by rw [hE.sc]; rfl,
    by rw [hE.sc]; rfl, by rw [hE.sc]; rfl, by rw [hE.es]; rfl, ?_, by rw [hE.fc]; rfl, by rw [hE.fc]; rfl, by rw [hE.es]; rfl,
    by rw [hsu]; exact hprof, hnow, fun n p h1 h8 hpe => ⟨fun hj => ?_, fun hq => ?_, fun hj hq hg => ?_, fun hg => ?_⟩, ?_,
    fun n p h1 h8 hone hw => ?_, ?_, ?_⟩
  · intro bytes
    rw [hE.es]
    show some _ = some _
    rw [show bytes = bulletinBytes s.sl.params 0 s.bu.seq (.pulse (advertisement (ownDemand u) u)) by rw [← hdemand]]
    rfl
  · rw [hE.peers n ⟨h1, h8⟩, show peerOf (pulseSent u r) n = some p from hpe]
    exact (edge_joins (s := pulseSent u r) (n := n) hj).1
  · rw [hE.peers n ⟨h1, h8⟩, show peerOf (pulseSent u r) n = some p from hpe]
    exact (edge_quiets (s := pulseSent u r) (n := n) hq).1
  · rw [hE.peers n ⟨h1, h8⟩, show peerOf (pulseSent u r) n = some p from hpe]
    exact (edge_calm (s := pulseSent u r) (n := n) hj hq hg).1
  · exact hE.gone ⟨h1, h8⟩ hpe hg
  · have hback' : fetchesFailedBack (fun n => decide (n ∈ nodes.filter (goneAtEdge (pulseSent u r)))) s t := hback
    refine (congrArg (fun l => fetchesFailedBack l s t) (funext fun n => ?_)).mpr hback'
    have hpe : peerOf (pulseSent u r) n = peerOf s n := rfl
    simp only [List.mem_filter, mem_nodes, goneAtEdge, hpe]
    cases peerOf s n with
    | none => simp
    | some p =>
      have hgo : (edgeEntry (pulseSent u r) p).isNone = true ↔ goes p :=
        Option.isNone_iff_eq_none.trans goesAtEdge_iff.symm
      simp only [Option.any_some, hgo]
      rw [Bool.eq_iff_iff]
      simp only [goes, Bool.and_eq_true, Bool.or_eq_true, decide_eq_true_eq, beq_iff_eq, and_assoc]
  · intro e
    have hac : t.ml = (livenessAll (pulseSent u r)).ml := by
      rw [hE.ml, acEdge_idle (by rw [(edgeBase_fields _ _).1]; exact hw)]
      exact (edgeBase_fields _ _).2.2.1
    have kept (hk : edgeEntry (pulseSent u r) p ≠ none) :
        t.ml = offerAll (pulseSent u r) (edgeEvents n (agedPeer (pulseSent u r) p)) s.ml :=
      hac.trans (livenessAll_ml_kept (s := pulseSent u r) h1 h8 hone hk)
    refine ⟨fun hj => ?_, fun hq => ?_, fun hj hq hg => ?_, fun hg => ?_⟩
    · obtain ⟨he, hev⟩ := edge_joins (s := pulseSent u r) (n := n) hj
      rw [kept (by simp [he]), hev]
      rfl
    · obtain ⟨he, hev⟩ := edge_quiets (s := pulseSent u r) (n := n) hq
      rw [kept (by simp [he]), hev]
      rfl
    · obtain ⟨he, hev⟩ := edge_calm (s := pulseSent u r) (n := n) hj hq hg
      rw [kept (by simp [he]), hev]
      rfl
    · obtain ⟨hnone, hsome⟩ := livenessAll_ml_gone (s := pulseSent u r) h1 h8 hone (edge_goes hg)
      refine ⟨fun hcl => hac.trans (hnone hcl), fun i c hcl hs hn => ?_, fun i c hcl hh hn => ?_⟩
      · rw [hac, hsome i c hcl, lossEvents, if_pos ⟨hn, hs⟩]
        rfl
      · rw [hac, hsome i c hcl, lossEvents, if_neg (by simp [hh]), if_pos ⟨hh, hn⟩]
        rfl
  · intro blocks blocked calm e takes wanting
    have hblocked' : anyBlocks (edgeBase (ownDemand u) (pulseSent u r)) = true ↔ blocked := hblocked
    have undrained := hE.undrained
    have drains (hw : wanting) (hb : ¬ blocked) (hcount : 3 ≤ s.ac.count) : Drains (ownDemand u) (pulseSent u r) :=
      ⟨hw, Bool.eq_false_iff.2 fun h => hb (hblocked'.1 h), hcount⟩
    refine ⟨fun hw => (undrained (.inl hw)).2.trans (if_neg hw), fun hw hb => ?_, fun hw hb hcount => ?_,
      fun hcalm hdr hw => ?_, fun n hw hb hcount hn hd => ?_, fun n hw hb hcount hn hd => ?_⟩
    · refine (undrained (.inr (.inl (hblocked'.2 hb)))).2.trans ((if_pos hw).trans ?_)
      rw [if_pos (hblocked'.2 hb)]
      rfl
    · refine (undrained (.inr (.inr hcount))).2.trans ((if_pos hw).trans ?_)
      rw [if_neg fun h => hb (hblocked'.1 h)]
      rfl
    · obtain ⟨heq, hac⟩ := undrained (hw.imp id (Or.imp hblocked'.2 id))
      obtain ⟨-, hbrc, hbml, -, -, -, hbbu, -⟩ := edgeBase_fields (ownDemand u) (pulseSent u r)
      have hst : t.ac.state = s.ac.state := by
        rw [hac]
        split <;> rfl
      have hnd : acDraining (acEdge (edgeBase (ownDemand u) (pulseSent u r))) = false := by
        rw [heq, acDraining, State.setAc_ac, hst]
        exact hdr
      obtain ⟨hrc, hctl⟩ := hrcs (.inl hnd)
      obtain ⟨krc, kml, kie⟩ := settled hcalm
      refine ⟨?_, ?_, ?_⟩
      · rw [hE.ml, heq, State.setAc_ml, hbml, kml]
        rfl
      · rw [hrc, heq, State.setAc_rc, hbrc, krc]
        rfl
      · rw [hctl kie, heq, State.setAc_bu, hbbu, hlive.bu]
        rfl
    · have hD := drains hw hb hcount
      have hinc : incomingNumber (pulseSent u r) = n.number := by
        show ((s.ie.incDesc).map Desc.number).getD 0 = _
        rw [hd]
        rfl
      refine ⟨hdrains hD hn, fun hcalm => ?_, fun hs ho hlap => ?_⟩
      · rw [hdrainsMl hD hn (settled hcalm), hinc]
        rfl
      · obtain ⟨hsx, hrc, hctl⟩ := hoffers hD hn hr hs ho hlap
        obtain ⟨-, hxrc, hxnow, -, -, hxbu, -⟩ := drainBase_fields (ownDemand u) (pulseSent u r)
        generalize drainBase (ownDemand u) (pulseSent u r) = x at hsx hrc hctl hxrc hxnow hxbu
        have hcl (i : Nat) : clientAt t i = clientAt x i := by rw [clientAt, hrc]; rfl
        have htakes (k : Nat) : takesClients x k = true ↔ takes k := by
          have hpeer : peerOf x k = peerOf t k := by rw [peerOf, hxbu, peerOf, hE.bu]
          rw [takesClients, isPresent, isDrainingPeer, hpeer]
          cases hpt : peerOf t k with
          | none => simp [takes, hpt]
          | some p => simp [takes, hpt]
        refine ⟨(candidates x).take 8, ?_, fun hcalm => ?_, ?_, ?_, fun z hz => ?_, fun i c b hci hrole hbest ht => ?_⟩
        · rw [hrc]
          show ((candidates x).take 8).map (offerOf x) = _
          refine List.map_congr_left fun z _ => ?_
          rw [offerOf, hxnow]
          rfl
        · rw [hctl (settled hcalm).2.2]
          show ((candidates x).take 8).foldl _ x.bu.control = _
          rw [hxbu, hlive.bu]
          rfl
        · exact List.length_take_le 8 _
        · rw [List.map_take]
          exact (candidates_sorted hsx).take
        · obtain ⟨h1, h2, h3, h4⟩ := (mem_candidates hsx).1 (List.mem_of_mem_take hz)
          exact ⟨(hcl _).trans h1, h2, h3, (htakes _).1 h4⟩
        · exact candidates_beyond hsx ((mem_candidates hsx).2 ⟨(hcl i).symm.trans hci, hrole, hbest, (htakes _).2 ht⟩)
    · have hD := drains hw hb hcount
      have hinc : incomingNumber (pulseSent u r) = n.number := by
        show ((s.ie.incDesc).map Desc.number).getD 0 = _
        rw [hd]
        rfl
      obtain ⟨hac, hof, hlap, hml⟩ := hempty hD hn
      refine ⟨hac, hof, hlap, fun hcalm => ?_⟩
      rw [hml (settled hcalm), hinc]
      rfl
  · have hbsl : (livenessAll (pulseSent u r)).sl = s.sl := hlive.lost.sl
    refine ⟨takeSnapshot (livenessAll (pulseSent u r)) (nextEpoch s.sc.epoch) (ownDemand u), by rw [hE.sc]; rfl, rfl, ?_, ?_,
      ?_, ?_, fun x => ?_, fun n why => ?_⟩
    · exact congrArg (fun l : Sl => l.params.node) hbsl
    · show _ = _
      simp only [takeSnapshot, hbsl]
    · exact (snapshot_sorted _ _ _).1
    · exact (snapshot_sorted _ _ _).2
    · rw [hdemand]
      exact hE.mem_parts _ x
    · exact hE.mem_excluded _ n why

end Sys2Proof.Machine
end
section
/-! SUPPORT. Queues brought within lowered limits, and block 0 replaced (R115, R189). -/

namespace Sys2Proof.Machine

/-! ## Limits lowered by a reload (R115) -/

theorem cellsOf_cons (e : QEntry) (l : List QEntry) : cellsOf (e :: l) = e.cells + cellsOf l := by simp [cellsOf]

theorem cellsOf_reverse (l : List QEntry) : cellsOf l.reverse = cellsOf l := by
  exact ((List.reverse_perm l).map QEntry.cells).sum_eq

/-- The oldest entries go, and no more of them than the limit asks for (R115). -/
theorem trimOldest_drop (limit : Nat) (q : List QEntry) : ∃ k, trimOldest limit q = q.drop k ∧
    cellsOf (trimOldest limit q) ≤ limit ∧ ∀ j, j < k → limit < cellsOf (q.drop j) := by
  induction q with
  | nil => exact ⟨0, rfl, Nat.zero_le _, by simp⟩
  | cons e r ih =>
    unfold trimOldest
    split
    · rename_i h
      exact ⟨0, rfl, h, by simp⟩
    · rename_i h
      obtain ⟨k, he, hc, hj⟩ := ih
      refine ⟨k + 1, by simpa using he, hc, fun j hlt => ?_⟩
      cases j with
      | zero => simpa using h
      | succ j => exact hj j (by omega)

theorem trimNewest_take (limit : Nat) (q : List QEntry) : ∃ k, trimNewest limit q = q.take (q.length - k) ∧
    cellsOf (trimNewest limit q) ≤ limit ∧ ∀ j, j < k → limit < cellsOf (q.take (q.length - j)) := by
  obtain ⟨k, he, hc, hj⟩ := trimOldest_drop limit q.reverse
  refine ⟨k, ?_, ?_, fun j hlt => ?_⟩
  · rw [trimNewest, he, List.drop_reverse, List.reverse_reverse]
  · rw [trimNewest, cellsOf_reverse]
    exact hc
  · have := hj j hlt
    rwa [List.drop_reverse, cellsOf_reverse] at this

theorem cellsOf_trimOldest (limit : Nat) (q : List QEntry) : cellsOf (trimOldest limit q) ≤ cellsOf q := by
  induction q with
  | nil => exact Nat.le_refl _
  | cons e r ih =>
    unfold trimOldest
    split
    · exact Nat.le_refl _
    · rw [cellsOf_cons]
      omega

theorem cellsOf_trimNewest (limit : Nat) (q : List QEntry) : cellsOf (trimNewest limit q) ≤ cellsOf q := by
  rw [trimNewest, cellsOf_reverse, ← cellsOf_reverse q]
  exact cellsOf_trimOldest limit q.reverse

/-- The cells of what goes return to the pool (R100, R115). -/
theorem trimQueues_cells (p : Params) (e : Es) : (trimQueues p e).free + heldCells (trimQueues p e) = e.free + heldCells e := by
  have h1 := cellsOf_trimOldest p.limGame e.game
  have h2 := cellsOf_trimNewest p.limStandard e.standard
  have h3 := cellsOf_trimNewest p.limBulk e.bulk
  have h4 := cellsOf_trimNewest p.limUpdate e.update
  have h5 := cellsOf_trimNewest p.limNode e.node
  simp only [trimQueues, heldCells]
  omega

/-- Empty queues are within every limit. -/
theorem trimQueues_empty (p : Params) {e : Es} (hg : e.game = []) (hs : e.standard = []) (hb : e.bulk = [])
    (hu : e.update = []) (hn : e.node = []) : trimQueues p e = e := by
  obtain ⟨game, standard, bulk, update, node⟩ := e
  subst hg hs hb hu hn
  rfl

/-! ## Block 0 (R189) -/

theorem tabGet_filter {α : Type} (f : Nat → Bool) (t : Table α) (k : Nat) :
    tabGet (t.filter (fun p => f p.1)) k = if f k then tabGet t k else none := by
  induction t with
  | nil => simp [tabGet]
  | cons p r ih =>
    obtain ⟨j, v⟩ := p
    by_cases hf : f j = true
    · rw [List.filter_cons_of_pos (by simpa using hf)]
      simp only [tabGet]
      by_cases hj : j = k
      · subst hj
        simp [hf]
      · simp [hj, ih]
    · rw [List.filter_cons_of_neg (by simpa using hf), ih]
      simp only [tabGet]
      by_cases hj : j = k
      · subst hj
        simp [hf]
      · simp [hj]

theorem memRead_memEraseBlock (m : List Host.Cell) (b a : Nat) : memRead (memEraseBlock m b) a =
    if b * 65536 ≤ a ∧ a < b * 65536 + 65536 then 0xFF#8 else memRead m a := by
  have h := tabGet_filter (fun k => decide (k < b * 65536) || decide (b * 65536 + 65536 ≤ k)) m a
  rw [memRead, memEraseBlock, h]
  by_cases hin : b * 65536 ≤ a ∧ a < b * 65536 + 65536
  · rw [if_neg (by simp; omega), if_pos hin]
    rfl
  · rw [if_pos (by simp; omega), if_neg hin]
    rfl

/-- Block 0 replaced: the bytes given, erased beyond them, and every other byte as it was (R189). -/
theorem memRead_replaceBlock_zero (m : List Host.Cell) {d : List Byte} (hd : d.length ≤ 65536) (a : Nat) :
    memRead (replaceBlock m 0 d) a = if a < 65536 then (d[a]?).getD 0xFF#8 else memRead m a := by
  rw [replaceBlock, List.take_of_length_le hd]
  by_cases hlt : a < d.length
  · have h := memRead_memWriteAll_in d (memEraseBlock m 0) (0 * 65536) a hlt
    rw [Nat.zero_mul, Nat.zero_add] at h
    rw [Nat.zero_mul, h, if_pos (by omega), List.getElem?_eq_getElem hlt]
    rfl
  · rw [memRead_memWriteAll_out _ _ _ _ (by omega), memRead_memEraseBlock]
    by_cases hb : a < 65536
    · rw [if_pos (by omega), if_pos hb, List.getElem?_eq_none (by omega)]
      rfl
    · rw [if_neg (by omega), if_neg hb]

end Sys2Proof.Machine
end
section
/-! SUPPORT. RUNNING and ISOLATED entered by a reload, and what new parameters do (R82, R98, R115, R169, R185, R188, R190). -/

namespace Sys2Proof.Machine

/-! ## What the loss of every peer raises -/

theorem LostSmall.trans {l m : List Nat} {s t u : State} (hl : Lost l s t) (h : LostSmall l s t) (k : LostSmall m t u) :
    LostSmall (l ++ m) s u := by
  have happ (p : Params) (now : Nat) (l : List Nat) (c : Client) :
      lossesOf p now (l ++ m) c = lossesOf p now l c ++ lossesOf p now m (lostTo p now l c) := by
    induction l generalizing c with
    | nil => rfl
    | cons n l ih =>
      rw [List.cons_append, lossesOf, lossesOf, ih, List.append_assoc]
      rfl
  refine ⟨fun hc => ?_, fun i c hc => ?_⟩
  · obtain ⟨h1, h2⟩ := h.empty hc
    obtain ⟨k1, k2⟩ := k.empty h1
    exact ⟨k1, k2.trans h2⟩
  · obtain ⟨h1, h2⟩ := h.single i c hc
    obtain ⟨k1, k2⟩ := k.single i _ h1
    rw [hl.sl, hl.now] at k1 k2
    refine ⟨?_, ?_⟩
    · rw [k1]
      exact congrArg (fun e => [(i, e)]) (List.foldl_append ..).symm
    · rw [k2, h2, happ, offerAll_append, offerAll_clock (congrArg Su.clock hl.su)]

theorem lostSmall_allLost (l : List Nat) (s : State) : LostSmall l s (allLost l s) := by
  induction l generalizing s with
  | nil => exact ⟨fun h => ⟨h, rfl⟩, fun i c h => ⟨h, rfl⟩⟩
  | cons n l ih => exact LostSmall.trans (lost_peerAbsent n s) (lostSmall_peerAbsent n s) (ih _)

theorem lostSmall_allPeersAbsent (s : State) : LostSmall (tabKeys s.bu.peers) s (allPeersAbsent s) := by
  have h := lostSmall_allLost (tabKeys s.bu.peers) (setPeers [] s)
  exact ⟨h.empty, h.single⟩

/-- From s to u the event queue alone of the ML has changed. -/
def Linked (s u : State) : Prop := u.ml = { s.ml with events := u.ml.events }

/-- A loss says what it has to say in the event queue alone (R178). -/
theorem allPeersAbsent_link (s : State) : (allPeersAbsent s).ml = { s.ml with events := (allPeersAbsent s).ml.events } := by
  have hlose (n : Nat) (u : State) (h : Linked s u) : Linked s (peerAbsent n u) :=
    holds_loseClients (P := Linked s) (fun i r f v hv => by simpa [Linked] using hv)
      (fun e v (hv : v.ml = _) => by
        show offerEvent (stamp e v) v.ml = { s.ml with events := (offerEvent (stamp e v) v.ml).events }
        rw [offerEvent_eq, hv])
      (fun n v hv => hv) n (s := setPeers (tabErase u.bu.peers n) u) h
  have hall (l : List Nat) (u : State) (h : Linked s u) : Linked s (allLost l u) := by
    induction l generalizing u with
    | nil => exact h
    | cons n l ih => exact ih _ (hlose n u h)
  exact hall (tabKeys s.bu.peers) (setPeers [] s) rfl

/-! ## ISOLATED (R188) -/

/-- The state in which the peers are lost on the way to ISOLATED. -/
def stopped (s : State) : State :=
  { s with
    sl := { s.sl with part := .isolated }
    bu := { s.bu with pulseTimer := none, sightTimer := none, control := [] } }

theorem enterIsolated_eq (s : State) : enterIsolated s =
    let d := setIe (allPeersAbsent (stopped s)) (fun e => { e with serves := [] })
    let e := (d.setFc (edgeCounts d.fc)).setSc { Sc.reset with epoch := d.sc.epoch }
    acIsolated (e.setEs (esIsolated e.es)) := rfl

/-- What WANTING, DRAINING and LEAVING lose on entry to ISOLATED (R169). -/
def stoppedAc (a : Ac) : Ac :=
  if a.state = .wanting ∨ a.state = .draining ∨ a.state = .leaving then
    { a with state := .waiting, count := 0, drainTimer := none, lapseTimer := none, activateNow := false }
  else { a with activateNow := false }

theorem acIsolated_eq (s : State) : acIsolated s = { s with
    ac := stoppedAc s.ac
    rc := if s.ac.state = .draining then { s.rc with offers := [], lapsed := [] } else s.rc } := by
  unfold acIsolated stoppedAc acTo acDraining
  cases h : s.ac.state <;> simp [acStopTimers, clearOffers, State.setAc, State.setRc, h]

/-- What entry to ISOLATED leaves of the blocks (R9, R82, R98, R116, R169, R188). -/
structure Isolated (s t : State) : Prop where
  sl : t.sl = { s.sl with part := .isolated }
  bu : t.bu = { s.bu with pulseTimer := none, sightTimer := none, control := [], peers := [] }
  es : t.es = esIsolated s.es
  sc : t.sc = { Sc.reset with epoch := s.sc.epoch }
  fc : t.fc = edgeCounts s.fc
  ac : t.ac = stoppedAc s.ac
  su : t.su = s.su
  now : t.now = s.now
  pins : t.pins = s.pins
  drained : s.ac.state = .draining → t.rc.offers = [] ∧ t.rc.lapsed = []
  clients : ∀ i, clientAt t i = (clientAt s i).map (lostTo s.sl.params s.now (tabKeys s.bu.peers))
  failed : FailedBack (fun n => knownPeer s n = true) s.ie t.ie
  ie : t.ie = { s.ie with
    fetches := t.ie.fetches, presence := t.ie.presence, strikes := t.ie.strikes, skips := t.ie.skips, serves := [] }
  struck : ∀ n, knownPeer s n = true → tabGet t.ie.strikes n = none ∧ tabGet t.ie.skips n = none
  link : t.ml = { s.ml with events := t.ml.events }
  empty : s.rc.clients = [] → t.ml = s.ml
  single : ∀ i c, s.rc.clients = [(i, c)] → t.ml = offerAll s (lossesOf s.sl.params s.now (tabKeys s.bu.peers) c) s.ml

theorem isolated_enterIsolated (s : State) : Isolated s (enterIsolated s) := by
  obtain ⟨hlost, hbu⟩ := allPeersAbsent_lost (stopped s)
  have hback := allPeersAbsent_failedBack (stopped s)
  have hstr (n : Nat) := allPeersAbsent_strikes (stopped s) (n := n)
  have hlink := allPeersAbsent_link (stopped s)
  have hsmall := lostSmall_allPeersAbsent (stopped s)
  obtain ⟨hfc, hsc, hes, -, -, hac, -, hpins, -⟩ := allPeersAbsent_frame (stopped s)
  rw [enterIsolated_eq, acIsolated_eq]
  generalize allPeersAbsent (stopped s) = u at *
  exact {
    sl := hlost.sl
    bu := hbu
    es := congrArg esIsolated hes
    sc := by rw [show s.sc = u.sc from hsc.symm]; rfl
    fc := congrArg edgeCounts hfc
    ac := congrArg stoppedAc hac
    su := hlost.su
    now := hlost.now
    pins := hpins
    drained := fun h => by
      have hu : u.ac.state = .draining := by rw [hac]; exact h
      simp [setIe, hu]
    clients := fun i => by
      refine Eq.trans ?_ (hlost.clients i)
      show tabGet (ite _ _ _ : Rc).clients i = tabGet u.rc.clients i
      split <;> rfl
    failed := ⟨@fun inst => @FailedBack.fetches _ _ _ hback inst, hback.missing, hback.other⟩
    ie := congrArg (fun e : Ie => { e with serves := [] }) hlost.ie
    struck := fun n hn => hstr n hn
    link := hlink
    empty := fun h => (hsmall.empty h).2
    single := fun i c h => (hsmall.single i c h).2 }

/-! ## New parameters (R82, R115, R190) -/

/-- What new parameters make of a Client Table entry: its GAME flows gone with the Flow Table, its serving node the own one
under a new own number. -/
def reparam (p q : Params) (c : Client) : Client :=
  let e := if q.gmax = p.gmax then c else { c with games := 0 }
  if q.node = p.node then e else ownServing q.node e

theorem applyParams_es (p : Params) (l : Sl) (s : State) : (applyParams p l s).es = trimQueues p s.es := by
  unfold applyParams
  dsimp only
  (repeat' split) <;> simp [setClients]

theorem applyParams_fc (p : Params) (l : Sl) (s : State) : (applyParams p l s).fc =
    if p.gmax = s.sl.params.gmax then s.fc else { s.fc with
      flows := [], gameCount := 0, quietSince := if 0 < s.fc.gameCount then some s.now else s.fc.quietSince } := by
  unfold applyParams
  dsimp only
  by_cases hg : p.gmax = s.sl.params.gmax
  · by_cases hn : p.node = s.sl.params.node <;> simp [hg, hn, setClients]
  · by_cases hn : p.node = s.sl.params.node <;> simp [hg, hn, setClients, emptyFlows_fc] <;> rfl

theorem tabMap_tabMap {α : Type} (t : Table α) (f g : α → α) : tabMap (tabMap t f) g = tabMap t (fun c => g (f c)) := by
  simp [tabMap, Function.comp_def]

theorem tabMap_id {α : Type} (t : Table α) : tabMap t (fun c => c) = t := by simp [tabMap]

theorem applyParams_rc (p : Params) (l : Sl) (s : State) :
    (applyParams p l s).rc = { s.rc with clients := tabMap s.rc.clients (reparam s.sl.params p) } := by
  unfold applyParams reparam
  dsimp only
  by_cases hg : p.gmax = s.sl.params.gmax
  · by_cases hn : p.node = s.sl.params.node <;> simp [hg, hn, setClients, tabMap_id]
  · by_cases hn : p.node = s.sl.params.node <;> simp [hg, hn, setClients, emptyFlows_rc, tabMap_tabMap]

/-- From c to e nothing has changed that new parameters leave as it was. -/
structure Reparamed (c e : Client) : Prop where
  same : SameClient c e
  role : e.role = c.role
  timer : e.timer = c.timer
  claimNo : e.claimNo = c.claimNo
  claimant : e.claimant = c.claimant
  verdict : e.verdict = c.verdict
  best : e.best = c.best

theorem reparamed_ownServing (n : Nat) (c : Client) : Reparamed c (ownServing n c) ∧
    (ownServing n c).serving = if isServing c.role = true then n else c.serving := by
  unfold ownServing
  split
  · rw [setServing_eq]
    exact ⟨⟨⟨rfl, rfl, rfl, rfl, rfl, rfl⟩, rfl, rfl, rfl, rfl, rfl, rfl⟩, rfl⟩
  · exact ⟨⟨.refl c, rfl, rfl, rfl, rfl, rfl, rfl⟩, rfl⟩

theorem reparamed_reparam (p q : Params) (c : Client) : Reparamed c (reparam p q c) ∧
    (reparam p q c).serving = if isServing c.role = true ∧ q.node ≠ p.node then q.node else c.serving := by
  have both (e : Client) (he : Reparamed c e) (hs : e.serving = c.serving) :
      Reparamed c (if q.node = p.node then e else ownServing q.node e) ∧
      (if q.node = p.node then e else ownServing q.node e).serving =
        if isServing c.role = true ∧ q.node ≠ p.node then q.node else c.serving := by
    by_cases hn : q.node = p.node
    · rw [if_pos hn, if_neg (fun h => h.2 hn)]
      exact ⟨he, hs⟩
    · obtain ⟨ho, hos⟩ := reparamed_ownServing q.node e
      rw [if_neg hn, hos, he.role, hs]
      refine ⟨⟨he.same.trans ho.same, ho.role.trans he.role, ho.timer.trans he.timer, ho.claimNo.trans he.claimNo,
        ho.claimant.trans he.claimant, ho.verdict.trans he.verdict, ho.best.trans he.best⟩, ?_⟩
      simp [hn]
  unfold reparam
  split
  · exact both c ⟨.refl c, rfl, rfl, rfl, rfl, rfl, rfl⟩ rfl
  · exact both _ ⟨⟨rfl, rfl, rfl, rfl, rfl, rfl⟩, rfl, rfl, rfl, rfl, rfl, rfl⟩ rfl

/-! ## RUNNING (R11, R14, R80, R98, R185) -/

/-- The state in which the AC looks at a part that enters RUNNING. -/
def started (s : State) : State :=
  { s with
    sl := { s.sl with part := .running }
    bu := { s.bu with
      pulseTimer := some s.now, sightTimer := some (s.now + s.sl.params.sightPeriod * 1000000) }
    sc := { s.sc with epoch := 0 }
    fc := { s.fc with quietSince := if s.fc.gameCount = 0 then some s.now else none } }

theorem enterRunning_eq (s : State) : enterRunning s = acSettle (started s) := rfl

end Sys2Proof.Machine
end
section
/-! SUPPORT. The reload of the start record and what follows the end of a START WRITE (R188, R189, R190). -/

namespace Sys2Proof.Machine

/-! ## The AC of a part that enters RUNNING -/

/-- A part just entered RUNNING meets no activation: of the AC only IDLE and WAITING may follow the image (R158, R159). -/
theorem acSettle_stopped {u : State} (hq : u.fc.quietSince = if u.fc.gameCount = 0 then some u.now else none)
    (hs : u.ac.state ≠ .wanting ∧ u.ac.state ≠ .draining ∧ u.ac.state ≠ .leaving) :
    ∃ a, acSettle u = u.setAc a ∧ (u.ac.state = .waiting → imageDue u = true → a = u.ac) := by
  obtain ⟨h1, h2, h3⟩ := hs
  have hd : acDraining u = false := by simp [acDraining, h2]
  have hto (x : AcState) : acTo x u = u.setAc { u.ac with state := x } := by
    unfold acTo
    rw [hd]
    rfl
  have key (v : State) (hv : acDue u = v) (hst : v.ac.state ≠ .wanting) (hfc : v.fc = u.fc) (hnow : v.now = u.now) :
      acConditions v = v := by
    have hno : activationOk v = false := activationOk_quietNow (by rw [hfc, hnow]; exact hq)
    unfold acConditions
    split
    · rw [hno]
      rfl
    · exact absurd ‹_› hst
    · rfl
  rw [acSettle_undrained hd]
  cases hst : u.ac.state with
  | wanting => exact absurd hst h1
  | draining => exact absurd hst h2
  | leaving => exact absurd hst h3
  | swapping | swapped =>
    have hv : acDue u = u := by simp [acDue, hst]
    rw [key _ rfl (by rw [hv]; exact h1) (by simp) (by simp), hv]
    exact ⟨u.ac, rfl, fun h => by simp at h⟩
  | idle =>
    cases hi : imageDue u with
    | true =>
      have hv : acDue u = u.setAc { u.ac with state := .waiting } := by simp [acDue, hst, hi, hto]
      rw [key _ rfl (by rw [hv]; simp) (by simp) (by simp), hv]
      exact ⟨_, rfl, fun h => by simp at h⟩
    | false =>
      have hv : acDue u = u := by simp [acDue, hst, hi]
      rw [key _ rfl (by rw [hv]; exact h1) (by simp) (by simp), hv]
      exact ⟨u.ac, rfl, fun h => by simp at h⟩
  | waiting =>
    cases hi : imageDue u with
    | true =>
      have hv : acDue u = u := by simp [acDue, hst, hi]
      rw [key _ rfl (by rw [hv]; exact h1) (by simp) (by simp), hv]
      exact ⟨u.ac, rfl, fun _ _ => rfl⟩
    | false =>
      have hv : acDue u = u.setAc { u.ac with
          state := .idle, count := 0, drainTimer := none, lapseTimer := none, activateNow := false } := by
        simp only [acDue, hst, hi, acToIdle, hto]
        rfl
      rw [key _ rfl (by rw [hv]; simp) (by simp) (by simp), hv]
      exact ⟨_, rfl, fun _ h => by simp at h⟩

/-! ## The end of a flash operation -/

/-- Fetches are asked for through the control transmit queue in RUNNING alone (R9, R145). -/
theorem issueFetches_quiet {s : State} (h : running s = false ∨ s.ie.inc ≠ .filling ∨ s.bu.peers = []) :
    (issueFetches s).bu = s.bu := by
  rcases h with h | h | h
  · rcases issueFetches_issuing s with he | ⟨-, -, d, more, he⟩
    · rw [he]
    · rw [he.eq]
      simp [issuedState, h]
  · rw [issueFetches_idle (.inl h)]
  · rw [issueFetches_noPeers h]

/-- What follows the end of an operation, the transmitter waiting: fetches and flash work (R141, R145). -/
structure AfterOp (s t : State) : Prop where
  sl : t.sl = s.sl
  rc : t.rc = s.rc
  fc : t.fc = s.fc
  sc : t.sc = s.sc
  es : t.es = s.es
  su : t.su = s.su
  ac : t.ac = s.ac
  now : t.now = s.now
  flash : t.flash = s.flash
  bu : t.bu = { s.bu with control := t.bu.control }
  kept : running s = false ∨ s.ie.inc ≠ .filling ∨ s.bu.peers = [] → t.bu = s.bu
  serves : s.ie.serves = [] → t.ie.serves = []
  strikes : t.ie.strikes = s.ie.strikes
  skips : t.ie.skips = s.ie.skips
  fetches : s.bu.peers = [] → t.ie.fetches = s.ie.fetches
  presence : s.bu.peers = [] → t.ie.presence = s.ie.presence

theorem afterOp_waits {s : State} (hw : txWaits s = true) : afterOp s = startFlash (issueFetches s) := by
  rw [afterOp, wake_waits (by simpa [txWaits] using hw)]

theorem afterOp_leaves {s : State} (hw : txWaits s = true) : AfterOp s (afterOp s) := by
  have hie := startFlash_ie (issueFetches s)
  rw [afterOp_waits hw]
  exact {
    sl := by simp
    rc := by simp
    fc := by simp
    sc := by simp
    es := by simp
    su := by simp
    ac := by simp
    now := by simp
    flash := by simp
    bu := by
      simp only [startFlash_frame]
      exact issueFetches_bu s
    kept := fun h => by
      simp only [startFlash_frame]
      exact issueFetches_quiet h
    serves := fun h => startFlash_serves (by rw [issueFetches_eq]; exact h)
    strikes := by
      rw [hie]
      exact (issueFetches_strikes s).1
    skips := by
      rw [hie]
      exact (issueFetches_strikes s).2
    fetches := fun h => by
      rw [hie, issueFetches_noPeers h]
    presence := fun h => by
      rw [hie, issueFetches_noPeers h] }

/-- What follows the end of an operation looks at no other field of the link's state. -/
theorem afterOp_setMl {s : State} (m : Ml) (hw : txWaits s = true) :
    AfterOp s (afterOp (s.setMl m)) ∧ (afterOp (s.setMl m)).ml = m := by
  have h : AfterOp (s.setMl m) (afterOp (s.setMl m)) := afterOp_leaves hw
  refine ⟨⟨h.sl, h.rc, h.fc, h.sc, h.es, h.su, h.ac, h.now, h.flash, h.bu, h.kept, h.serves, h.strikes, h.skips, h.fetches,
    h.presence⟩, ?_⟩
  rw [afterOp_waits (s := s.setMl m) hw]
  simp [State.setMl]

/-! ## The reload (R186 to R190) -/

/-- The part with block 0 written and its events raised, before the reload acts (R187, R189). -/
def written (got : List Byte) (s : State) : State :=
  { s with
    ie := { s.ie with op := none }
    flash := { s.flash with mem := replaceBlock s.flash.mem 0 got }
    ml := offerAll s (loadEvents (replaceBlock s.flash.mem 0 got)) s.ml }

/-- What the record of these flash bytes has the part do: none, or its parameters with a node number (R190). -/
def loadParams (m : List Host.Cell) : Option Params :=
  match readRecord m with
  | .bad _ _ => none
  | .items l => if (paramsOf l).node = 0 then none else some (paramsOf l)

/-- The outcome code of the record of these flash bytes (R189). -/
def loadCode (m : List Host.Cell) : Nat :=
  match readRecord m with
  | .bad _ _ => 3
  | .items l => if (l.filterMap clampEvent).isEmpty then 1 else 2

theorem reload_eq (s : State) : reload s =
    (reloadPart (loadParams s.flash.mem) (s.setMl (offerAll s (loadEvents s.flash.mem) s.ml)), loadCode s.flash.mem) := by
  unfold reload loadParams loadCode loadEvents
  cases readRecord s.flash.mem with
  | bad r o => rfl
  | items l =>
    dsimp only
    rw [raiseClamps, foldl_raise]
    rfl

theorem Linked.trans {s t u : State} (h : Linked s t) (k : Linked t u) : Linked s u := by
  unfold Linked at *
  rw [k, h]

theorem acDrained_link (s : State) : Linked s (acDrained s) := by
  have h : (acTo .leaving s).ml = s.ml := by simp
  unfold acDrained
  split
  · rw [enterLeaving, Linked]
    dsimp only [raise, State.setMl, State.setAc]
    rw [offerEvent_eq, h]
  · rfl

/-- The AC's settling may raise READY TO RESTART, and touches the link no further (R163). -/
theorem acSettle_link (s : State) : Linked s (acSettle s) := by
  have hd : Linked s (acDrained (acConditions (acDue s))) := Linked.trans (t := acConditions (acDue s)) (by simp [Linked])
    (acDrained_link _)
  exact hd.trans (by simp [Linked, acSettle])

theorem reloadPart_link (p : Option Params) (s : State) : Linked s (reloadPart p s) := by
  have hrun (u : State) (h : Linked s u) : Linked s (enterRunning u) := h.trans (acSettle_link (started u))
  have hrest (q : Params) (u : State) (h : Linked s u) : Linked s (restartParams q u) := h.trans (by simp [Linked])
  have hiso : Linked s (enterIsolated s) := (isolated_enterIsolated s).link
  unfold reloadPart
  split
  · exact hiso
  · exact rfl
  · split
    · exact hrun _ (hrest _ _ hiso)
    · simp [Linked]
  · exact hrun _ (hrest _ _ rfl)

/-- The reload leaves what is being sent, and a pause, as they are (R116). -/
theorem reloadPart_txWaits (p : Option Params) (s : State) : txWaits (reloadPart p s) = txWaits s := by
  have happly (q : Params) (l : Sl) (u : State) : txWaits (applyParams q l u) = txWaits u := by
    rw [txWaits, applyParams_es]
    rfl
  have hrun (q : Params) (u : State) : txWaits (enterRunning (restartParams q u)) = txWaits u := by
    rw [txWaits, (enterRunning_frame _).1]
    exact happly q _ u
  have hiso : txWaits (enterIsolated s) = txWaits s := by
    rw [txWaits, (isolated_enterIsolated s).es]
    rfl
  unfold reloadPart
  split
  · exact hiso
  · rfl
  · split
    · exact (hrun _ _).trans hiso
    · exact happly _ _ s
  · exact hrun _ s

/-- The end of a START WRITE: block 0 written, the record reloaded, the request completed, and what follows (R189). -/
theorem exec_startWriteDone {rb bytes : List Byte} {s : State} (ha : alive s = true)
    (ho : s.ie.op = some (.header (.startRecord bytes))) (hw : txWaits s = true) (hp : s.ml.state = .pending)
    (hc : s.ml.code = 24) : ∃ t, exec (.startWriteDone rb) s = .next t ∧
      AfterOp (reloadPart (loadParams (replaceBlock s.flash.mem 0 (readBackOf bytes.length rb)))
        (written (readBackOf bytes.length rb) s)) t ∧
      t.ml = { (reloadPart (loadParams (replaceBlock s.flash.mem 0 (readBackOf bytes.length rb)))
          (written (readBackOf bytes.length rb) s)).ml with
        state := .done, outcome := some .ok, polled := false
        result := toBE 1 (if readBackOf bytes.length rb = bytes then 0 else 1) ++
          toBE 1 (loadCode (replaceBlock s.flash.mem 0 (readBackOf bytes.length rb))) ++
          toBE 1 (partCode t.sl.part) } := by
  generalize hg : readBackOf bytes.length rb = got
  have hx : startWritten bytes rb (opDone s) = completePending 24 .ok
      (toBE 1 (if got = bytes then 0 else 1) ++ toBE 1 (loadCode (replaceBlock s.flash.mem 0 got)) ++ toBE 1
        (partCode (reloadPart (loadParams (replaceBlock s.flash.mem 0 got)) (written got s)).sl.part))
      (reloadPart (loadParams (replaceBlock s.flash.mem 0 got)) (written got s)) := by
    rw [startWritten, hg]
    dsimp only
    rw [reload_eq]
    rfl
  have hlink := reloadPart_link (loadParams (replaceBlock s.flash.mem 0 got)) (written got s)
  have hwu : txWaits (reloadPart (loadParams (replaceBlock s.flash.mem 0 got)) (written got s)) = true := by
    rw [reloadPart_txWaits]
    exact hw
  generalize reloadPart (loadParams (replaceBlock s.flash.mem 0 got)) (written got s) = u at *
  have hpu : u.ml.state = .pending ∧ u.ml.code = 24 := by
    have hx : (written got s).ml = { s.ml with events := (written got s).ml.events } := offerAll_eq ..
    rw [show u.ml = _ from hlink, hx]
    exact ⟨hp, hc⟩
  obtain ⟨h1, h2⟩ := afterOp_setMl (s := u) { u.ml with
    state := .done, outcome := some .ok, polled := false
    result := toBE 1 (if got = bytes then 0 else 1) ++ toBE 1 (loadCode (replaceBlock s.flash.mem 0 got)) ++
      toBE 1 (partCode u.sl.part) } hwu
  refine ⟨_, ?_, h1, by rw [h2, h1.sl]⟩
  show execStartWriteDone rb s = _
  rw [execStartWriteDone, taken_alive ha, ho]
  dsimp only
  rw [hx, completePending_eq, if_pos hpu]
  rfl

end Sys2Proof.Machine
end
section
/-! SUPPORT. What a START WRITE leaves of a part that is refused, enters RUNNING, or stays RUNNING (R188, R189, R190). -/

namespace Sys2Proof.Machine

/-! ## A part that has been through ISOLATED (R188) -/

/-- What ISOLATED, and a restart under own numbers read through `own`, leave of an entry (R32, R53, assumption log 30). -/
structure StoppedEntry (own : Nat → Nat) (s : State) (o e : Client) : Prop where
  same : SameClient o e
  orphaned : o.role = .remote ∨ o.role = .claiming ∨ o.role = .expecting → knownPeer s o.serving = true →
    e.role = .orphan ∧ e.serving = 0 ∧ e.timer = some (s.now + 60000000000) ∧ e.claimNo = none
  handed : ∀ n, o.role = .handing → o.claimant = some n → knownPeer s n = true →
    e.role = .served ∧ e.serving = own o.serving ∧ e.timer = none ∧ e.claimNo = none ∧ e.claimant = none ∧
      e.verdict = o.verdict
  served : o.role = .served → e.role = .served ∧ e.serving = own o.serving ∧ e.timer = o.timer ∧ e.verdict = o.verdict
  leaving : o.role = .departed ∨ o.role = .orphan → e.role = o.role ∧ e.serving = o.serving ∧ e.timer = o.timer
  best : ∀ r, o.best = some r → e.best = if knownPeer s r.node = true then none else some r

theorem stoppedEntry {own : Nat → Nat} {p : Params} {s : State} {o e : Client}
    (h : Reparamed (lostTo p s.now (tabKeys s.bu.peers) o) e)
    (hs : e.serving = if isServing (lostTo p s.now (tabKeys s.bu.peers) o).role = true then
      own (lostTo p s.now (tabKeys s.bu.peers) o).serving else (lostTo p s.now (tabKeys s.bu.peers) o).serving) :
    StoppedEntry own s o e := by
  obtain ⟨hsame, horph, hhand, hset, hbest⟩ := lostTo_allPeers p s.now s o
  generalize lostTo p s.now (tabKeys s.bu.peers) o = l at *
  refine ⟨hsame.trans h.same, fun hr hk => ?_, fun n hr hc hk => ?_, fun hr => ?_, fun hr => ?_, fun r hr => ?_⟩
  · obtain ⟨h1, h2, h3, h4, -⟩ := horph hr hk
    rw [h1] at hs
    exact ⟨h.role.trans h1, hs.trans h2, h.timer.trans h3, h.claimNo.trans h4⟩
  · obtain ⟨h1, h2, h3, h4, h5, h6⟩ := hhand n hr hc hk
    rw [h1, h2] at hs
    exact ⟨h.role.trans h1, hs, h.timer.trans h3, h.claimNo.trans h4, h.claimant.trans h5, h.verdict.trans h6⟩
  · have hl := hset (.inl hr)
    rw [hl.role, hr, hl.serving] at hs
    exact ⟨h.role.trans (hl.role.trans hr), hs, h.timer.trans hl.timer, h.verdict.trans hl.verdict⟩
  · have hl := hset (.inr hr)
    have hn : isServing o.role = false := by rcases hr with hr | hr <;> rw [hr] <;> rfl
    rw [hl.role, hn, hl.serving] at hs
    exact ⟨h.role.trans hl.role, hs, h.timer.trans hl.timer⟩
  · exact h.best.trans (hbest r hr)

/-- What entry to RUNNING after ISOLATED leaves as ISOLATED left it, its own numbers read through `own`. -/
structure Resumed (own : Nat → Nat) (v u : State) : Prop where
  bu : u.bu = { v.bu with pulseTimer := u.bu.pulseTimer, sightTimer := u.bu.sightTimer }
  es : u.es = v.es
  sc : u.sc = { v.sc with epoch := u.sc.epoch }
  su : u.su = v.su
  ie : u.ie = v.ie
  ml : u.ml = v.ml
  arrivals : u.fc.arrivals = v.fc.arrivals
  rules : u.fc.rules = v.fc.rules
  offers : u.rc.offers = v.rc.offers ∧ u.rc.lapsed = v.rc.lapsed
  clients : ∃ g : Client → Client, (∀ i, clientAt u i = (clientAt v i).map g) ∧
    ∀ c, Reparamed c (g c) ∧ (g c).serving = if isServing c.role = true then own c.serving else c.serving

theorem resumed_refl (v : State) : Resumed id v v where
  bu := rfl
  es := rfl
  sc := rfl
  su := rfl
  ie := rfl
  ml := rfl
  arrivals := rfl
  rules := rfl
  offers := ⟨rfl, rfl⟩
  clients := ⟨id, fun i => by simp, fun c => ⟨⟨.refl c, rfl, rfl, rfl, rfl, rfl, rfl⟩, by simp⟩⟩

/-- What a part that has been through ISOLATED keeps, and where its entries stand (R9, R82, R98, R116, R188). -/
structure StoppedTo (own : Nat → Nat) (s t : State) : Prop where
  bu : t.bu = { s.bu with pulseTimer := t.bu.pulseTimer, sightTimer := t.bu.sightTimer, control := [], peers := [] }
  su : t.su = s.su
  es : t.es = esIsolated s.es
  sc : t.sc = { Sc.reset with epoch := t.sc.epoch }
  arrivals : t.fc.arrivals = Quad.zero
  rules : t.fc.rules = s.fc.rules
  serves : t.ie.serves = []
  failed : FailedBack (fun n => knownPeer s n = true) s.ie t.ie
  struck : ∀ n, knownPeer s n = true → tabGet t.ie.strikes n = none ∧ tabGet t.ie.skips n = none
  drained : s.ac.state = .draining → t.rc.offers = [] ∧ t.rc.lapsed = []
  gone : ∀ i, clientAt s i = none → clientAt t i = none
  entry : ∀ i o, clientAt s i = some o → ∃ e, clientAt t i = some e ∧ StoppedEntry own s o e

theorem stoppedTo {own : Nat → Nat} {got : List Byte} {s v u t : State} (hv : Isolated (written got s) v)
    (hu : Resumed own v u) (ht : AfterOp u t) : StoppedTo own s t := by
  have hvp : v.bu.peers = [] := by rw [hv.bu]
  have hup : u.bu.peers = [] := by rw [hu.bu]; exact hvp
  have hbu : t.bu = u.bu := ht.kept (.inr (.inr hup))
  have hfetch : t.ie.fetches = v.ie.fetches := by rw [ht.fetches hup, hu.ie]
  have hpres : t.ie.presence = v.ie.presence := by rw [ht.presence hup, hu.ie]
  obtain ⟨g, hg, hgc⟩ := hu.clients
  have hat (i : Nat) : clientAt t i = (clientAt s i).map fun o => g (lostTo s.sl.params s.now (tabKeys s.bu.peers) o) := by
    have h1 : clientAt t i = clientAt u i := congrArg (fun r : Rc => tabGet r.clients i) ht.rc
    rw [h1, hg, hv.clients, Option.map_map]
    rfl
  have hback := hv.failed
  exact {
    bu := by
      rw [hbu, hu.bu, hv.bu]
      rfl
    su := ht.su.trans (hu.su.trans hv.su)
    es := ht.es.trans (hu.es.trans hv.es)
    sc := by
      rw [ht.sc, hu.sc, hv.sc]
    arrivals := by
      rw [ht.fc, hu.arrivals, hv.fc]
      rfl
    rules := by
      rw [ht.fc, hu.rules, hv.fc]
      rfl
    serves := ht.serves (by rw [hu.ie, hv.ie])
    failed := ⟨@fun inst => hfetch.trans (@FailedBack.fetches _ _ _ hback inst), fun k => hpres ▸ hback.missing k,
      fun k => hpres ▸ hback.other k⟩
    struck := fun n hn => by
      rw [ht.strikes, ht.skips, hu.ie]
      exact hv.struck n hn
    drained := fun h => by
      rw [ht.rc, hu.offers.1, hu.offers.2]
      exact hv.drained h
    gone := fun i hi => by rw [hat, hi, Option.map_none]
    entry := fun i o hi => ⟨_, by rw [hat, hi, Option.map_some], stoppedEntry (hgc _).1 (hgc _).2⟩ }

/-- What the reload and ISOLATED raise in a table of at most one client, in their order (R32, R53, R187, R188). -/
theorem stopped_events {own : Nat → Nat} {got : List Byte} {s v u : State} (hv : Isolated (written got s) v)
    (hu : Resumed own v u) {l : List Event} (h0 : s.rc.clients = [] → l = [])
    (h1 : ∀ i c, s.rc.clients = [(i, c)] → l = lossesOf s.sl.params s.now (tabKeys s.bu.peers) c)
    (hlen : s.rc.clients.length ≤ 1) :
    u.ml = offerAll s (loadEvents (replaceBlock s.flash.mem 0 got) ++ l) s.ml := by
  rw [hu.ml, offerAll_append]
  match hc : s.rc.clients with
  | [] =>
    rw [h0 hc, hv.empty hc]
    rfl
  | [(i, c)] =>
    rw [h1 i c hc, hv.single i c hc]
    exact offerAll_clock rfl _ _
  | _ :: _ :: _ =>
    rw [hc] at hlen
    simp at hlen

/-! ## RUNNING after ISOLATED (R190) -/

theorem applyParams_rules (p : Params) (l : Sl) (s : State) : (applyParams p l s).fc.arrivals = s.fc.arrivals ∧
    (applyParams p l s).fc.rules = s.fc.rules := by
  rw [applyParams_fc]
  split <;> exact ⟨rfl, rfl⟩

/-- Another record takes the part through ISOLATED to RUNNING (R190). -/
theorem resumed_enterRunning {p : Params} {x v : State} (hv : Isolated x v) :
    ∃ a, enterRunning (restartParams p v) = (started (restartParams p v)).setAc a ∧
      (v.ac.state = .waiting → imageDue v = true → a = v.ac) ∧
      Resumed (fun k => if p.node = v.sl.params.node then k else p.node) v (enterRunning (restartParams p v)) := by
  obtain ⟨hbu, hsc, hsu, -, hie, hac, hml, -⟩ := restartParams_frame p v
  have hrc := applyParams_rc p (replaceParams p v.sl) v
  have hst : v.ac.state ≠ .wanting ∧ v.ac.state ≠ .draining ∧ v.ac.state ≠ .leaving := by
    rw [hv.ac, stoppedAc]
    split
    · simp
    · rename_i h
      simpa only [not_or] using h
  obtain ⟨a, he, ha⟩ := acSettle_stopped (u := started (restartParams p v)) rfl (by simpa [started] using hst)
  have hdue : imageDue (started (restartParams p v)) = imageDue v :=
    imageDue_congr (congrArg Ie.inc hie) (congrArg Ie.incDesc hie) (congrArg Ie.activeDesc hie)
  rw [show (started (restartParams p v)).ac = v.ac from hac, hdue] at ha
  refine ⟨a, he, ha, ?_⟩
  rw [enterRunning_eq, he]
  exact {
    bu := congrArg (fun b : Bu => { b with
      pulseTimer := (started (restartParams p v)).bu.pulseTimer
      sightTimer := (started (restartParams p v)).bu.sightTimer }) hbu
    es := by
      refine (applyParams_es p _ v).trans (trimQueues_empty p ?_ ?_ ?_ ?_ ?_)
      all_goals rw [hv.es]; rfl
    sc := congrArg (fun b : Sc => { b with epoch := 0 }) hsc
    su := hsu
    ie := hie
    ml := hml
    arrivals := (applyParams_rules p _ v).1
    rules := (applyParams_rules p _ v).2
    offers := ⟨(congrArg Rc.offers hrc :), (congrArg Rc.lapsed hrc :)⟩
    clients := by
      refine ⟨reparam v.sl.params p, fun i => ?_, fun c => ?_⟩
      · exact (congrArg (fun r : Rc => tabGet r.clients i) hrc).trans (tabGet_tabMap _ _ _)
      · obtain ⟨h1, h2⟩ := reparamed_reparam v.sl.params p c
        refine ⟨h1, h2.trans ?_⟩
        by_cases hn : p.node = v.sl.params.node <;> simp [hn] }

end Sys2Proof.Machine
end
section
/-! SUPPORT. START WRITE and its end (R82, R98, R115, R116, R141, R155, R169, R185, R188 to R190). -/

namespace Sys2Proof.Machine

/-! ## Header-class work asked for (R141, R155) -/

/-- With supply-fail asserted no header-class work leaves its queue (R155). -/
theorem startFlash_headers_kept {s : State} (h : s.ie.op.isSome = true ∨ s.pins.supplyFail = true) :
    (startFlash s).ie.headers = s.ie.headers := by
  rcases h with h | h
  · rw [startFlash_busy h]
  · have hn : nextHeader s = none := by simp [nextHeader, h]
    unfold startFlash
    rw [hn]
    dsimp only
    (repeat' split) <;> rfl

theorem startFlash_header {s : State} {w : HeaderWork} (ho : s.ie.op = none) (hs : s.pins.supplyFail = false)
    (hh : s.ie.headers = [w]) : (startFlash s).ie.op = some (.header w) ∧ (startFlash s).ie.headers = [] := by
  have hn : nextHeader s = some (w, []) := by simp [nextHeader, hs, hh]
  unfold startFlash
  rw [ho, hn]
  exact ⟨rfl, rfl⟩

/-- Fetches failed back with no other fetch issued (R146). -/
theorem FailedBack.fetchesFailedBack {lost : Nat → Bool} {s t : State} (h : FailedBack (fun n => lost n = true) s.ie t.ie) :
    fetchesFailedBack lost s t :=
  ⟨[], by rw [h.fetches_bool, List.append_nil], fun _ => rfl, by simp, by simp, fun k _ => ⟨h.missing k, h.other k⟩⟩

/-! ## RUNNING under new parameters (R11, R82, R98, R190) -/

theorem enterRunning_entered (p : Params) (v : State) :
    (enterRunning (restartParams p v)).sl = { v.sl with
      part := .running, params := p, recordGood := true, nextPulse := none, nextSight := none } ∧
    (enterRunning (restartParams p v)).bu.pulseTimer = some v.now ∧
    (enterRunning (restartParams p v)).bu.sightTimer = some (v.now + p.sightPeriod * 1000000) ∧
    (enterRunning (restartParams p v)).sc.epoch = 0 := by
  obtain ⟨-, -, -, -, -, -, -, -, hnow, -, -, hsl⟩ := restartParams_frame p v
  rw [enterRunning_eq, acSettle_bu]
  simp only [acSettle_frame]
  unfold started
  rw [hsl, hnow]
  exact ⟨rfl, rfl, rfl, rfl⟩

theorem enterRunning_fc (p : Params) (v : State) : (enterRunning (restartParams p v)).fc = { v.fc with
    flows := if p.gmax = v.sl.params.gmax then v.fc.flows else []
    gameCount := if p.gmax = v.sl.params.gmax then v.fc.gameCount else 0
    quietSince := if p.gmax = v.sl.params.gmax ∧ v.fc.gameCount ≠ 0 then none else some v.now } := by
  have hnow : (restartParams p v).now = v.now := by simp
  have hfc := applyParams_fc p (replaceParams p v.sl) v
  rw [enterRunning_eq]
  simp only [acSettle_frame]
  unfold started
  dsimp only
  rw [hnow, restartParams, hfc]
  by_cases hg : p.gmax = v.sl.params.gmax
  · by_cases hz : v.fc.gameCount = 0 <;> simp [hg, hz]
  · simp [hg]

/-! ## A part that stays RUNNING under new parameters (R82, R115, R190) -/

theorem applyParams_same {p : Params} {l : Sl} {s : State} (hn : p.node = s.sl.params.node) :
    (p.gmax = s.sl.params.gmax → (applyParams p l s).rc = s.rc ∧ (applyParams p l s).fc = s.fc) ∧
    (p.gmax ≠ s.sl.params.gmax → (applyParams p l s).fc.flows = [] ∧ (applyParams p l s).fc.gameCount = 0 ∧
      (applyParams p l s).rc = { s.rc with clients := tabMap s.rc.clients (fun e => { e with games := 0 }) }) := by
  rw [applyParams_rc, applyParams_fc]
  unfold reparam
  refine ⟨fun hg => ?_, fun hg => ?_⟩
  · simp [hn, hg, tabMap_id]
  · simp [hn, hg]

theorem newIdentity_iff {p q : Params} : newIdentity p q = true ↔
    q.node ≠ p.node ∨ q.meshTag ≠ p.meshTag ∨ q.frameType ≠ p.frameType := by
  simp [newIdentity, or_assoc, ne_comm (a := p.node), ne_comm (a := p.meshTag), ne_comm (a := p.frameType)]

/-! ## What the reload does, by the record and the part (R190) -/

theorem loadParams_bad {m : List Host.Cell} {r : BadReason} {o : Nat} (h : readRecord m = .bad r o) :
    loadParams m = none ∧ loadCode m = 3 := by
  simp [loadParams, loadCode, h]

theorem loadParams_items {m : List Host.Cell} {l : List (Nat × Nat)} (h : readRecord m = .items l) :
    loadParams m = (if (paramsOf l).node = 0 then none else some (paramsOf l)) ∧
      loadCode m = if l.filterMap clampEvent = [] then 1 else 2 := by
  simp only [loadParams, loadCode, h, List.isEmpty_iff, and_self]

/-- What a state must hold of the losses, in the words of R32 and R53. -/
theorem lossesOf_one {p : Params} {now : Nat} {s : State} {c : Client} {l : List Event}
    (h1 : (c.role = .remote ∨ c.role = .claiming ∨ c.role = .expecting) ∧ knownPeer s c.serving = true →
      l = [.orphaned c.addr c.serving])
    (h2 : ¬ ((c.role = .remote ∨ c.role = .claiming ∨ c.role = .expecting) ∧ knownPeer s c.serving = true) →
      (∀ n, c.role = .handing → c.claimant = some n → l = if knownPeer s n = true then [.steerFailed c.addr n true] else []) ∧
      ((∀ n, c.role = .handing → c.claimant ≠ some n) → l = [])) :
    l = lossesOf p now (tabKeys s.bu.peers) c := by
  rw [lossesOf_eq]
  by_cases ho : (c.role = .remote ∨ c.role = .claiming ∨ c.role = .expecting) ∧ knownPeer s c.serving = true
  · rw [h1 ho, if_pos ⟨knownPeer_iff.1 ho.2, ho.1⟩]
  · rw [if_neg (fun h => ho ⟨h.2, knownPeer_iff.2 h.1⟩)]
    obtain ⟨hh, hn⟩ := h2 ho
    by_cases hr : c.role = .handing
    · rw [if_pos hr]
      cases hc : c.claimant with
      | none => exact hn (by simp [hc])
      | some n =>
        rw [hh n hr hc]
        by_cases hk : knownPeer s n = true
        · simp [hk, knownPeer_iff.1 hk]
        · have hni : n ∉ tabKeys s.bu.peers := fun h => hk (knownPeer_iff.2 h)
          simp [hk, hni]
    · rw [if_neg hr]
      exact hn (fun n h => absurd h hr)

end Sys2Proof.Machine
end
section
/-! SUPPORT. START WRITE settled (R82, R98, R115, R116, R141, R155, R169, R185, R188 to R190). -/

namespace Sys2Proof.Machine

/-! ## START WRITE -/

theorem exec_startWrite {x : Submit} {s : State} (h : requestTaken recordLenOk x s) : exec (.startWrite x) s =
    .next (startFlash (requestHeader (.startRecord (submitArgs x)) (s.setMl (mlPending 24 x s)))) := by
  have he := taken_submit (code := 24) (run := runStartWrite) h
  exact he

theorem startWrite_waits {x : Submit} {s : State} (h : requestTaken recordLenOk x s) :
    ∃ t, exec (.startWrite x) s = .next t ∧ t.ml = mlPending 24 x s ∧ t.flash = s.flash ∧ t.sl = s.sl ∧
      (s.ie.op.isSome = true ∨ s.pins.supplyFail = true →
        t.ie.headers = s.ie.headers ++ [.startRecord (submitArgs x)]) ∧
      (s.ie.op = none → s.pins.supplyFail = false → s.ie.headers = [] →
        t.ie.op = some (.header (.startRecord (submitArgs x))) ∧ t.ie.headers = []) := by
  refine ⟨_, exec_startWrite h, by simp [State.setMl], by simp [State.setMl], by simp [State.setMl], fun hb => ?_,
    fun ho hs hh => ?_⟩
  · exact startFlash_headers_kept hb
  · refine startFlash_header ho hs ?_
    show s.ie.headers ++ _ = _
    rw [hh]
    rfl

theorem exec_startWriteDone_other {rb : List Byte} {s : State} (ha : alive s = true)
    (ho : ∀ b, s.ie.op ≠ some (.header (.startRecord b))) : exec (.startWriteDone rb) s = .next s := by
  show execStartWriteDone rb s = _
  rw [execStartWriteDone, taken_alive ha]
  split
  · exact absurd ‹_› (ho _)
  · rfl

/-! ## Its end, by the record and the part -/

theorem toBE_one (n : Nat) : toBE 1 n = [BitVec.ofNat 8 n] := by simp [toBE]

section
variable {got : List Byte} {s t : State}

/-- A record that fails, or names no node, takes a RUNNING part to ISOLATED (R188). -/
theorem refused_running (hs : s.sl.part = .running) (ht : AfterOp (reloadPart none (written got s)) t) :
    Isolated (written got s) (reloadPart none (written got s)) ∧ StoppedTo id s t ∧
      t.sl = { s.sl with part := .isolated } ∧ t.bu.pulseTimer = none ∧ t.bu.sightTimer = none ∧
      t.sc.epoch = s.sc.epoch ∧ t.fc = edgeCounts s.fc ∧ t.ac = stoppedAc s.ac := by
  have hu : reloadPart none (written got s) = enterIsolated (written got s) := by
    unfold reloadPart
    rw [show (written got s).sl.part = .running from hs]
  have hv := isolated_enterIsolated (written got s)
  rw [hu] at ht ⊢
  have hbu : t.bu = (enterIsolated (written got s)).bu := ht.kept (.inr (.inr (by rw [hv.bu])))
  rw [hbu, ht.sl, ht.sc, ht.fc, ht.ac, hv.sl, hv.bu, hv.sc, hv.fc, hv.ac]
  exact ⟨hv, stoppedTo hv (resumed_refl _) ht, rfl, rfl, rfl, rfl, rfl, rfl⟩

theorem reloadPart_none {x : State} (h : x.sl.part = .isolated) : reloadPart none x = x := by
  unfold reloadPart
  rw [h]

/-- A part that is ISOLATED stays as it is under a record that fails or names no node (R190). -/
theorem refused_isolated (hs : s.sl.part = .isolated) (ht : AfterOp (reloadPart none (written got s)) t) :
    t.sl = { s.sl with part := .isolated } ∧ t.bu = s.bu ∧ t.rc = s.rc ∧ t.es = s.es ∧ t.sc = s.sc ∧ t.fc = s.fc ∧
      t.ac = s.ac := by
  have hx : (written got s).sl.part = .isolated := hs
  rw [reloadPart_none hx] at ht
  refine ⟨?_, ht.kept (.inl (by simp [running, hx])), ht.rc, ht.es, ht.sc, ht.fc, ht.ac⟩
  rw [ht.sl, ← hs]
  rfl

theorem reloadPart_isolated {x : State} (p : Params) (h : x.sl.part = .isolated) :
    reloadPart (some p) x = enterRunning (restartParams p x) := by
  unfold reloadPart
  rw [h]

theorem reloadPart_running {x : State} (p : Params) (h : x.sl.part = .running) : reloadPart (some p) x =
    if newIdentity x.sl.params p then enterRunning (restartParams p (enterIsolated x))
    else applyParams p (updateParams p x.sl) x := by
  unfold reloadPart
  rw [h]

/-- A part that enters RUNNING has all its parameters in force and its timers set (R11, R14, R98, R190). -/
theorem entered_running {p : Params} {v : State} (hn : v.now = s.now) (hs : v.sl = { s.sl with part := v.sl.part })
    (ht : AfterOp (enterRunning (restartParams p v)) t) :
    t.sl = { s.sl with part := .running, params := p, recordGood := true, nextPulse := none, nextSight := none } ∧
      t.bu.pulseTimer = some s.now ∧ t.bu.sightTimer = some (s.now + p.sightPeriod * 1000000) ∧ t.sc.epoch = 0 := by
  obtain ⟨h1, h2, h3, h4⟩ := enterRunning_entered p v
  rw [ht.sl, ht.bu, ht.sc, h1, hs, ← hn]
  exact ⟨rfl, h2, h3, h4⟩

/-- Another record takes a RUNNING part through ISOLATED to RUNNING (R190). -/
theorem restarted_running {p : Params} (hs : s.sl.part = .running) (hid : newIdentity s.sl.params p = true)
    (ht : AfterOp (reloadPart (some p) (written got s)) t) :
    ∃ v, Isolated (written got s) v ∧ reloadPart (some p) (written got s) = enterRunning (restartParams p v) ∧
      Resumed (fun k => if p.node = s.sl.params.node then k else p.node) v (reloadPart (some p) (written got s)) ∧
      StoppedTo (fun k => if p.node = s.sl.params.node then k else p.node) s t ∧
      t.fc = { s.fc with
        arrivals := Quad.zero
        flows := if p.gmax = s.sl.params.gmax then tabMap s.fc.flows (fun x => { x with bytes := 0 }) else []
        gameCount := if p.gmax = s.sl.params.gmax then s.fc.gameCount else 0
        quietSince := if p.gmax = s.sl.params.gmax ∧ s.fc.gameCount ≠ 0 then none else some s.now } ∧
      (s.ac.state = .wanting ∨ s.ac.state = .draining ∨ s.ac.state = .leaving → imageDue s = true →
        t.ac = stoppedAc s.ac) := by
  have hu : reloadPart (some p) (written got s) = enterRunning (restartParams p (enterIsolated (written got s))) := by
    rw [reloadPart_running (x := written got s) p hs]
    exact if_pos hid
  have hv := isolated_enterIsolated (written got s)
  generalize enterIsolated (written got s) = v at *
  obtain ⟨a, he, hset, hk⟩ := resumed_enterRunning (p := p) hv
  have hpar : v.sl.params = s.sl.params := by rw [hv.sl]; rfl
  rw [hpar] at hk
  rw [hu] at ht ⊢
  refine ⟨v, hv, rfl, hk, stoppedTo hv hk ht, ?_, fun hact hdue => ?_⟩
  · rw [ht.fc, enterRunning_fc, hv.fc, hpar, hv.now]
    rfl
  · have hac : v.ac = stoppedAc s.ac := hv.ac
    have hdue' : imageDue v = imageDue s := imageDue_congr (by rw [hv.ie]; rfl) (by rw [hv.ie]; rfl) (by rw [hv.ie]; rfl)
    have hst : v.ac.state = .waiting := by rw [hac, stoppedAc, if_pos hact]
    rw [ht.ac, he, ← hac]
    exact hset hst (hdue'.trans hdue)

/-- A record with the same identity brings its parameters into force in a part that stays RUNNING (R82, R115, R190). -/
theorem updated_running {p : Params} (hs : s.sl.part = .running) (hid : newIdentity s.sl.params p = false)
    (hn : p.node = s.sl.params.node) (ht : AfterOp (reloadPart (some p) (written got s)) t) :
    t.sl = updateParams p s.sl ∧ t.bu = { s.bu with control := t.bu.control } ∧ (s.ie.inc ≠ .filling → t.bu = s.bu) ∧
      (p.gmax = s.sl.params.gmax → t.rc = s.rc ∧ t.fc = s.fc) ∧
      (p.gmax ≠ s.sl.params.gmax → t.fc.flows = [] ∧ t.fc.gameCount = 0 ∧
        t.rc = { s.rc with clients := tabMap s.rc.clients (fun e => { e with games := 0 }) }) ∧
      t.es = trimQueues p s.es := by
  have hu : reloadPart (some p) (written got s) = applyParams p (updateParams p s.sl) (written got s) := by
    rw [reloadPart_running (x := written got s) p hs]
    exact if_neg (by rw [show newIdentity (written got s).sl.params p = false from hid]; simp)
  obtain ⟨hbu, -, -, -, hie, -, -, -, -, -, -, hsl⟩ := applyParams_frame p (updateParams p s.sl) (written got s)
  have hes := applyParams_es p (updateParams p s.sl) (written got s)
  have hsame := applyParams_same (l := updateParams p s.sl) (s := written got s) hn
  rw [hu] at ht
  generalize applyParams p (updateParams p s.sl) (written got s) = u at *
  refine ⟨ht.sl.trans hsl, ?_, fun hf => ?_, ?_, ?_, ht.es.trans hes⟩
  · rw [ht.bu, hbu]
    rfl
  · exact (ht.kept (.inr (.inl (by rw [hie]; exact hf)))).trans hbu
  · rw [ht.rc, ht.fc]
    exact hsame.1
  · rw [ht.rc, ht.fc]
    exact hsame.2

end

/-- Settles O53: the wait for the flash, an operation that is not this one, and the end by the record read back and the
part. -/
theorem startWriteReplacesBlockZero : Obligations.StartWriteReplacesBlockZero := by
  unfold Obligations.StartWriteReplacesBlockZero
  refine ⟨fun x s h => startWrite_waits h, fun rb s ha ho => exec_startWriteDone_other ha ho, ?_⟩
  intro rb bytes s ha hns hw hp hc ho hlen got same lost orphaned isolated idled active raised losses refused wait cut
    oldest newest
  obtain ⟨t, he, ht, hml⟩ := exec_startWriteDone (rb := rb) ha ho hw hp hc
  rw [show readBackOf bytes.length rb = got from rfl] at ht hml
  have hflash : t.flash = { s.flash with mem := replaceBlock s.flash.mem 0 got } := by
    rw [ht.flash]
    simp [written]
  have hmem : t.flash.mem = replaceBlock s.flash.mem 0 got := by rw [hflash]
  have hgot : got.length ≤ 65536 := by
    simp only [got, List.length_append, List.length_take, List.length_replicate]
    omega
  have hread := memRead_replaceBlock_zero s.flash.mem hgot
  have hres : t.ml.result = [same, BitVec.ofNat 8 (loadCode t.flash.mem), BitVec.ofNat 8 (partCode t.sl.part)] := by
    rw [hml, hmem, toBE_one, toBE_one, toBE_one]
    simp only [same]
    split <;> rfl
  have hiso (own : Nat → Nat) (h : StoppedTo own s t) : isolated own t := by
    refine ⟨by rw [h.bu], by rw [h.bu], by rw [h.bu], by rw [h.bu], h.su, h.es, by rw [h.sc]; rfl, by rw [h.sc]; rfl,
      by rw [h.sc]; rfl, by rw [h.sc]; rfl, h.arrivals, h.rules, h.serves, h.failed.fetches_bool,
      h.failed.fetchesFailedBack, h.struck, h.drained, h.gone, fun i o hi => ?_⟩
    obtain ⟨e, hat, hk⟩ := h.entry i o hi
    exact ⟨e, hat, hk.same.addr, hk.same.tenure, hk.same.profile, hk.same.used, hk.same.extra, hk.same.average,
      fun h => hk.orphaned h.1 h.2, hk.handed, hk.served, hk.leaving, hk.best⟩
  have hnone : s.rc.clients = [] → losses = [] := fun h => by simp only [losses, h]
  have hone (i : Nat) (c : Client) (h : s.rc.clients = [(i, c)]) :
      losses = lossesOf s.sl.params s.now (tabKeys s.bu.peers) c := by
    refine lossesOf_one (fun ho => ?_) fun ho => ⟨fun n hr hc => ?_, fun hn => ?_⟩
    · simp only [losses, h]
      exact if_pos ho
    · simp only [losses, h]
      refine (if_neg ho).trans ?_
      rw [hr, hc]
      rfl
    · simp only [losses, h]
      refine (if_neg ho).trans ?_
      cases hr : c.role with
      | handing =>
        cases hc : c.claimant with
        | none => rfl
        | some n => exact absurd hc (hn n hr)
      | _ => rfl
  have hrefused (hP : loadParams t.flash.mem = none) : refused (BitVec.ofNat 8 (loadCode t.flash.mem)) t := by
    rw [← hmem, hP] at ht hml
    have hpart : s.sl.part = .running ∨ s.sl.part = .isolated := by
      cases h : s.sl.part with
      | starting => exact absurd h hns
      | running => exact .inl rfl
      | isolated => exact .inr rfl
    rcases hpart with hr | hi
    · obtain ⟨hv, hst, hsl, hpt, hst', hep, hfc, hac⟩ := refused_running hr ht
      refine ⟨hsl, by rw [hres, hsl]; rfl, fun _ => ⟨hiso id hst, hpt, hst', hep, hfc, fun h => ?_, fun h => ?_, fun hlen => ?_⟩,
        fun h => absurd (hr.symm.trans h) (by decide)⟩
      · exact hac.trans (if_pos h)
      · exact hac.trans (if_neg h)
      · have hev := stopped_events hv (resumed_refl _) hnone hone hlen
        rw [hml, hev, ← hmem]
        rfl
    · obtain ⟨hsl, hkept⟩ := refused_isolated hi ht
      have hev : t.ml.events = raised t [] := by
        rw [hml, reloadPart_none (x := written got s) hi]
        simp only [raised]
        rw [hmem, List.append_nil]
        rfl
      obtain ⟨hbu, hrc, hes, hsc, hfc, hac⟩ := hkept
      exact ⟨hsl, by rw [hres, hsl]; rfl, fun h => absurd (hi.symm.trans h) (by decide), fun _ =>
        ⟨hbu, hrc, hes, hsc, hfc, hac, hev⟩⟩
  refine ⟨t, he, by rw [hflash], by rw [hflash], fun a h => ?_, fun a h => ?_, by rw [hml], by rw [hml], fun r o hbad => ?_,
    fun l hl => ?_⟩
  · rw [hmem, hread, if_pos h]
  · rw [hmem, hread, if_neg (Nat.not_lt.2 h)]
  · obtain ⟨h1, h2⟩ := loadParams_bad hbad
    have := hrefused h1
    rwa [h2] at this
  · obtain ⟨h1, h2⟩ := loadParams_items hl
    intro p outcome entered
    have hcode : BitVec.ofNat 8 (loadCode t.flash.mem) = outcome := by
      rw [h2]
      simp only [outcome]
      split <;> rfl
    have hsome (hn : 1 ≤ p.node) : loadParams t.flash.mem = some p := h1.trans (if_neg (Nat.ne_of_gt hn))
    have hentered {v : State} (hn : v.now = s.now) (hs : v.sl = { s.sl with part := v.sl.part })
        (hu : AfterOp (enterRunning (restartParams p v)) t) : entered := by
      obtain ⟨hsl, htimers⟩ := entered_running hn hs hu
      exact ⟨hsl, by rw [hres, hsl, hcode]; rfl, htimers⟩
    refine ⟨fun hz => ?_, fun hn hi => ?_, fun hn hr hnode htag htype => ?_, fun hn hr hid => ?_⟩
    · exact hcode ▸ hrefused (h1.trans (if_pos hz))
    · rw [← hmem, hsome hn, reloadPart_isolated (x := written got s) p hi] at ht
      refine ⟨hentered (v := written got s) rfl rfl ht, ?_⟩
      rw [ht.bu]
      exact (enterRunning_frame _).2.2.2.2.2.2.2.2.1.trans (congrArg Bu.peers (restartParams_frame _ _).1)
    · have hold : newIdentity s.sl.params p = false := by
        rw [Bool.eq_false_iff, ne_eq, newIdentity_iff]
        simp [hnode, htag, htype]
      rw [← hmem, hsome hn] at ht
      obtain ⟨hsl, hbu, hkept, hsame, hgmax, hes⟩ := updated_running hr hold hnode ht
      refine ⟨hsl, ?_, hbu, hkept, hsame, hgmax, ?_⟩
      · have hpart : t.sl.part = .running := by rw [hsl]; exact hr
        rw [hres, hcode, hpart]
        rfl
      · rw [hes]
        exact ⟨trimOldest_drop _ _, trimNewest_take _ _, trimNewest_take _ _, trimNewest_take _ _, trimNewest_take _ _,
          trimQueues_cells p s.es⟩
    · rw [← hmem, hsome hn] at ht hml
      obtain ⟨v, hv, hu, hk, hst, hfc, hac⟩ := restarted_running hr (newIdentity_iff.2 hid) ht
      refine ⟨hentered (v := v) hv.now (by rw [hv.sl]; rfl) (hu ▸ ht), hiso _ hst, hfc, fun hact hdue => ?_, fun hlen => ?_⟩
      · have hno : activationOk t = false := by
          have hnow : t.now = s.now := ht.now.trans (reloadPart_frame _ _).2.2.2.1
          refine activationOk_quietNow ?_
          rw [hfc, hnow]
          by_cases hg : p.gmax = s.sl.params.gmax
          · by_cases hz : s.fc.gameCount = 0 <;> simp [hg, hz]
          · simp [hg]
        rw [hno]
        exact (hac hact hdue).trans (if_pos hact)
      · have hev := stopped_events hv hk hnone hone hlen
        rw [hml, hev, ← hmem]
        rfl

end Sys2Proof.Machine
end
section
/-! SUPPORT. The ranges of the minute counters (R131) and the rising indexes of the tables (R23). Both are kept by one walk
through the operations: each of them leaves a state whose tables keep the two forms, whatever the state it is applied to. -/

namespace Sys2Proof.Machine

/-- What held of the four tables in s, the ranges of the counters and the rising indexes, holds of those in t. -/
structure TablesKept (s t : State) : Prop where
  counters : clientsOk s = true → clientsOk t = true
  sorted : tablesSorted s = true → tablesSorted t = true

theorem TablesKept.refl (s : State) : TablesKept s s := ⟨id, id⟩

theorem TablesKept.trans {s t u : State} (h : TablesKept s t) (k : TablesKept t u) : TablesKept s u :=
  ⟨k.counters ∘ h.counters, k.sorted ∘ h.sorted⟩

theorem TablesKept.of_eq {s t : State} (hc : t.rc.clients = s.rc.clients) (hp : t.bu.peers = s.bu.peers)
    (hf : t.fc.flows = s.fc.flows) (hm : t.ie.presence = s.ie.presence) : TablesKept s t where
  counters h := by simpa only [clientsOk, hc] using h
  sorted h := tablesSorted_of_eq h hc hp hf hm

/-- Work whose frame, as the simp lemmas of the operations state it, holds the four tables. -/
theorem TablesKept.framed {s t : State} (h : t.rc.clients = s.rc.clients ∧ t.bu.peers = s.bu.peers ∧
    t.fc.flows = s.fc.flows ∧ t.ie.presence = s.ie.presence) : TablesKept s t :=
  have ⟨hc, hp, hf, hm⟩ := h
  .of_eq hc hp hf hm

theorem TablesKept.foldl {α : Type} {f : State → α → State} (h : ∀ s a, TablesKept s (f s a)) (l : List α) (s : State) :
    TablesKept s (l.foldl f s) := by
  induction l generalizing s with
  | nil => exact .refl s
  | cons a l ih => exact (h s a).trans (ih _)

theorem TablesKept.forClients {f : Nat → State → State} (h : ∀ i s, TablesKept s (f i s)) (s : State) :
    TablesKept s (forClients f s) := .foldl (fun t i => h i t) _ s

theorem raise_tables (e : Event) (s : State) : TablesKept s (raise e s) := .framed (by simp)
theorem complete_tables (o : ReqOutcome) (r : List Byte) (s : State) : TablesKept s (complete o r s) := .framed (by simp)
theorem sendBulletin_tables (n : Nat) (b : Body) (s : State) : TablesKept s (sendBulletin n b s) := .framed (by simp)
theorem sendContext_tables (c : Client) (n : Nat) (t : BitVec 16) (s : State) : TablesKept s (sendContext c n t s) :=
  .framed (by simp)
theorem runTo_tables (d : Nat) (s : State) : TablesKept s (runTo d s) := .framed (by simp)
theorem requestHeader_tables (w : HeaderWork) (s : State) : TablesKept s (requestHeader w s) :=
  .of_eq rfl rfl rfl rfl

/-! ## Each of the four tables written -/

theorem TablesKept.clients {s t : State} (hs : tabSorted s.rc.clients = true → tabSorted t.rc.clients = true)
    (hc : clientsOk s = true → clientsOk t = true) (hp : t.bu.peers = s.bu.peers) (hf : t.fc.flows = s.fc.flows)
    (hm : t.ie.presence = s.ie.presence) : TablesKept s t where
  counters := hc
  sorted h := by
    rw [tablesSorted_iff] at h ⊢
    rw [hp, hf, hm]
    exact ⟨hs h.1, h.2⟩

theorem TablesKept.peers {s t : State} (hs : tabSorted s.bu.peers = true → tabSorted t.bu.peers = true)
    (hc : t.rc.clients = s.rc.clients) (hf : t.fc.flows = s.fc.flows) (hm : t.ie.presence = s.ie.presence) :
    TablesKept s t where
  counters h := by simpa only [clientsOk, hc] using h
  sorted h := by
    rw [tablesSorted_iff] at h ⊢
    rw [hc, hf, hm]
    exact ⟨h.1, hs h.2.1, h.2.2⟩

theorem TablesKept.flows {s t : State} (hs : tabSorted s.fc.flows = true → tabSorted t.fc.flows = true)
    (hc : t.rc.clients = s.rc.clients) (hp : t.bu.peers = s.bu.peers) (hm : t.ie.presence = s.ie.presence) :
    TablesKept s t where
  counters h := by simpa only [clientsOk, hc] using h
  sorted h := by
    rw [tablesSorted_iff] at h ⊢
    rw [hc, hp, hm]
    exact ⟨h.1, h.2.1, hs h.2.2.1, h.2.2.2⟩

theorem TablesKept.presence {s t : State} (hs : tabSorted s.ie.presence = true → tabSorted t.ie.presence = true)
    (hc : t.rc.clients = s.rc.clients) (hp : t.bu.peers = s.bu.peers) (hf : t.fc.flows = s.fc.flows) : TablesKept s t where
  counters h := by simpa only [clientsOk, hc] using h
  sorted h := by
    rw [tablesSorted_iff] at h ⊢
    rw [hc, hp, hf]
    exact ⟨h.1, h.2.1, h.2.2.1, hs h.2.2.2⟩

/-- A state whose four tables are empty keeps both forms. -/
theorem TablesKept.empty {s t : State} (hc : t.rc.clients = []) (hp : t.bu.peers = []) (hf : t.fc.flows = [])
    (hm : t.ie.presence = []) : TablesKept s t where
  counters _ := by simp [clientsOk, hc]
  sorted _ := by simp [tablesSorted_iff, hc, hp, hf, hm, tabSorted]

/-! ## The counters of one entry (R131) -/

theorem countersOk_iff {c : Client} : countersOk c = true ↔ c.used ≤ 1440 ∧ c.extra ≤ 240 := by
  rw [countersOk, Bool.and_eq_true, decide_eq_true_eq, decide_eq_true_eq]

theorem clientsOk_iff {s : State} : clientsOk s = true ↔ ∀ p ∈ s.rc.clients, countersOk p.2 = true := by
  simp [clientsOk]

/-- An entry that differs in other fields alone keeps its counters' ranges. -/
theorem countersOk_congr {c d : Client} (hu : d.used = c.used) (hx : d.extra = c.extra) : countersOk d = countersOk c := by
  rw [countersOk, countersOk, hu, hx]

theorem countersOk_clientAt {s : State} {i : Nat} {c : Client} (h : clientAt s i = some c) (hs : clientsOk s = true) :
    countersOk c = true := clientsOk_iff.1 hs (i, c) (mem_of_tabGet h)

theorem countersOk_findClient {s : State} {a : Addr} {i : Nat} {c : Client} (h : findClient s a = some (i, c))
    (hs : clientsOk s = true) : countersOk c = true := by
  unfold findClient at h
  split at h
  · cases h
  · exact clientsOk_iff.1 hs (i, c) (List.mem_of_find?_eq_some h)

@[simp] theorem changeRole_counters (p : Params) (now : Nat) (r : Role) (c : Client) :
    (changeRole p now r c).used = c.used ∧ (changeRole p now r c).extra = c.extra := ⟨rfl, rfl⟩

@[simp] theorem setServing_counters (n : Nat) (c : Client) :
    (setServing n c).used = c.used ∧ (setServing n c).extra = c.extra := by unfold setServing; split <;> exact ⟨rfl, rfl⟩

/-- Stated for any instant, so that no instant is computed where it is used. -/
theorem holddownEnds_counters (c : Client) (t : Nat) :
    { c with holddownEnds := t }.used = c.used ∧ { c with holddownEnds := t }.extra = c.extra := ⟨rfl, rfl⟩

@[simp] theorem setHolddown_counters (p : Params) (now : Nat) (c : Client) :
    (setHolddown p now c).used = c.used ∧ (setHolddown p now c).extra = c.extra := holddownEnds_counters c _

@[simp] theorem recordReading_counters (n : Nat) (r : Int) (now : Nat) (c : Client) :
    (recordReading n r now c).used = c.used ∧ (recordReading n r now c).extra = c.extra := by
  unfold recordReading; dsimp only; (repeat' split) <;> exact ⟨rfl, rfl⟩

@[simp] theorem dropReadings_counters (n : Nat) (c : Client) :
    (dropReadings n c).used = c.used ∧ (dropReadings n c).extra = c.extra := by
  unfold dropReadings; dsimp only; (repeat' split) <;> exact ⟨rfl, rfl⟩

@[simp] theorem ownServing_counters (n : Nat) (c : Client) :
    (ownServing n c).used = c.used ∧ (ownServing n c).extra = c.extra := by unfold ownServing; split <;> simp

/-! ## Entries written (R23) -/

theorem TablesKept.putClient {i : Nat} {v : Client} {s : State} (h : clientsOk s = true → countersOk v = true) :
    TablesKept s (putClient i v s) := by
  refine .clients (tabSorted_tabSet i v) (fun hs => ?_) rfl rfl rfl
  rw [clientsOk_iff] at hs ⊢
  intro p hp
  rcases mem_tabSet hp with rfl | hp
  · exact h (clientsOk_iff.2 hs)
  · exact hs p hp

theorem TablesKept.modClient {i : Nat} {f : Client → Client} {s : State}
    (h : ∀ c, countersOk c = true → countersOk (f c) = true) : TablesKept s (modClient i f s) := by
  unfold Machine.modClient
  split
  · rename_i c hc
    exact .putClient fun hs => h c (countersOk_clientAt hc hs)
  · exact .refl s

/-- A change of one entry that writes neither counter. -/
theorem TablesKept.modClient_same {i : Nat} {f : Client → Client} {s : State}
    (h : ∀ c, (f c).used = c.used ∧ (f c).extra = c.extra) : TablesKept s (Machine.modClient i f s) :=
  .modClient fun c hc => by rwa [countersOk_congr (h c).1 (h c).2]

theorem TablesKept.mapClients {f : Client → Client} {s t : State}
    (h : ∀ c, countersOk c = true → countersOk (f c) = true) (ht : t.rc.clients = tabMap s.rc.clients f)
    (hp : t.bu.peers = s.bu.peers) (hf : t.fc.flows = s.fc.flows) (hm : t.ie.presence = s.ie.presence) : TablesKept s t := by
  refine .clients (fun hs => ?_) (fun hs => ?_) hp hf hm
  · rw [ht]
    exact tabSorted_tabMap f hs
  · rw [clientsOk_iff] at hs ⊢
    rw [ht]
    intro p hp
    obtain ⟨q, hq, rfl⟩ := List.mem_map.1 hp
    exact h _ (hs q hq)

theorem touch_tables (i : Nat) (s : State) : TablesKept s (touch i s) := .modClient_same fun _ => ⟨rfl, rfl⟩

theorem removeFlowsOf_tables (i : Nat) (s : State) : TablesKept s (removeFlowsOf i s) := by
  have flows (x : Fc) (hx : x.flows = s.fc.flows.filter (fun p => p.2.client != i)) : TablesKept s (s.setFc x) :=
    .flows (fun h => (congrArg tabSorted hx).trans (tabSorted_filter _ h)) rfl rfl rfl
  exact (flows _ rfl).trans (.modClient_same (f := fun c => { c with games := 0 }) fun _ => ⟨rfl, rfl⟩)

theorem emptyFlows_tables (s : State) : TablesKept s (emptyFlows s) := by
  have flows : TablesKept s (s.setFc (dropGames 0 s.now { s.fc with flows := [] })) := .flows (fun _ => rfl) rfl rfl rfl
  exact flows.trans (.mapClients (f := fun c => { c with games := 0 }) (t := emptyFlows s) (fun _ h => h) rfl rfl rfl rfl)

theorem removeClient_tables (i : Nat) (s : State) : TablesKept s (removeClient i s) := by
  refine (removeFlowsOf_tables i s).trans (.clients (tabSorted_tabErase i) (fun hs => ?_) rfl rfl rfl)
  exact clientsOk_iff.2 fun p hp => clientsOk_iff.1 hs p (List.mem_of_mem_filter hp)

/-- A role change with what goes beside it; neither counter is written (R24). -/
theorem toRole_tables {f : Client → Client} (h : ∀ c, (f c).used = c.used ∧ (f c).extra = c.extra) (i : Nat) (r : Role)
    (s : State) : TablesKept s (toRole i r f s) := by
  have hm : TablesKept s (modClient i (fun c => f (changeRole s.sl.params s.now r c)) s) :=
    .modClient_same fun c => by simp [h]
  unfold toRole
  split
  · exact hm
  · exact hm.trans (.of_eq rfl rfl rfl rfl)

theorem toRole_id_tables (i : Nat) (r : Role) (s : State) : TablesKept s (toRole i r id s) :=
  toRole_tables (fun _ => ⟨rfl, rfl⟩) i r s

theorem makeRoom_tables {roles : List Role} {s t : State} {i : Nat} (h : makeRoom roles s = some (i, t)) :
    TablesKept s t := by
  obtain rfl | rfl := makeRoom_frame h
  · exact .refl _
  · exact removeClient_tables i s

end Sys2Proof.Machine
end
section
/-! SUPPORT. The Roaming Controller, the Flow Classifier, the presence map and the peers keep the tables (R23, R131). -/

namespace Sys2Proof.Machine

/-! ## The Roaming Controller (chapters 2 and 3) -/

theorem orphanOne_tables (n i : Nat) (s : State) : TablesKept s (orphanOne n i s) := by
  unfold orphanOne
  split
  · split
    · exact (toRole_tables (setServing_counters 0) i .orphan s).trans (.of_eq rfl rfl rfl rfl)
    · exact .refl s
  · exact .refl s

theorem handBackOne_tables (n i : Nat) (s : State) : TablesKept s (handBackOne n i s) := by
  unfold handBackOne
  split
  · split
    · exact (toRole_tables (fun _ => ⟨rfl, rfl⟩) i .served s).trans (.of_eq rfl rfl rfl rfl)
    · exact .refl s
  · exact .refl s

theorem loseClients_tables (n : Nat) (s : State) : TablesKept s (loseClients n s) := by
  have roles := (TablesKept.forClients (orphanOne_tables n) s).trans (.forClients (handBackOne_tables n) _)
  refine roles.trans (.mapClients (f := dropReadings n) (fun c hc => ?_) rfl rfl rfl rfl)
  rwa [countersOk_congr (dropReadings_counters n c).1 (dropReadings_counters n c).2]

theorem sendClaim_tables (i : Nat) (s : State) : TablesKept s (sendClaim i s) := by
  unfold sendClaim
  split
  · split
    · refine .trans ?_ (toRole_tables ?_ i .claiming _)
      · exact .framed (by simp)
      · exact fun _ => ⟨rfl, rfl⟩
    · exact .refl s
  · exact .refl s

theorem evaluateClaim_tables (i n : Nat) (r : Int) (s : State) : TablesKept s (evaluateClaim i n r s) := by
  have better (f : Client → Nat) : TablesKept s (modClient i (fun x => { x with better := f x }) s) :=
    .modClient_same fun _ => ⟨rfl, rfl⟩
  unfold evaluateClaim
  split
  · split
    · split
      · exact better fun _ => 0
      · split
        · dsimp only
          split
          · exact (better _).trans (sendClaim_tables i _)
          · exact better _
        · exact better fun _ => 0
    · exact .refl s
  · exact .refl s

theorem takeSample_tables (a : Addr) (r : Int) (s : State) : TablesKept s (takeSample a r s) := by
  unfold takeSample
  split
  · rename_i i c hf
    exact .putClient (countersOk_findClient (c := c) hf)
  · exact .refl s

/-! ## The Flow Classifier (chapter 4) -/

theorem createFlow_tables (i : Nat) (c : Client) (j : Nat) (k : FlowKey) (r : Class) (s : State) :
    TablesKept s (createFlow i c j k r s).1 := by
  have flows (x : Fc) (fl : Flow) (hx : x.flows = tabSet s.fc.flows j fl) : TablesKept s (s.setFc x) :=
    .flows (fun h => (congrArg tabSorted hx).trans (tabSorted_tabSet j fl h)) rfl rfl rfl
  unfold createFlow
  extract_lets demoted cls fl t
  split
  · refine .trans ?_ (.modClient_same ?_)
    · exact flows _ fl rfl
    · exact fun _ => ⟨rfl, rfl⟩
  · exact flows _ fl rfl

theorem classify_tables (a : Addr) (b : Bool) (frame : List Byte) (s : State) : TablesKept s (classify a b frame s).1 := by
  unfold classify
  split
  · exact .refl s
  · dsimp only
    split
    · exact .flows (tabSorted_tabSet _ _) rfl rfl rfl
    · unfold flowMiss
      split
      · dsimp only
        split
        · exact createFlow_tables _ _ _ _ _ s
        · exact .refl s
      · exact .refl s

theorem countFlow_tables (j : Option Nat) (len : Nat) (s : State) : TablesKept s (countFlow j len s) := by
  unfold countFlow
  split
  · split
    · exact .flows (tabSorted_tabSet _ _) rfl rfl rfl
    · exact .refl s
  · exact .refl s

theorem markActive_tables (a : Addr) (s : State) : TablesKept s (markActive a s) := by
  unfold markActive
  split
  · rename_i i c hf
    split
    · exact .putClient (countersOk_findClient (c := c) hf)
    · exact .refl s
  · exact .refl s

theorem offerClass_tables (c : Class) (x : QEntry) (s : State) : TablesKept s (offerClass c x s).1 := by
  refine .of_eq (by simp) (by simp) ?_ (by simp)
  unfold offerClass
  dsimp only
  split <;> simp [countArrival]

theorem offerFrame_tables (d : Dest) (c : Class) (b : Bool) (frame : List Byte) (s : State) :
    TablesKept s (offerFrame d c b frame s).1 := by
  unfold offerFrame
  split
  · exact .framed (by simp)
  · exact offerClass_tables c _ s
  · exact .refl s

theorem removeFlow_tables (j : Nat) (f : Flow) (s : State) : TablesKept s (removeFlow j f s) := by
  have flows (x : Fc) (hx : x.flows = tabErase s.fc.flows j) : TablesKept s (s.setFc x) :=
    .flows (fun h => (congrArg tabSorted hx).trans (tabSorted_tabErase j h)) rfl rfl rfl
  unfold removeFlow
  dsimp only
  split
  · exact (flows _ rfl).trans (.modClient_same (f := fun c => { c with games := c.games - 1 }) fun _ => ⟨rfl, rfl⟩)
  · exact flows _ rfl

/-! ## The presence map (chapter 8) -/

theorem tabSorted_foldl {α β : Type} {f : Table α → β → Table α}
    (hf : ∀ t b, tabSorted t = true → tabSorted (f t b) = true)
    (l : List β) {t : Table α} (h : tabSorted t = true) : tabSorted (l.foldl f t) = true := by
  induction l generalizing t with
  | nil => exact h
  | cons b l ih => exact ih (hf t b h)

theorem tabSorted_unrequest (t : Table ChunkState) (k : Nat) (h : tabSorted t = true) : tabSorted (unrequest t k) = true := by
  unfold unrequest
  split
  · exact tabSorted_tabErase k h
  · exact h

theorem TablesKept.setIe {f : Ie → Ie} {s : State}
    (h : tabSorted s.ie.presence = true → tabSorted (f s.ie).presence = true) : TablesKept s (setIe s f) :=
  .presence h rfl rfl rfl

/-- Work of the Image Engine that does not write the presence map. -/
theorem TablesKept.setIe_same {f : Ie → Ie} {s : State} (h : (f s.ie).presence = s.ie.presence) :
    TablesKept s (Machine.setIe s f) := .of_eq rfl rfl rfl h

theorem tabSorted_failFetch (f : Fetch) {e : Ie} (h : tabSorted e.presence = true) :
    tabSorted (failFetch f e).presence = true := tabSorted_foldl tabSorted_unrequest _ h

theorem tabSorted_failFetches (l : List Fetch) {e : Ie} (h : tabSorted e.presence = true) :
    tabSorted (l.foldl (fun x f => failFetch f x) e).presence = true := by
  induction l generalizing e with
  | nil => exact h
  | cons f l ih => exact ih (tabSorted_failFetch f h)

theorem fetchOne_tables (s : State) : TablesKept s (fetchOne s) := by
  unfold fetchOne
  split
  · split
    · refine .trans (.of_eq ?_ ?_ ?_ ?_) (.setIe fun h => tabSorted_foldl (fun t k => tabSorted_tabSet k _) _ h)
      all_goals simp
    · exact .refl s
  · exact .refl s

theorem fetchLoop_tables (n : Nat) (s : State) : TablesKept s (fetchLoop n s) := by
  induction n generalizing s with
  | zero => exact .refl s
  | succ n ih =>
    unfold fetchLoop
    split
    · exact (fetchOne_tables s).trans (ih _)
    · exact .refl s

theorem issueFetches_tables (s : State) : TablesKept s (issueFetches s) := by
  unfold issueFetches
  split
  · exact fetchLoop_tables _ s
  · exact .refl s

theorem startFlash_tables (s : State) : TablesKept s (startFlash s) :=
  .of_eq (by simp) (by simp) (by simp) (by rw [startFlash_ie])

theorem beginErase_tables (a : After) (s : State) : TablesKept s (beginErase a s) := by
  obtain ⟨-, -, -, -, -, -, hp, -⟩ := beginErase_ie a s
  exact .presence (fun _ => by rw [hp]; rfl) (by simp) (by simp) (by simp)

theorem beginFilling_tables (d : Desc) (s : State) : TablesKept s (beginFilling d s) := .setIe fun _ => rfl

theorem takeImage_tables (d : Desc) (s : State) : TablesKept s (takeImage d s) := by
  unfold takeImage
  split
  · exact beginFilling_tables d s
  · exact .setIe_same rfl
  all_goals exact beginErase_tables _ s

theorem completePending_tables (k : Nat) (o : ReqOutcome) (r : List Byte) (s : State) :
    TablesKept s (completePending k o r s) := .framed (by simp)

theorem endErase_tables (s : State) : TablesKept s (endErase s) := by
  have blank : TablesKept s (setIe s (fun e => { e with tally := [], incRemap := [], erase := none })) := .setIe_same rfl
  unfold endErase
  dsimp only
  split
  · exact blank.trans (beginFilling_tables _ _)
  · exact blank.trans (.setIe_same rfl)
  · exact blank.trans (.trans (.setIe_same (f := fun e => { e with inc := .empty }) rfl) (completePending_tables _ _ _ _))

theorem noteConflicts_tables (a b c d : Nat) (s : State) : TablesKept s (noteConflicts a b c d s) := by
  refine .of_eq (by simp) (by simp) (by simp) ?_
  unfold noteConflicts
  dsimp only
  (repeat' split) <;> simp [setIe]

theorem lookForImage_tables (n : Nat) (b : PulseBody) (s : State) : TablesKept s (lookForImage n b s) := by
  unfold lookForImage
  split
  · refine .trans ?_ (takeImage_tables _ _)
    exact .of_eq rfl rfl rfl rfl
  · exact noteConflicts_tables _ _ _ _ s

/-! ## Peers lost, and the Activation Controller -/

theorem losePeer_tables (n : Nat) (s : State) : TablesKept s (losePeer n s) :=
  (loseClients_tables n s).trans (.setIe fun h => tabSorted_failFetches _ h)

theorem peerAbsent_tables (n : Nat) (s : State) : TablesKept s (peerAbsent n s) := by
  have erased : TablesKept s (setPeers (tabErase s.bu.peers n) s) := .peers (tabSorted_tabErase n) rfl rfl rfl
  exact erased.trans ((losePeer_tables n _).trans (.setIe_same rfl))

theorem allPeersAbsent_tables (s : State) : TablesKept s (allPeersAbsent s) := by
  have none_ : TablesKept s (setPeers [] s) := .peers (fun _ => rfl) rfl rfl rfl
  exact none_.trans (.foldl (fun t n => peerAbsent_tables n t) _ _)

theorem offerFill_tables (s : State) : TablesKept s (offerFill s) := .framed (by simp)
theorem acSettle_tables (s : State) : TablesKept s (acSettle s) := .framed (by simp)
theorem drainSettle_tables (s : State) : TablesKept s (drainSettle s) := .framed (by simp)
theorem acConditions_tables (s : State) : TablesKept s (acConditions s) := .framed (by simp)

end Sys2Proof.Machine
end
section
/-! SUPPORT. The Schedule Unit, the epoch edge, start-up, the reload and an accepted PULSE keep the tables (R23, R131). -/

namespace Sys2Proof.Machine

/-! ## The Schedule Unit (chapter 7) -/

theorem evalVerdict_tables (i : Nat) (s : State) : TablesKept s (evalVerdict i s) := by
  have judged (v : Verdict) : TablesKept s (modClient i (fun x => { x with verdict := some v }) s) :=
    .modClient_same fun _ => ⟨rfl, rfl⟩
  unfold evalVerdict
  split
  · split
    · split
      · split
        · exact .refl s
        · exact (judged .blocked).trans ((removeFlowsOf_tables i _).trans (.of_eq rfl rfl rfl rfl))
      · dsimp only
        split
        · exact (judged .allowed).trans (.of_eq rfl rfl rfl rfl)
        · exact judged .allowed
    · exact .refl s
  · exact .refl s

theorem evalVerdicts_tables (s : State) : TablesKept s (evalVerdicts s) := .forClients evalVerdict_tables s

theorem evalVerdictsOf_tables (p : Nat) (s : State) : TablesKept s (evalVerdictsOf p s) :=
  .forClients (fun i t => by
    split
    · split
      · exact evalVerdict_tables i t
      · exact .refl t
    · exact .refl t) s

/-- Profile states, maintenance and verdicts evaluated one after the other. -/
theorem evalSchedules_tables (s : State) : TablesKept s (evalVerdicts (evalMaintenance (evalProfiles s))) := by
  refine .trans ?_ (evalVerdicts_tables _)
  exact .framed (by simp)

/-- A day rollover clears both counters (R119). -/
theorem rolloverFrom_tables (d : Nat) (s : State) : TablesKept s (rolloverFrom d s) := by
  unfold rolloverFrom
  split
  · exact .refl s
  · exact .mapClients (f := fun c => { c with used := 0, extra := 0, drawn := 0, day := dayOf s.su.clock })
      (fun _ _ => rfl) rfl rfl rfl rfl

theorem newClockValue_tables (g : Grade) (m ms : Nat) (s : State) : TablesKept s (newClockValue g m ms s) := by
  unfold newClockValue
  refine .trans (.trans ?_ (rolloverFrom_tables _ _)) (evalSchedules_tables _)
  exact .of_eq rfl rfl rfl rfl

/-- A counted minute leaves the used minutes at 1440 at most, and draws on the extra minutes (R131). -/
theorem countersOk_countMinute (s : State) {c : Client} (h : countersOk c = true) :
    countersOk { countMinute s c with active := false } = true := by
  rw [countersOk_iff] at h
  have hx : c.extra - 1 ≤ 240 := (Nat.sub_le _ _).trans h.2
  unfold countMinute
  dsimp only
  (repeat' split) <;> simp only [countersOk_iff, h, hx, Nat.min_le_right, and_self]

theorem minuteWork_tables (s : State) : TablesKept s (minuteWork s) := by
  unfold minuteWork applyStaged
  dsimp only
  have counted : TablesKept s (accountMinute s) :=
    .mapClients (f := fun c => { countMinute s c with active := false }) (fun _ => countersOk_countMinute s) rfl rfl rfl rfl
  have staged (u : State) : TablesKept u ((List.range Config.profiles).foldl (fun t p => applyStagedOf p t) u) :=
    .foldl (fun t p => .framed (by simp)) _ _
  have ticked (c : Clock) (u : State) : TablesKept u (setClock c u) := .of_eq rfl rfl rfl rfl
  exact (((counted.trans (ticked _ _)).trans (rolloverFrom_tables _ _)).trans (staged _)).trans (evalSchedules_tables _)

/-! ## The transmitters and the epoch edge (chapters 1, 5 and 6) -/

theorem liveness_tables (n : Nat) (s : State) : TablesKept s (liveness n s) := by
  have kept (q : Peer) : TablesKept s (setPeers (tabSet s.bu.peers n q) s) := .peers (tabSorted_tabSet n q) rfl rfl rfl
  have told (e : Event) (q : Peer) : TablesKept s (raise e (setPeers (tabSet s.bu.peers n q) s)) :=
    (kept q).trans (.of_eq rfl rfl rfl rfl)
  have gone : TablesKept s (peerAbsent n (raise (.peerGone n) s)) := by
    refine .trans ?_ (peerAbsent_tables n _)
    exact .of_eq rfl rfl rfl rfl
  unfold liveness
  split
  · exact .refl s
  · dsimp only
    split
    · split
      · exact told _ _
      · split
        · exact gone
        · exact kept _
    · split
      · exact told _ _
      · exact kept _
    · split
      · exact gone
      · exact kept _

theorem edgeCounts_tables (s : State) : TablesKept s (s.setFc (edgeCounts s.fc)) :=
  .flows (fun h => tabSorted_tabMap (fun x : Flow => { x with bytes := 0 }) h) rfl rfl rfl

theorem epochEdge_tables (d : Quad) (s : State) : TablesKept s (epochEdge d s) := by
  have lively : TablesKept s (livenessAll s) := .foldl (fun t n => liveness_tables n t) _ s
  have shared (a : State) : TablesKept a (edgeShare d a) := .of_eq rfl rfl rfl rfl
  have looked (c : State) : TablesKept c (acEdge c) := .framed (by simp)
  have edge := ((lively.trans (shared _)).trans (edgeCounts_tables _)).trans (looked _)
  unfold epochEdge
  dsimp only
  refine .trans ?_ (offerFill_tables _)
  split
  · exact edge.trans (issueFetches_tables _)
  · exact edge

theorem takePulse_tables (timed : Bool) (s : State) : TablesKept s (takePulse timed s) := by
  unfold takePulse
  dsimp only
  split
  · refine .trans ?_ (epochEdge_tables _ _)
    exact .framed (by simp)
  · exact .framed (by simp)

theorem wake_tables (s : State) : TablesKept s (wake s) := by
  unfold wake
  split
  · split
    · refine .trans ?_ (takePulse_tables _ _)
      exact .of_eq rfl rfl rfl rfl
    · exact .of_eq rfl rfl rfl rfl
    · split
      · exact .framed (by simp)
      · exact .refl s
  · exact .refl s

theorem nodePump_tables (s : State) : TablesKept s (nodePump s) := .framed (by simp)

/-! ## Start-up and the reload (chapter 11) -/

theorem fullReset_tables (c : ResetCause) (s : State) : TablesKept s (resetNow c s) := .empty rfl rfl rfl rfl

theorem beginStart_tables (s : State) : TablesKept s (beginStart s) := .framed (by simp)

theorem enterRunning_tables (s : State) : TablesKept s (enterRunning s) := by
  unfold enterRunning
  refine .trans ?_ (acSettle_tables _)
  exact .of_eq rfl rfl rfl rfl

theorem enterIsolated_tables (s : State) : TablesKept s (enterIsolated s) := by
  have absent : TablesKept s (allPeersAbsent ((s.setSl { s.sl with part := .isolated }).setBu
      { s.bu with pulseTimer := none, sightTimer := none, control := [] })) := by
    refine .trans ?_ (allPeersAbsent_tables _)
    exact .of_eq rfl rfl rfl rfl
  have stopped (x : State) : TablesKept x (acIsolated x) := .framed (by simp)
  unfold enterIsolated
  dsimp only
  refine .trans (.trans (.trans absent (edgeCounts_tables _)) ?_) (stopped _)
  exact .of_eq rfl rfl rfl rfl

/-- The chunks found by the resume scan are listed in rising order (R153). -/
theorem tabSorted_scanPresence (h : Header) : tabSorted (scanPresence h) = true := by
  have sorted {f : Nat → Bool} {v : ChunkState} (l : List Nat) (hl : l.Pairwise (· < ·)) :
      tabSorted (l.filterMap (fun k => if f k then some (k, v) else none)) = true := by
    induction l with
    | nil => rfl
    | cons k l ih =>
      obtain ⟨hk, hl⟩ := List.pairwise_cons.1 hl
      rw [List.filterMap_cons]
      split
      · exact ih hl
      · rename_i p hp
        split at hp
        · obtain rfl := Option.some.inj hp
          refine tabSorted_cons.2 ⟨fun q hq => ?_, ih hl⟩
          obtain ⟨j, hj, hq⟩ := List.mem_filterMap.1 hq
          split at hq
          · obtain rfl := Option.some.inj hq
            exact hk j hj
          · cases hq
        · cases hp
  unfold scanPresence
  split
  · rfl
  · exact sorted _ List.pairwise_lt_range

theorem tabSorted_scanIncoming (sl : Slot) (h : Header) {e : Ie} (he : e.presence = []) :
    tabSorted (scanIncoming sl h e).presence = true := by
  unfold scanIncoming
  split
  · rw [he]; rfl
  · rw [he]; rfl
  · exact tabSorted_scanPresence h
  · dsimp only
    split <;> exact tabSorted_scanPresence h
  · rw [he]; rfl

theorem resumeScan_tables (s : State) : TablesKept s (s.setIe (resumeScan s.flash)) :=
  .presence (fun _ => tabSorted_scanIncoming _ _ rfl) rfl rfl rfl

theorem finishStart_tables (s : State) : TablesKept s (finishStart s) := by
  have loaded : TablesKept s (if s.sl.phase == .loading then loading s else s) := by
    split
    · exact .framed (by simp)
    · exact .refl s
  have waits (b : State) : TablesKept b (b.setAc { b.ac with state := if imageDue b then .waiting else .idle }) :=
    .of_eq rfl rfl rfl rfl
  have entered (c : State) :
      TablesKept c (if mayRun c then enterRunning c else c.setSl { c.sl with part := .isolated }) := by
    split
    · exact enterRunning_tables c
    · exact .of_eq rfl rfl rfl rfl
  exact (((loaded.trans (resumeScan_tables _)).trans (waits _)).trans (entered _)).trans (startFlash_tables _)

theorem applyParams_tables (p : Params) (l : Sl) (s : State) : TablesKept s (applyParams p l s) := by
  have inForce : TablesKept s ((s.setSl l).setEs (trimQueues p s.es)) := .of_eq rfl rfl rfl rfl
  have flows : TablesKept s (if p.gmax = s.sl.params.gmax then (s.setSl l).setEs (trimQueues p s.es)
      else emptyFlows ((s.setSl l).setEs (trimQueues p s.es))) := by
    split
    · exact inForce
    · exact inForce.trans (emptyFlows_tables _)
  unfold applyParams
  dsimp only
  split
  · exact flows
  · refine flows.trans (.mapClients (f := ownServing p.node) (fun c hc => ?_) rfl rfl rfl rfl)
    rwa [countersOk_congr (ownServing_counters p.node c).1 (ownServing_counters p.node c).2]

theorem reloadPart_tables (p : Option Params) (s : State) : TablesKept s (reloadPart p s) := by
  unfold reloadPart
  split
  · exact enterIsolated_tables s
  · exact .refl s
  · split
    · exact ((enterIsolated_tables s).trans (applyParams_tables _ _ _)).trans (enterRunning_tables _)
    · exact applyParams_tables _ _ s
  · exact (applyParams_tables _ _ s).trans (enterRunning_tables _)

theorem reload_tables (s : State) : TablesKept s (reload s).1 := by
  unfold reload
  split
  all_goals
    refine .trans ?_ (reloadPart_tables _ _)
    exact .framed (by simp)

/-! ## Frames received (chapter 1) -/

theorem nodeClash_tables (n : Nat) (a : Addr) (s : State) : TablesKept s (nodeClash n a s) :=
  .framed (by simp)

theorem setLastSeq_tables (n : Nat) (p : Peer) (q : BitVec 16) (s : State) : TablesKept s (setLastSeq n p q s) :=
  .peers (tabSorted_tabSet n _) rfl rfl rfl

/-- A bulletin that is checked keeps the tables when its delivery does (R2 to R7). -/
theorem receive_tables {k : Nat} {f : MeshFrame} {d : Nat → Body → State → State}
    (hd : ∀ n b u, TablesKept u (d n b u)) (s : State) : TablesKept s (receive k f d s) := by
  unfold receive
  split
  · split
    · exact .refl s
    · split
      · exact .refl s
      · exact nodeClash_tables _ _ s
      · exact .refl s
      · dsimp only
        split
        · split
          · exact (setLastSeq_tables _ _ _ s).trans (hd _ _ _)
          · exact setLastSeq_tables _ _ _ s
        · exact .refl s
  · exact .refl s

theorem periodTest_tables (n : Nat) (b : PulseBody) (s : State) : TablesKept s (periodTest n b s) := by
  have marked (p : Peer) : TablesKept s (setPeers (tabSet s.bu.peers n p) s) := .peers (tabSorted_tabSet n p) rfl rfl rfl
  unfold periodTest
  split
  · exact .refl s
  · dsimp only
    split
    · exact (marked _).trans (.of_eq rfl rfl rfl rfl)
    · exact marked _

theorem skewTest_tables (n : Nat) (b : PulseBody) (s : State) : TablesKept s (skewTest n b s) := by
  have marked (p : Peer) : TablesKept s (setPeers (tabSet s.bu.peers n p) s) := .peers (tabSorted_tabSet n p) rfl rfl rfl
  unfold skewTest
  split
  · exact .refl s
  · dsimp only
    split
    · exact (marked _).trans (.of_eq rfl rfl rfl rfl)
    · exact marked _

theorem timeTest_tables (n : Nat) (b : PulseBody) (s : State) : TablesKept s (timeTest n b s) := by
  unfold timeTest
  split
  · split
    · refine (newClockValue_tables .borrowed b.minute b.milli s).trans ?_
      generalize newClockValue .borrowed _ _ s = t
      exact .of_eq rfl rfl rfl rfl
    · exact skewTest_tables n b s
  · exact .refl s

theorem acceptPulse_tables (n : Nat) (f : MeshFrame) (b : PulseBody) (o : Option Peer) (s : State) :
    TablesKept s (acceptPulse n f b o s) := by
  have restarts : TablesKept s (if o.any (isRestart b) then losePeer n s else s) := by
    split
    · exact losePeer_tables n s
    · exact .refl s
  have entered (a : State) (p : Peer) : TablesKept a (setPeers (tabSet a.bu.peers n p) a) :=
    .peers (tabSorted_tabSet n p) rfl rfl rfl
  unfold acceptPulse
  dsimp only
  refine .trans (.trans ?_ (periodTest_tables n b _)) (timeTest_tables n b _)
  split
  · exact (restarts.trans (entered _ _)).trans (.of_eq rfl rfl rfl rfl)
  · exact restarts.trans (entered _ _)

theorem pulseFollow_tables (n : Nat) (b : PulseBody) (s : State) : TablesKept s (pulseFollow n b s) := by
  have pulsed (u : State) : TablesKept u (acPulse n b u) := .framed (by simp)
  exact (((((lookForImage_tables n b s).trans (pulsed _)).trans (acSettle_tables _)).trans (issueFetches_tables _)).trans
    (startFlash_tables _)).trans (wake_tables _)

theorem receivePulse_tables (f : MeshFrame) (s : State) : TablesKept s (receivePulse f pulseFollow s) := by
  unfold receivePulse
  split
  · split
    · split
      · exact .refl s
      · exact nodeClash_tables _ _ s
      · exact (acceptPulse_tables _ _ _ _ s).trans (pulseFollow_tables _ _ _)
      · split
        · exact (acceptPulse_tables _ _ _ _ s).trans (pulseFollow_tables _ _ _)
        · exact .refl s
    · exact .refl s
  · exact .refl s

end Sys2Proof.Machine
end
section
/-! SUPPORT. Bulletins, carried frames and items of the node port keep the tables (R23, R131). -/

namespace Sys2Proof.Machine

/-! ## Bulletins of the Roaming Controller (chapters 2 and 3) -/

/-- A change of role with the tenure and the serving node that go with it. -/
theorem countersOk_moved {n : Nat} {t : BitVec 16} (c : Client) :
    (setServing n { c with tenure := t }).used = c.used ∧ (setServing n { c with tenure := t }).extra = c.extra := by simp

/-- A client found elsewhere becomes REMOTE with the holddown set, and its CONTEXT and an event go out. -/
theorem movedAway_tables (i : Nat) (c : Client) (n : Nat) (t : BitVec 16) (e : Event) (s : State) :
    TablesKept s (raise e (sendContext c n t
      (toRole i .remote (fun x => setHolddown s.sl.params s.now (setServing n { x with tenure := t })) s))) := by
  refine .trans ?_ ((sendContext_tables c n t _).trans (raise_tables e _))
  exact toRole_tables (fun _ => by simp) i .remote s

theorem learn_tables (n : Nat) (e : Listing) (s : State) : TablesKept s (learn n e s) := by
  unfold learn
  split
  · rename_i i t hroom
    exact (makeRoom_tables hroom).trans (.putClient fun _ => rfl)
  · exact .refl s

theorem doubleServe_tables (i : Nat) (c : Client) (n : Nat) (t : BitVec 16) (s : State) :
    TablesKept s (doubleServe i c n t s) := by
  unfold doubleServe
  dsimp only
  split
  · exact movedAway_tables i c n t _ s
  · exact .refl s

theorem roleEffect_tables (n : Nat) (e : Listing) (s : State) : TablesKept s (roleEffect n e s) := by
  unfold roleEffect
  split
  · exact learn_tables n e s
  · rename_i i c hfound
    have before : clientsOk s = true → countersOk c = true := countersOk_findClient hfound
    split
    · split
      · split
        · exact .putClient before
        · exact .refl s
      · split
        · exact .putClient fun hs => by rw [countersOk_congr (countersOk_moved c).1 (countersOk_moved c).2]; exact before hs
        · exact .refl s
    · exact .refl s
    · exact .refl s
    · exact doubleServe_tables i c n _ s
    · exact doubleServe_tables i c n _ s
    · exact toRole_tables countersOk_moved i .remote s
    · exact toRole_tables countersOk_moved i .remote s

theorem listingReading_tables (n : Nat) (e : Listing) (s : State) : TablesKept s (listingReading n e s) := by
  unfold listingReading
  split
  · refine .trans (.modClient_same fun c => ?_) (evaluateClaim_tables _ n e.reading _)
    exact recordReading_counters n e.reading s.now c
  · exact .refl s

theorem takeListing_tables (n : Nat) (s : State) (e : Listing) : TablesKept s (takeListing n s e) := by
  have effect : TablesKept s (if e.servedHere then roleEffect n e s else s) := by
    split
    · exact roleEffect_tables n e s
    · exact .refl s
  unfold takeListing
  split
  · exact .refl s
  · exact (effect.trans (listingReading_tables n e _)).trans (drainSettle_tables _)

theorem takeSighting_tables (n : Nat) (b : Body) (s : State) : TablesKept s (takeSighting n b s) := by
  unfold takeSighting
  split
  · exact .trans (.foldl (takeListing_tables n) _ s) (wake_tables _)
  · exact .refl s

theorem grantClaim_tables (i : Nat) (c : Client) (n : Nat) (number : BitVec 16) (s : State) :
    TablesKept s (grantClaim i c n number s) := by
  unfold grantClaim
  refine .trans (.trans (sendBulletin_tables _ _ s) (toRole_tables ?_ i .handing _)) (raise_tables _ _)
  exact fun _ => ⟨rfl, rfl⟩

theorem answerClaim_tables (n : Nat) (a : Addr) (number : BitVec 16) (reading : Int) (s : State) :
    TablesKept s (answerClaim n a number reading s) := by
  unfold answerClaim
  split
  · exact .framed (by simp)
  · split
    case h_7 =>
      dsimp only
      split
      · exact .framed (by simp)
      · refine .trans ?_ (grantClaim_tables _ _ n number _)
        exact .framed (by simp)
    all_goals exact .framed (by simp)

theorem takeClaim_tables (n : Nat) (b : Body) (s : State) : TablesKept s (takeClaim n b s) := by
  unfold takeClaim
  split
  · exact ((answerClaim_tables n _ _ _ s).trans (offerFill_tables _)).trans (wake_tables _)
  · exact .refl s

theorem takeGrant_tables (n : Nat) (b : Body) (s : State) : TablesKept s (takeGrant n b s) := by
  unfold takeGrant
  split
  · rename_i a number
    have withdrawn : TablesKept s (wake (sendBulletin n (.withdraw a number) s)) :=
      (sendBulletin_tables _ _ s).trans (wake_tables _)
    dsimp only
    split
    · split
      · exact toRole_id_tables _ .expecting s
      · split
        · exact .refl s
        · exact withdrawn
    · exact withdrawn
  · exact .refl s

theorem takeRefuse_tables (n : Nat) (b : Body) (s : State) : TablesKept s (takeRefuse n b s) := by
  unfold takeRefuse
  split
  · split
    · split
      · exact toRole_tables (fun x => by simp) _ .remote s
      · exact .refl s
    · exact .refl s
  · exact .refl s

theorem takeWithdraw_tables (n : Nat) (b : Body) (s : State) : TablesKept s (takeWithdraw n b s) := by
  unfold takeWithdraw
  split
  · split
    · split
      · exact (((toRole_id_tables _ .served s).trans (raise_tables _ _)).trans (offerFill_tables _)).trans (wake_tables _)
      · exact .refl s
    · exact .refl s
  · exact .refl s

theorem arrivedEntry_tables {a : Addr} {i : Nat} {c : Client} {s : State} (hc : findClient s a = some (i, c)) (n : Nat)
    (t : BitVec 16) : TablesKept s (arrivedEntry i c n t s) := by
  unfold arrivedEntry
  split
  · exact movedAway_tables i c n t _ s
  · exact movedAway_tables i c n t _ s
  · refine .putClient fun hs => ?_
    rw [← countersOk_findClient hc hs]
    exact countersOk_congr (countersOk_moved c).1 (countersOk_moved c).2
  all_goals exact toRole_tables countersOk_moved i .remote s

theorem takeArrived_tables (n : Nat) (b : Body) (s : State) : TablesKept s (takeArrived n b s) := by
  unfold takeArrived
  split
  · split
    · rename_i hfound
      exact ((arrivedEntry_tables hfound n _).trans (drainSettle_tables _)).trans (wake_tables _)
    · exact .refl s
  · exact .refl s

/-- The counters of a CONTEXT are within their ranges, the used minutes by the minimum taken (R61, R131). -/
theorem countersOk_takeCounters {profile day used extra : Nat} {c : Client} (hc : countersOk c = true) (hx : extra ≤ 240) :
    countersOk (takeCounters profile day used extra c) = true := by
  rw [countersOk_iff] at hc ⊢
  have drawn : extra - c.drawn ≤ 240 := (Nat.sub_le _ _).trans hx
  unfold takeCounters
  dsimp only
  split
  · exact ⟨Nat.min_le_right _ _, drawn⟩
  · split <;> exact hc

theorem takeContext_tables (n : Nat) (b : Body) (s : State) : TablesKept s (takeContext n b s) := by
  unfold takeContext
  split
  · split
    · rename_i hfound
      split
      · rename_i checks
        obtain ⟨-, -, -, -, -, hx⟩ := checks
        exact .trans (.putClient fun hs => countersOk_takeCounters (countersOk_findClient hfound hs) hx)
          (evalVerdict_tables _ _)
      · exact .refl s
    · exact .refl s
  · exact .refl s

theorem takeOffer_tables (n : Nat) (b : Body) (s : State) : TablesKept s (takeOffer n b s) := by
  unfold takeOffer
  split
  · split
    · split
      · exact (sendClaim_tables _ s).trans (wake_tables _)
      · exact .refl s
    · exact .refl s
  · exact .refl s

/-! ## FETCH, CHUNK and carried frames (chapters 1 and 8) -/

theorem takeFetch_tables (n : Nat) (b : Body) (s : State) : TablesKept s (takeFetch n b s) := by
  unfold takeFetch
  split
  · split
    · split
      · refine .trans (.setIe_same ?_) (startFlash_tables _)
        rfl
      · exact .refl s
    · exact .refl s
  · exact .refl s

theorem acceptChunk_tables (p : Prog) (s : State) : TablesKept s (setIe s (acceptChunk p)) :=
  .setIe fun h => tabSorted_tabSet p.index _ h

theorem countChunk_tables (f : Fetch) (got : Bool) (index position : Nat) (s : State) :
    TablesKept s (setIe s (countChunk f got index position)) := by
  refine .setIe fun h => ?_
  unfold countChunk
  dsimp only
  generalize (if got then noteReceived index f else f) = g
  split
  · exact h
  · split
    · exact tabSorted_failFetch g h
    · exact h

theorem takeChunk_tables (n : Nat) (b : Body) (s : State) : TablesKept s (takeChunk n b s) := by
  unfold takeChunk
  split
  · rename_i image index number position crc data
    have accepted : TablesKept s (if acceptance s image index crc data = .accepted then
        setIe s (acceptChunk { index := index, data := data, host := false }) else s) := by
      split
      · exact acceptChunk_tables _ s
      · exact .refl s
    dsimp only
    refine .trans (.trans (.trans ?_ (issueFetches_tables _)) (startFlash_tables _)) (wake_tables _)
    split
    · exact accepted.trans (countChunk_tables _ _ index position _)
    · exact accepted
  · exact .refl s

theorem uplinkDelivery_tables (c : Class) (frame : List Byte) (s : State) : TablesKept s (uplinkDelivery c frame s) := by
  unfold uplinkDelivery
  split
  · exact (offerFrame_tables _ _ _ _ s).trans (nodePump_tables _)
  · exact .refl s

theorem takeCarried_tables (f : CarriedFrame) (c : Class) (frame : List Byte) (s : State) :
    TablesKept s (takeCarried f c frame s) := by
  unfold takeCarried
  split
  · exact uplinkDelivery_tables c frame s
  · rename_i i k hfound
    have delivered : TablesKept s
        (if k.verdict = some .blocked then touch i s
          else
            let r := offerFrame (.nodeSide true) c false frame (touch i s)
            nodePump (if r.2 then markActive k.addr r.1 else r.1)) := by
      split
      · exact touch_tables i s
      · dsimp only
        refine .trans ?_ (nodePump_tables _)
        have offered := (touch_tables i s).trans (offerFrame_tables (.nodeSide true) c false frame _)
        split
        · exact offered.trans (markActive_tables k.addr _)
        · exact offered
    have forwarded : TablesKept s (if isReForwarded f then touch i s
        else wake (offerFrame (.peer k.serving) c true frame (touch i s)).1) := by
      split
      · exact touch_tables i s
      · exact ((touch_tables i s).trans (offerFrame_tables _ _ _ _ _)).trans (wake_tables _)
    have uplinked := (touch_tables i s).trans (uplinkDelivery_tables c frame _)
    split
    · exact delivered
    · exact delivered
    · exact forwarded
    · exact forwarded
    · exact forwarded
    · exact uplinked
    · exact uplinked

theorem receiveCarried_tables (f : CarriedFrame) (s : State) : TablesKept s (receiveCarried f (takeCarried f) s) := by
  unfold receiveCarried
  split
  · split
    · exact .refl s
    · split
      · split
        · exact .refl s
        · exact nodeClash_tables _ _ s
        · exact .refl s
        · split
          · exact takeCarried_tables f _ _ s
          · exact .refl s
      · exact .refl s
  · exact .refl s

/-! ## Items of the node port (chapter 4) -/

theorem itemSample_tables (it : NodeItem) (s : State) : TablesKept s (itemSample it s) := by
  unfold itemSample
  split
  · exact takeSample_tables _ _ s
  · exact .refl s

theorem touchSubject_tables (a : Addr) (s : State) : TablesKept s (touchSubject a s) := by
  unfold touchSubject
  split
  · exact touch_tables _ s
  · exact .refl s

theorem forward_tables (it : NodeItem) (cls : Class) (flow : Option Nat) (s : State) :
    TablesKept s (forward it cls flow s) := by
  have touched := touchSubject_tables (itemSubject it) s
  unfold forward
  dsimp only
  split
  · exact touched.trans (.framed (by simp))
  · have offered := touched.trans (offerFrame_tables (itemDest it (touchSubject (itemSubject it) s)) cls false it.bytes _)
    split
    · exact (((offered.trans (countFlow_tables flow _ _)).trans (markActive_tables _ _)).trans (wake_tables _)).trans
        (nodePump_tables _)
    · exact offered

theorem takeItem_tables (it : NodeItem) (s : State) : TablesKept s (takeItem it s) := by
  have sampled := itemSample_tables it s
  unfold takeItem
  dsimp only
  split
  · exact sampled
  · have classified := sampled.trans (classify_tables (itemSubject it) (itemSubjectDest it) it.bytes _)
    refine .trans ?_ (forward_tables it _ _ _)
    split
    · exact classified
    · exact classified.trans (acConditions_tables _)

end Sys2Proof.Machine
end
section
/-! SUPPORT. Flash operations that end, timers and requests keep the tables (R23, R131). -/

namespace Sys2Proof.Machine

/-! ## Flash operations that end (chapter 8) -/

theorem afterOp_tables (s : State) : TablesKept s (afterOp s) :=
  ((issueFetches_tables s).trans (startFlash_tables _)).trans (wake_tables _)

theorem opDone_tables (s : State) : TablesKept s (opDone s) := .setIe_same rfl

theorem setFlash_tables (f : Flash) (s : State) : TablesKept s (s.setFlash f) := .of_eq rfl rfl rfl rfl

theorem recordFault_tables (f : FaultRec) (s : State) : TablesKept s (recordFault f s) := .of_eq rfl rfl rfl rfl

theorem bringToEmpty_tables (s : State) : TablesKept s (bringToEmpty s) := by
  unfold bringToEmpty
  refine .trans ?_ (acSettle_tables _)
  split
  · exact complete_tables _ _ s
  · exact .setIe_same rfl
  all_goals exact beginErase_tables _ s

theorem endWait_tables (waited : Bool) (s : State) : TablesKept s (endWait waited s) := by
  unfold endWait
  split
  · refine .trans (.setIe_same ?_) (bringToEmpty_tables _)
    rfl
  · exact .refl s

theorem secondFault_tables (f : FaultRec) (page : Nat) (s : State) : TablesKept s (secondFault f page s) := by
  have missed (spare : Nat) : TablesKept s (setIe s (fun e => { e with
      incRemap := e.incRemap ++ [(page, spare)], presence := missPage page e.presence,
      tally := e.tally.filter (· != page) })) := .setIe fun h => tabSorted_filter _ h
  unfold secondFault
  split
  · exact (missed _).trans (requestHeader_tables _ _)
  · dsimp only
    split
    · exact (recordFault_tables _ s).trans (beginErase_tables _ _)
    · exact recordFault_tables _ s

theorem pageFault_tables (f : FaultRec) (page : Nat) (s : State) : TablesKept s (pageFault f page s) := by
  unfold pageFault
  split
  · exact secondFault_tables f page s
  · exact .setIe_same rfl

theorem endProg_tables (p : Prog) (o : Option ChunkState) (s : State) : TablesKept s (endProg p o s) := by
  refine .setIe fun h => ?_
  cases o with
  | none => exact tabSorted_tabErase p.index h
  | some x => exact tabSorted_tabSet p.index x h

theorem startCheck_tables (s : State) : TablesKept s (startCheck s) := by
  unfold startCheck
  split
  · exact .setIe_same rfl
  · exact .refl s

/-- A request of the host that waited for the work is completed. -/
theorem completedIf_tables (host : Prop) [Decidable host] (k : Nat) (o : ReqOutcome) (r : List Byte) (s : State) :
    TablesKept s (if host then completePending k o r s else s) := by
  split
  · exact completePending_tables k o r s
  · exact .refl s

theorem chunkGood_tables (sl : Slot) (pos : Nat) (p : Prog) (live : Bool) (s : State) :
    TablesKept s (chunkGood sl pos p live s) := by
  unfold chunkGood
  dsimp only
  split
  · exact (((setFlash_tables _ s).trans (endProg_tables p (some .present) _)).trans (completedIf_tables _ _ _ _ _)).trans
      (startCheck_tables _)
  · exact setFlash_tables _ s

theorem chunkBad_tables (sl : Slot) (pos : Nat) (p : Prog) (live : Bool) (s : State) :
    TablesKept s (chunkBad sl pos p live s) := by
  unfold chunkBad
  dsimp only
  split
  · exact (((endProg_tables p none s).trans (recordFault_tables _ _)).trans (completedIf_tables _ _ _ _ _)).trans
      (pageFault_tables _ _ _)
  · exact recordFault_tables _ s

theorem checkPassed_tables (d : Desc) (s : State) : TablesKept s (checkPassed d s) := .of_eq rfl rfl rfl rfl

theorem checkFailed_tables (d : Desc) (s : State) : TablesKept s (checkFailed d s) := by
  unfold checkFailed
  dsimp only
  split <;> exact (raise_tables _ s).trans (beginErase_tables _ _)

theorem checkRead_tables (d : Desc) (c : Check) (s : State) : TablesKept s (checkRead d c s) := by
  unfold checkRead
  dsimp only
  split
  · exact .setIe_same rfl
  · split
    · exact checkPassed_tables d s
    · exact checkFailed_tables d s

theorem serveChunk_tables (e : Serve) (rest : List Serve) (s : State) : TablesKept s (serveChunk e rest s) := by
  unfold serveChunk
  split
  · dsimp only
    refine .trans (offerClass_tables _ _ s) (.setIe_same ?_)
    rfl
  · exact .setIe_same rfl

theorem imageReadOne_tables (r : ImageRead) (s : State) : TablesKept s (imageReadOne r s) := by
  unfold imageReadOne
  dsimp only
  split
  · exact .setIe_same rfl
  · refine .trans (.setIe_same ?_) (completePending_tables _ _ _ _)
    rfl

theorem startWritten_tables (bytes readBack : List Byte) (s : State) : TablesKept s (startWritten bytes readBack s) :=
  ((setFlash_tables _ s).trans (reload_tables _)).trans (completePending_tables _ _ _ _)

/-! ## Supply fail (R155) -/

theorem dropProgs_tables (s : State) : TablesKept s (setIe s dropProgs) :=
  .setIe fun h => tabSorted_foldl (fun _ (g : Prog) => tabSorted_tabErase g.index) _ h

theorem supplyFailed_tables (s : State) : TablesKept s (supplyFailed s) := by
  have announced : TablesKept s (if running s then announcePulse s else s) := by
    split
    · exact .framed (by simp)
    · exact .refl s
  unfold supplyFailed
  dsimp only
  exact ((announced.trans (dropProgs_tables _)).trans (completedIf_tables _ _ _ _ _)).trans (wake_tables _)

/-! ## Timers -/

theorem markPeriod_tables (n : Nat) (s : State) : TablesKept s (markPeriod n s) := by
  have marked (p : Peer) : TablesKept s (setPeers (tabSet s.bu.peers n p) s) := .peers (tabSorted_tabSet n p) rfl rfl rfl
  unfold markPeriod
  split
  · split
    · exact .refl s
    · exact (marked _).trans (raise_tables _ _)
  · exact .refl s

theorem adoptPulsePeriod_tables (s : State) : TablesKept s (adoptPulsePeriod s) := by
  unfold adoptPulsePeriod
  split
  · refine .trans ?_ (.foldl (fun t n => markPeriod_tables n t) _ _)
    exact .of_eq rfl rfl rfl rfl
  · exact .refl s

theorem onExpiry_tables {o : Option Nat} {f : State → State} (hf : ∀ u, TablesKept u (f u)) (s : State) :
    TablesKept s (onExpiry o f s) := by
  unfold onExpiry
  split
  · exact (runTo_tables _ s).trans (hf _)
  · exact .refl s

theorem roleExpiry_tables {i : Nat} {r : Role → Bool} {f : Client → State → State} (hf : ∀ c u, TablesKept u (f c u))
    (s : State) : TablesKept s (roleExpiry i r f s) := by
  unfold roleExpiry
  split
  · split
    · exact onExpiry_tables (hf _) s
    · exact .refl s
  · exact .refl s

/-! ## Requests -/

/-- A request keeps the tables when what it carries out does. -/
theorem submit_tables {code : Nat} {lenOk : List Byte → Bool} {run : List Byte → State → State} {x : Submit}
    (h : ∀ d s, TablesKept s (run d s)) (s : State) : TablesKept s (submit code lenOk run x s) := by
  have echoed : TablesKept s (shiftOut (2 + x.length) (echoBytes s) s) := .of_eq rfl rfl rfl rfl
  have taken (t : Byte) (u : State) : TablesKept u (takeSubmit code t u) := .of_eq rfl rfl rfl rfl
  unfold submit dispatch
  dsimp only
  split
  · split
    · exact echoed.trans (.of_eq rfl rfl rfl rfl)
    · refine (echoed.trans (taken (submitTag x) _)).trans ?_
      split
      · exact complete_tables _ _ _
      · split
        · exact complete_tables _ _ _
        · exact h _ _
  · exact echoed

/-- The counters of an attached entry are kept, or start at 0 (R129). -/
theorem countersOk_attached {p : Params} {now day : Nat} {o : Option Nat} {c : Client} (h : countersOk c = true) :
    countersOk (attached p now day o c) = true := by
  have profile (q : Nat) (d : Client) : (attachProfile q o d).used = d.used ∧ (attachProfile q o d).extra = d.extra := by
    unfold attachProfile
    split
    · exact ⟨rfl, rfl⟩
    · split <;> exact ⟨rfl, rfl⟩
  unfold attached
  dsimp only
  split
  · rw [← h]
    exact countersOk_congr (by simp [profile]) (by simp [profile])
  · rfl

theorem attachAt_tables {i : Nat} {o : Option Nat} {c : Client} {s : State} (h : clientsOk s = true → countersOk c = true) :
    TablesKept s (attachAt i o c s) := by
  have put (d : Client) (hd : clientsOk s = true → countersOk d = true) : TablesKept s (putClient i d s) := .putClient hd
  exact (((put _ fun hs => countersOk_attached (h hs)).trans (sendBulletin_tables _ _ _)).trans (evalVerdict_tables i _)).trans
    (complete_tables _ _ _)

theorem runClientAttach_tables (d : List Byte) (s : State) : TablesKept s (runClientAttach d s) := by
  unfold runClientAttach
  dsimp only
  split
  · exact complete_tables _ _ s
  · split
    · exact complete_tables _ _ s
    · split
      · rename_i i c hfound
        refine .trans (.trans ?_ (offerFill_tables _)) (wake_tables _)
        exact attachAt_tables (countersOk_findClient (c := c) hfound)
      · split
        · rename_i hroom
          refine .trans (.trans ((makeRoom_tables hroom).trans ?_) (offerFill_tables _)) (wake_tables _)
          exact attachAt_tables fun _ => rfl
        · exact complete_tables _ _ s

theorem runClientDetach_tables (d : List Byte) (s : State) : TablesKept s (runClientDetach d s) := by
  have detached (i : Nat) : TablesKept s (wake (drainSettle (complete .ok []
      (removeFlowsOf i (toRole i .departed (setServing 0) s))))) :=
    ((((toRole_tables (setServing_counters 0) i .departed s).trans (removeFlowsOf_tables i _)).trans
      (complete_tables _ _ _)).trans (drainSettle_tables _)).trans (wake_tables _)
  unfold runClientDetach
  split
  · exact complete_tables _ _ s
  · split
    case h_1 | h_2 | h_3 => exact detached _
    all_goals exact complete_tables _ _ s

/-- Extra minutes given stop at 240 (R130). -/
theorem countersOk_assigned {o x : Option Nat} {c : Client} (h : countersOk c = true) :
    countersOk (assigned o x c) = true := by
  rw [countersOk_iff] at h ⊢
  cases o <;> cases x
  case none.none | some.none => exact h
  all_goals exact ⟨h.1, Nat.min_le_right _ _⟩

theorem runClientAssign_tables (d : List Byte) (s : State) : TablesKept s (runClientAssign d s) := by
  unfold runClientAssign
  dsimp only
  split
  · exact complete_tables _ _ s
  · split
    · exact complete_tables _ _ s
    · split
      · exact complete_tables _ _ s
      · rename_i hfound
        exact (TablesKept.putClient fun hs => countersOk_assigned (countersOk_findClient hfound hs)).trans
          ((evalVerdict_tables _ _).trans (complete_tables _ _ _))

theorem resetPeers_tables (s : State) : TablesKept s (resetPeers s) :=
  ((((allPeersAbsent_tables s).trans (offerFill_tables _)).trans (issueFetches_tables _)).trans (wake_tables _)).trans
    (complete_tables _ _ _)

theorem resetClients_tables (s : State) : TablesKept s (resetClients s) := by
  have emptied (t : State) (r : Rc) (hr : r.clients = []) : TablesKept t (t.setRc r) :=
    .clients (fun _ => (congrArg tabSorted hr).trans rfl) (fun _ => by rw [clientsOk]; simp [hr]) rfl rfl rfl
  have drained (t : State) : TablesKept t (acDrained t) := .framed (by simp)
  exact ((((emptyFlows_tables s).trans (emptied _ _ rfl)).trans (drained _)).trans (acConditions_tables _)).trans
    (complete_tables _ _ _)

theorem resetFlows_tables (s : State) : TablesKept s (resetFlows s) :=
  ((emptyFlows_tables s).trans (acConditions_tables _)).trans (complete_tables _ _ _)

theorem resetSchedules_tables (s : State) : TablesKept s (resetSchedules s) := by
  have emptied (u : Su) : TablesKept s (s.setSu u) := .of_eq rfl rfl rfl rfl
  exact (((emptied _).trans (evalSchedules_tables _)).trans (acConditions_tables _)).trans (complete_tables _ _ _)

theorem resetImage_tables (s : State) : TablesKept s (resetImage s) := by
  have fetches : TablesKept s (setIe s (fun e => { emptyFetches e with serves := [] })) :=
    .setIe fun h => tabSorted_failFetches s.ie.fetches h
  unfold resetImage
  dsimp only
  split
  · exact complete_tables _ _ s
  · split
    · refine fetches.trans (.setIe_same ?_)
      rfl
    · exact (fetches.trans (bringToEmpty_tables _)).trans (startFlash_tables _)

theorem runBlockReset_tables (d : List Byte) (s : State) : TablesKept s (runBlockReset d s) := by
  unfold runBlockReset
  split
  · exact resetPeers_tables s
  · exact resetClients_tables s
  · exact resetFlows_tables s
  · exact .of_eq rfl rfl rfl rfl
  · exact resetSchedules_tables s
  · exact resetImage_tables s
  · exact .of_eq rfl rfl rfl rfl
  · exact complete_tables _ _ s

theorem runSetTime_tables (d : List Byte) (s : State) : TablesKept s (runSetTime d s) := by
  unfold runSetTime
  dsimp only
  split
  · exact complete_tables _ _ s
  · exact ((newClockValue_tables _ _ _ s).trans (acConditions_tables _)).trans (complete_tables _ _ _)

theorem evalAround_tables (p : Nat) (s : State) : TablesKept s (evalAround p s) := by
  have profile : TablesKept s (evalProfile p s) := .framed (by simp)
  unfold evalAround
  dsimp only
  refine .trans ?_ (evalVerdictsOf_tables p _)
  split
  · exact profile.trans (.framed (by simp))
  · exact profile

theorem runProfileWrite_tables (d : List Byte) (s : State) : TablesKept s (runProfileWrite d s) := by
  have applied (p : Nat) (r : ProfileRecord) : TablesKept s (applyRecord p r s) := .of_eq rfl rfl rfl rfl
  unfold runProfileWrite
  dsimp only
  split
  · exact complete_tables _ _ s
  · split
    · exact complete_tables _ _ s
    · split
      · exact (((applied _ _).trans (evalAround_tables _ _)).trans (acConditions_tables _)).trans (complete_tables _ _ _)
      · exact .of_eq rfl rfl rfl rfl

theorem runPaused_tables (paused : Bool) (d : List Byte) (s : State) : TablesKept s (runPaused paused d s) := by
  have profile (p : Nat) (x : Profile) : TablesKept s (evalProfile p (putProfile p x s)) := .framed (by simp)
  unfold runPaused
  dsimp only
  split
  · exact complete_tables _ _ s
  · exact ((profile _ _).trans (evalVerdictsOf_tables _ _)).trans (complete_tables _ _ _)

theorem runImageBegin_tables (d : List Byte) (s : State) : TablesKept s (runImageBegin d s) := by
  have begun (n l c : Nat) : TablesKept s (beginImage n l c s) :=
    (((((raise_tables (.imageFound 0 n l) s).trans (takeImage_tables _ _)).trans (acSettle_tables _)).trans
      (issueFetches_tables _)).trans (startFlash_tables _))
  unfold runImageBegin
  dsimp only
  split
  · exact complete_tables _ _ s
  · split
    · exact complete_tables _ _ s
    · split
      · exact complete_tables _ _ s
      · split
        · exact (noteConflicts_tables _ _ _ _ s).trans (complete_tables _ _ _)
        · split
          · exact complete_tables _ _ s
          · exact ((begun _ _ _).trans (complete_tables _ _ _)).trans (wake_tables _)

theorem runImageChunk_tables (d : List Byte) (s : State) : TablesKept s (runImageChunk d s) := by
  unfold runImageChunk
  dsimp only
  split
  case h_1 => exact (acceptChunk_tables _ s).trans (startFlash_tables _)
  all_goals exact complete_tables _ _ s

theorem runImageRead_tables (d : List Byte) (s : State) : TablesKept s (runImageRead d s) := by
  unfold runImageRead
  dsimp only
  split
  · exact complete_tables _ _ s
  · split
    · exact complete_tables _ _ s
    · split
      · exact complete_tables _ _ s
      · refine .trans (.setIe_same ?_) (startFlash_tables _)
        rfl

theorem runActivateNow_tables (d : List Byte) (s : State) : TablesKept s (runActivateNow d s) := by
  have noted (a : Ac) : TablesKept s (s.setAc a) := .of_eq rfl rfl rfl rfl
  unfold runActivateNow
  split
  · exact complete_tables _ _ s
  · exact ((noted _).trans (acConditions_tables _)).trans (complete_tables _ _ _)

theorem runSwapSlots_tables (d : List Byte) (s : State) : TablesKept s (runSwapSlots d s) := by
  have swapping : TablesKept s (beginSwap s) := by
    refine .trans ?_ (startFlash_tables _)
    exact .framed (by simp [requestHeader, Machine.setIe])
  unfold runSwapSlots
  split
  · exact complete_tables _ _ s
  · split
    · exact complete_tables _ _ s
    · exact swapping

theorem runCancelActivation_tables (d : List Byte) (s : State) : TablesKept s (runCancelActivation d s) := by
  have stopped : TablesKept s (cancelled s) := .framed (by simp)
  unfold runCancelActivation
  split
  · exact complete_tables _ _ s
  · exact (stopped.trans (acConditions_tables _)).trans (complete_tables _ _ _)

theorem runStartWrite_tables (d : List Byte) (s : State) : TablesKept s (runStartWrite d s) :=
  (requestHeader_tables _ s).trans (startFlash_tables _)

theorem runResetPart_tables (d : List Byte) (s : State) : TablesKept s (runResetPart d s) :=
  (fullReset_tables .request s).trans (beginStart_tables _)

theorem runRuleWrite_tables (d : List Byte) (s : State) : TablesKept s (runRuleWrite d s) := by
  unfold runRuleWrite
  split
  · exact complete_tables _ _ s
  · exact .of_eq rfl rfl rfl rfl

theorem runRuleClear_tables (d : List Byte) (s : State) : TablesKept s (runRuleClear d s) := by
  unfold runRuleClear
  split
  · exact complete_tables _ _ s
  · exact .of_eq rfl rfl rfl rfl

end Sys2Proof.Machine
end
section
/-! OBLIGATION O9. Every command, and so every step, keeps the tables (R23, R131). -/

namespace Sys2Proof.Machine

/-! ## Commands -/

/-- What a living part carries out keeps the tables when its meaning does. -/
theorem taken_tables {f : State → State} {s t : State} (hf : TablesKept s (f s)) (h : taken f s = .next t) :
    TablesKept s t :=
  taken_keeps (P := TablesKept s) hf (.refl s) h

/-- The end of a flash operation: the operation leaves its place, its work is done, and waiting work starts. -/
theorem operationEnds_tables {f : State → State} (hf : ∀ u, TablesKept u (f u)) (s : State) :
    TablesKept s (afterOp (f (opDone s))) := ((opDone_tables s).trans (hf _)).trans (afterOp_tables _)

theorem setEs_tables (e : Es) (s : State) : TablesKept s (s.setEs e) := .of_eq rfl rfl rfl rfl

theorem woken_tables (e : Es) (s : State) : TablesKept s (wake (s.setEs e)) := (setEs_tables e s).trans (wake_tables _)

theorem markHeader_tables (sl : Slot) (m : Mark) (s : State) : TablesKept s (markHeader sl m s) := .of_eq rfl rfl rfl rfl

theorem supplyEdge_tables (level : Bool) (e : Event) (s : State) : TablesKept s (supplyEdge level e s) :=
  .framed (by simp)

theorem supplyFailAssert_tables (s : State) : TablesKept s
    (if s.pins.supplyFail then s
      else if alive (supplyEdge true .supplyFail s) then supplyFailed (supplyEdge true .supplyFail s)
      else supplyEdge true .supplyFail s) := by
  have edge := supplyEdge_tables true .supplyFail s
  split
  · exact .refl s
  · split
    · exact edge.trans (supplyFailed_tables _)
    · exact edge

theorem supplyFailDeassert_tables (s : State) : TablesKept s
    (if s.pins.supplyFail then
      if alive (supplyEdge false .supplyRestored s) then
        wake (issueFetches (startFlash (supplyEdge false .supplyRestored s)))
      else supplyEdge false .supplyRestored s
    else s) := by
  have edge := supplyEdge_tables false .supplyRestored s
  split
  · split
    · exact ((edge.trans (startFlash_tables _)).trans (issueFetches_tables _)).trans (wake_tables _)
    · exact edge
  · exact .refl s

theorem voidLink_tables (cut : Option CutLink) (s t : State) : TablesKept t (voidLink cut s t) := .framed (by simp)

theorem execPowerUp_tables {x : Straps} {cut : Option CutLink} {s t : State} (he : execPowerUp x s cut = .next t) :
    TablesKept s t := by
  obtain rfl := Host.Outcome.next.inj he
  have full : TablesKept s (resetNow .power (setStraps x (setPower true s))) := .empty rfl rfl rfl rfl
  exact (full.trans (voidLink_tables _ _ _)).trans (beginStart_tables _)

theorem execResetInputAssert_tables {cut : Option CutLink} {s t : State} (he : execResetInputAssert s cut = .next t) :
    TablesKept s t := by
  obtain rfl := Host.Outcome.next.inj he
  have full := (fullReset_tables .pin s).trans (voidLink_tables cut s _)
  split
  · exact .refl s
  · split
    · exact full.trans (.of_eq rfl rfl rfl rfl)
    · exact .of_eq rfl rfl rfl rfl

theorem execResetInputRelease_tables {x : Straps} {s t : State} (he : execResetInputRelease x s = .next t) :
    TablesKept s t := by
  obtain rfl := Host.Outcome.next.inj he
  split
  · exact .framed (by simp)
  · exact .refl s

theorem execPowerLoss_tables {s t : State} (he : execPowerLoss s = .next t) :
    TablesKept s t := by
  obtain rfl := Host.Outcome.next.inj he
  have cut : TablesKept s (setIe (cutFlash s) (fun e => { e with op := none })) := by
    refine .trans ?_ (.setIe_same rfl)
    exact .framed (by simp)
  split
  · exact cut.trans (.of_eq rfl rfl rfl rfl)
  · exact .refl s

theorem execStartUpComplete_tables {s t : State} (he : execStartUpComplete s = .next t) :
    TablesKept s t := by
  unfold execStartUpComplete at he
  refine taken_tables ?_ he
  split
  · exact finishStart_tables s
  · exact .refl s

theorem execUnknownKindBulletinReceive_tables (k : BitVec 8) {f : MeshFrame} {s t : State}
    (he : execUnknownKindBulletinReceive k f s = .next t) :
    TablesKept s t := by
  unfold execUnknownKindBulletinReceive at he
  refine taken_tables ?_ he
  split
  · split
    · exact .refl s
    · exact nodeClash_tables _ _ s
    · exact .refl s
    · split
      · exact setLastSeq_tables _ _ _ s
      · exact .refl s
  · exact .refl s

theorem execPauseFrameReceive_tables {f : PauseFrame} {s t : State} (he : execPauseFrameReceive f s = .next t) :
    TablesKept s t := by
  unfold execPauseFrameReceive at he
  refine taken_tables ?_ he
  split
  · split
    · split
      · exact woken_tables _ s
      · exact .refl s
    · exact setEs_tables _ s
  · exact .refl s

theorem execNodePortData_tables {it : NodeItem} {s t : State} (he : execNodePortData it s = .next t) :
    TablesKept s t := by
  unfold execNodePortData at he
  refine taken_tables ?_ he
  split
  · exact takeItem_tables it s
  · exact .refl s

theorem takeSamples_tables (l : List (Addr × Int)) (s : State) :
    TablesKept s (l.foldl (fun u p => takeSample p.1 p.2 u) s) :=
  TablesKept.foldl (fun u (p : Addr × Int) => takeSample_tables p.1 p.2 u) l s

theorem execNodePortSamples_tables {it : NodeItem} {s t : State} (he : execNodePortSamples it s = .next t) :
    TablesKept s t := by
  unfold execNodePortSamples at he
  refine taken_tables ?_ he
  split
  · exact takeSamples_tables _ s
  · exact .refl s

theorem execBackhaulTxDone_tables {s t : State} (he : execBackhaulTxDone s = .next t) :
    TablesKept s t := by
  unfold execBackhaulTxDone at he
  refine taken_tables ?_ he
  split
  · exact (runTo_tables _ s).trans (woken_tables _ _)
  · exact .refl s

theorem execNodePortTxDone_tables {s t : State} (he : execNodePortTxDone s = .next t) :
    TablesKept s t := by
  unfold execNodePortTxDone at he
  refine taken_tables ?_ he
  split
  · exact ((runTo_tables _ s).trans (setEs_tables _ _)).trans (nodePump_tables _)
  · exact .refl s

theorem execPulseTimerExpiry_tables {s t : State} (he : execPulseTimerExpiry s = .next t) :
    TablesKept s t := by
  unfold execPulseTimerExpiry at he
  refine taken_tables ?_ he
  have timed (v : State) : TablesKept v (timedPulse v) := .framed (by simp)
  have restarted (d : Nat) (v : State) : TablesKept v (restartPulse d v) := .of_eq rfl rfl rfl rfl
  split
  · exact ((((runTo_tables _ s).trans (adoptPulsePeriod_tables _)).trans (restarted _ _)).trans (timed _)).trans (wake_tables _)
  · exact .refl s

theorem execSightingTimerExpiry_tables {s t : State} (he : execSightingTimerExpiry s = .next t) :
    TablesKept s t := by
  unfold execSightingTimerExpiry at he
  refine taken_tables ?_ he
  split
  · refine .trans ?_ (wake_tables _)
    exact .framed (by simp)
  · exact .refl s

theorem execReadingLapse_tables {i : Nat} {w : ReadingKind} {s t : State} (he : execReadingLapse i w s = .next t) :
    TablesKept s t := by
  unfold execReadingLapse at he
  refine taken_tables ?_ he
  split
  · split
    · split
      · refine .trans (runTo_tables _ s) (.modClient_same ?_)
        exact fun _ => ⟨rfl, rfl⟩
      · exact .refl s
    · split
      · refine .trans (runTo_tables _ s) (.modClient_same ?_)
        exact fun _ => ⟨rfl, rfl⟩
      · exact .refl s
  · exact .refl s

theorem execSampleAgeLapse_tables {i : Nat} {s t : State} (he : execSampleAgeLapse i s = .next t) :
    TablesKept s t := by
  unfold execSampleAgeLapse at he
  refine taken_tables ?_ he
  split
  · refine .trans (runTo_tables _ s) (.modClient_same ?_)
    exact fun _ => ⟨rfl, rfl⟩
  · exact .refl s

theorem execHolddownExpiry_tables {i : Nat} {s t : State} (he : execHolddownExpiry i s = .next t) :
    TablesKept s t := by
  unfold execHolddownExpiry at he
  refine taken_tables ?_ he
  split
  · exact runTo_tables _ s
  · exact .refl s

theorem execOfferTimerExpiry_tables {i : Nat} {s t : State} (he : execOfferTimerExpiry i s = .next t) :
    TablesKept s t := by
  unfold execOfferTimerExpiry at he
  refine taken_tables ?_ he
  have lapsed (v : State) : TablesKept v (lapseOffer i v) := .of_eq rfl rfl rfl rfl
  split
  · exact (((runTo_tables _ s).trans (lapsed _)).trans (offerFill_tables _)).trans (wake_tables _)
  · exact .refl s

theorem execFlowIdleExpiry_tables {j : Nat} {s t : State} (he : execFlowIdleExpiry j s = .next t) :
    TablesKept s t := by
  unfold execFlowIdleExpiry at he
  refine taken_tables ?_ he
  split
  · split
    · exact ((runTo_tables _ s).trans (removeFlow_tables j _ _)).trans (acConditions_tables _)
    · exact .refl s
  · exact .refl s

theorem execGameQuietElapsed_tables {s t : State} (he : execGameQuietElapsed s = .next t) :
    TablesKept s t := by
  unfold execGameQuietElapsed at he
  refine taken_tables ?_ he
  split
  · exact (runTo_tables _ s).trans (acConditions_tables _)
  · exact .refl s

theorem execFetchTimeout_tables {k : BitVec 16} {s t : State} (he : execFetchTimeout k s = .next t) :
    TablesKept s t := by
  unfold execFetchTimeout at he
  refine taken_tables ?_ he
  split
  · refine .trans (.trans (runTo_tables _ s) (.trans (.setIe fun h => ?_) (issueFetches_tables _))) (wake_tables _)
    unfold strike
    split <;> exact tabSorted_failFetch _ h
  · exact .refl s

theorem execSkipTimerExpiry_tables {n : Nat} {s t : State} (he : execSkipTimerExpiry n s = .next t) :
    TablesKept s t := by
  unfold execSkipTimerExpiry at he
  refine taken_tables (onExpiry_tables (fun u => ?_) s) he
  refine .trans (.trans (.setIe_same ?_) (issueFetches_tables _)) (wake_tables _)
  rfl

theorem execDrainTimerExpiry_tables {s t : State} (he : execDrainTimerExpiry s = .next t) :
    TablesKept s t := by
  unfold execDrainTimerExpiry at he
  refine taken_tables (onExpiry_tables (fun u => ?_) s) he
  split
  · exact .framed (by simp)
  · exact .refl u

theorem execLapseTimerExpiry_tables {s t : State} (he : execLapseTimerExpiry s = .next t) :
    TablesKept s t := by
  unfold execLapseTimerExpiry at he
  refine taken_tables (onExpiry_tables (fun u => ?_) s) he
  split
  · exact .framed (by simp)
  · exact .refl u

theorem execMinuteTick_tables {s t : State} (he : execMinuteTick s = .next t) :
    TablesKept s t := by
  unfold execMinuteTick at he
  refine taken_tables ?_ he
  split
  · exact .refl s
  · exact ((runTo_tables _ s).trans (minuteWork_tables _)).trans (acConditions_tables _)

theorem execChunkProgramDone_tables {d : List Byte} {s t : State} (he : execChunkProgramDone d s = .next t) :
    TablesKept s t := by
  unfold execChunkProgramDone at he
  refine taken_tables ?_ he
  split
  · dsimp only
    have programmed (f : Flash) : TablesKept s (opDone (s.setFlash f)) := (setFlash_tables f s).trans (opDone_tables _)
    refine .trans ?_ ((endWait_tables _ _).trans (afterOp_tables _))
    split
    · exact (programmed _).trans (chunkGood_tables _ _ _ _ _)
    · exact (programmed _).trans (chunkBad_tables _ _ _ _ _)
  · exact .refl s

theorem execHeaderProgramDone_tables {s t : State} (he : execHeaderProgramDone s = .next t) :
    TablesKept s t := by
  unfold execHeaderProgramDone at he
  refine taken_tables ?_ he
  split
  · split
    · exact .refl s
    · exact operationEnds_tables (markHeader_tables _ _) s
  · exact .refl s

theorem execSwapProgramDone_tables {s t : State} (he : execSwapProgramDone s = .next t) :
    TablesKept s t := by
  unfold execSwapProgramDone at he
  refine taken_tables ?_ he
  have swapped (v : State) : TablesKept v (swapDone v) := .framed (by simp)
  split
  · exact operationEnds_tables (markHeader_tables _ _) s
  · exact operationEnds_tables (f := fun v => swapDone (markHeader _ .retired v))
      (fun v => (markHeader_tables _ _ v).trans (swapped _)) s
  · exact .refl s

theorem execBlockEraseDone_tables {s t : State} (he : execBlockEraseDone s = .next t) :
    TablesKept s t := by
  unfold execBlockEraseDone at he
  refine taken_tables ?_ he
  split
  · dsimp only
    split
    · refine .trans ((opDone_tables s).trans (.trans (setFlash_tables _ _) (.setIe_same ?_))) (afterOp_tables _)
      rfl
    · exact (((opDone_tables s).trans (setFlash_tables _ _)).trans (endErase_tables _)).trans (afterOp_tables _)
  · exact .refl s

theorem execCheckReadDone_tables {s t : State} (he : execCheckReadDone s = .next t) :
    TablesKept s t := by
  unfold execCheckReadDone at he
  refine taken_tables ?_ he
  split
  · dsimp only
    split
    · split
      · exact operationEnds_tables (f := fun v => acSettle (checkRead _ _ v))
          (fun v => (checkRead_tables _ _ v).trans (acSettle_tables _)) s
      · exact operationEnds_tables (f := id) .refl s
    · exact operationEnds_tables (f := id) .refl s
  · exact .refl s

theorem execServeReadDone_tables {s t : State} (he : execServeReadDone s = .next t) :
    TablesKept s t := by
  unfold execServeReadDone at he
  refine taken_tables ?_ he
  split
  · dsimp only
    split
    · split
      · exact operationEnds_tables (serveChunk_tables _ _) s
      · exact operationEnds_tables (f := id) .refl s
    · exact operationEnds_tables (f := id) .refl s
  · exact .refl s

theorem execImageReadDone_tables {s t : State} (he : execImageReadDone s = .next t) :
    TablesKept s t := by
  unfold execImageReadDone at he
  refine taken_tables ?_ he
  split
  · dsimp only
    split
    · exact operationEnds_tables (imageReadOne_tables _) s
    · exact operationEnds_tables (f := id) .refl s
  · exact .refl s

theorem execStartWriteDone_tables {d : List Byte} {s t : State} (he : execStartWriteDone d s = .next t) :
    TablesKept s t := by
  unfold execStartWriteDone at he
  refine taken_tables ?_ he
  split
  · exact operationEnds_tables (startWritten_tables _ d) s
  · exact .refl s

theorem execPoll_tables {o : BitVec 16} {k : Nat} {s t : State} (he : execPoll o k s = .next t) :
    TablesKept s t := by
  unfold execPoll at he
  refine taken_tables ?_ he
  dsimp only
  split <;> exact .of_eq rfl rfl rfl rfl

theorem execCollect_tables {k : Nat} {s t : State} (he : execCollect k s = .next t) :
    TablesKept s t := by
  unfold execCollect at he
  refine taken_tables ?_ he
  dsimp only
  split <;> exact .of_eq rfl rfl rfl rfl

theorem execSubmitUnknownRequest_tables {d : List Byte} {s t : State} (he : execSubmitUnknownRequest d s = .next t) :
    TablesKept s t := by
  unfold execSubmitUnknownRequest at he
  refine taken_tables ?_ he
  split
  · exact submit_tables (fun _ u => .refl u) s
  · exact .of_eq rfl rfl rfl rfl

theorem execEventMask_tables {x : Submit} {s t : State} (he : execEventMask x s = .next t) :
    TablesKept s t := by
  unfold execEventMask at he
  refine taken_tables (submit_tables (fun d u => ?_) s) he
  exact .of_eq rfl rfl rfl rfl

/-- Every command keeps the ranges of the counters and the rising indexes of the four tables (R23, R131). -/
theorem exec_tables {c : Instr} {s t : State} (he : exec c s = .next t) : TablesKept s t := by
  cases c with
  | powerUp x cut => exact execPowerUp_tables he
  | resetInputAssert cut => exact execResetInputAssert_tables he
  | resetInputRelease x => exact execResetInputRelease_tables he
  | powerLoss => exact execPowerLoss_tables he
  | supplyFailAssert =>
    obtain rfl := Host.Outcome.next.inj he
    exact supplyFailAssert_tables s
  | supplyFailDeassert =>
    obtain rfl := Host.Outcome.next.inj he
    exact supplyFailDeassert_tables s
  | startUpComplete => exact execStartUpComplete_tables he
  | pulseReceive f => exact taken_tables (receivePulse_tables f s) he
  | sightingReceive f => exact taken_tables (receive_tables takeSighting_tables s) he
  | claimReceive f => exact taken_tables (receive_tables takeClaim_tables s) he
  | grantReceive f => exact taken_tables (receive_tables takeGrant_tables s) he
  | refuseReceive f => exact taken_tables (receive_tables takeRefuse_tables s) he
  | withdrawReceive f => exact taken_tables (receive_tables takeWithdraw_tables s) he
  | arrivedReceive f => exact taken_tables (receive_tables takeArrived_tables s) he
  | contextReceive f => exact taken_tables (receive_tables takeContext_tables s) he
  | offerReceive f => exact taken_tables (receive_tables takeOffer_tables s) he
  | fetchReceive f => exact taken_tables (receive_tables takeFetch_tables s) he
  | chunkReceive f => exact taken_tables (receive_tables takeChunk_tables s) he
  | unknownKindBulletinReceive k f => exact execUnknownKindBulletinReceive_tables k he
  | carriedFrameReceive f => exact taken_tables (receiveCarried_tables f s) he
  | pauseFrameReceive f => exact execPauseFrameReceive_tables he
  | pauseExpiry => exact taken_tables (onExpiry_tables (fun u => woken_tables _ u) s) he
  | nodePortData it => exact execNodePortData_tables he
  | nodePortSamples it => exact execNodePortSamples_tables he
  | backhaulTxDone => exact execBackhaulTxDone_tables he
  | nodePortTxDone => exact execNodePortTxDone_tables he
  | pulseTimerExpiry => exact execPulseTimerExpiry_tables he
  | sightingTimerExpiry => exact execSightingTimerExpiry_tables he
  | clashTimerExpiry n =>
    refine taken_tables (onExpiry_tables (fun u => ?_) s) he
    exact .of_eq rfl rfl rfl rfl
  | noUplinkTimerExpiry =>
    refine taken_tables (onExpiry_tables (fun u => ?_) s) he
    exact .of_eq rfl rfl rfl rfl
  | readingLapse i w => exact execReadingLapse_tables he
  | sampleAgeLapse i => exact execSampleAgeLapse_tables he
  | holddownExpiry i => exact execHolddownExpiry_tables he
  | claimWaitExpiry i => exact taken_tables (roleExpiry_tables (fun _ u => toRole_id_tables i .remote u) s) he
  | handWaitExpiryExpecting i =>
    exact taken_tables (roleExpiry_tables (fun _ u => toRole_tables (setHolddown_counters _ _) i .remote u) s) he
  | removalTimerExpiry i => exact taken_tables (roleExpiry_tables (fun _ u => removeClient_tables i u) s) he
  | handWaitExpiryHanding i =>
    refine taken_tables (roleExpiry_tables (fun c u => ?_) s) he
    exact (((toRole_id_tables i .served u).trans (raise_tables _ _)).trans (offerFill_tables _)).trans (wake_tables _)
  | offerTimerExpiry i => exact execOfferTimerExpiry_tables he
  | flowIdleExpiry j => exact execFlowIdleExpiry_tables he
  | gameQuietElapsed => exact execGameQuietElapsed_tables he
  | fetchTimeout k => exact execFetchTimeout_tables he
  | skipTimerExpiry n => exact execSkipTimerExpiry_tables he
  | drainTimerExpiry => exact execDrainTimerExpiry_tables he
  | lapseTimerExpiry => exact execLapseTimerExpiry_tables he
  | holdoffExpiry =>
    simp only [exec] at he; unfold execHoldoffExpiry at he
    exact taken_tables ((runTo_tables _ s).trans (acConditions_tables _)) he
  | minuteTick => exact execMinuteTick_tables he
  | shareComputationDone =>
    simp only [exec] at he; unfold execShareComputationDone at he
    exact taken_tables (.of_eq rfl rfl rfl rfl) he
  | chunkProgramDone d => exact execChunkProgramDone_tables he
  | headerProgramDone => exact execHeaderProgramDone_tables he
  | swapProgramDone => exact execSwapProgramDone_tables he
  | blockEraseDone => exact execBlockEraseDone_tables he
  | checkReadDone => exact execCheckReadDone_tables he
  | serveReadDone => exact execServeReadDone_tables he
  | imageReadDone => exact execImageReadDone_tables he
  | startWriteDone d => exact execStartWriteDone_tables he
  | poll o k => exact execPoll_tables he
  | collect k => exact execCollect_tables he
  | submitUnknownRequest d => exact execSubmitUnknownRequest_tables he
  | clientAttach x => exact taken_tables (submit_tables runClientAttach_tables s) he
  | clientDetach x => exact taken_tables (submit_tables runClientDetach_tables s) he
  | clientAssign x => exact taken_tables (submit_tables runClientAssign_tables s) he
  | imageBegin x => exact taken_tables (submit_tables runImageBegin_tables s) he
  | imageChunk x => exact taken_tables (submit_tables runImageChunk_tables s) he
  | imageRead x => exact taken_tables (submit_tables runImageRead_tables s) he
  | activateNow x => exact taken_tables (submit_tables runActivateNow_tables s) he
  | swapSlots x => exact taken_tables (submit_tables runSwapSlots_tables s) he
  | cancelActivation x => exact taken_tables (submit_tables runCancelActivation_tables s) he
  | startWrite x => exact taken_tables (submit_tables runStartWrite_tables s) he
  | resetPart x => exact taken_tables (submit_tables runResetPart_tables s) he
  | blockResetPeers x => exact taken_tables (submit_tables runBlockReset_tables s) he
  | blockResetClients x => exact taken_tables (submit_tables runBlockReset_tables s) he
  | blockResetFlows x => exact taken_tables (submit_tables runBlockReset_tables s) he
  | blockResetShare x => exact taken_tables (submit_tables runBlockReset_tables s) he
  | blockResetSchedules x => exact taken_tables (submit_tables runBlockReset_tables s) he
  | blockResetImage x => exact taken_tables (submit_tables runBlockReset_tables s) he
  | blockResetEvents x => exact taken_tables (submit_tables runBlockReset_tables s) he
  | setTime x => exact taken_tables (submit_tables runSetTime_tables s) he
  | profileWrite x => exact taken_tables (submit_tables runProfileWrite_tables s) he
  | profilePause x => exact taken_tables (submit_tables (runPaused_tables true) s) he
  | profileResume x => exact taken_tables (submit_tables (runPaused_tables false) s) he
  | ruleWrite x => exact taken_tables (submit_tables runRuleWrite_tables s) he
  | ruleClear x => exact taken_tables (submit_tables runRuleClear_tables s) he
  | readStatus x =>
    simp only [exec] at he; unfold execReadStatus at he
    exact taken_tables (submit_tables (fun _ u => complete_tables _ _ u) s) he
  | readShare x =>
    simp only [exec] at he; unfold execReadShare at he
    exact taken_tables (submit_tables (fun _ u => complete_tables _ _ u) s) he
  | readFault x =>
    simp only [exec] at he; unfold execReadFault at he
    exact taken_tables (submit_tables (fun _ u => complete_tables _ _ u) s) he
  | eventMask x => exact execEventMask_tables he
  | readPeer x =>
    refine taken_tables (submit_tables (fun d u => ?_) s) he
    unfold runReadPeer; dsimp only; split <;> exact complete_tables _ _ u
  | readClient x =>
    refine taken_tables (submit_tables (fun d u => ?_) s) he
    unfold runReadClient; (repeat' split) <;> exact complete_tables _ _ u
  | readFlow x =>
    refine taken_tables (submit_tables (fun d u => ?_) s) he
    unfold runReadFlow; dsimp only; (repeat' split) <;> exact complete_tables _ _ u
  | readProfile x =>
    refine taken_tables (submit_tables (fun d u => ?_) s) he
    unfold runReadProfile; split <;> exact complete_tables _ _ u

/-- A step is a command, or 1 ms, which touches no table. -/
theorem step_tables {s t : State} (ht : step s = .next t) : TablesKept s t := by
  unfold step at ht
  split at ht
  · obtain rfl := Host.Outcome.next.inj ht
    exact runTo_tables _ s
  · have queue (l : List Instr) : TablesKept s (s.setPending l) := .of_eq rfl rfl rfl rfl
    exact (queue _).trans (exec_tables ht)

/-- Settles O9: a step keeps what held of the tables, for the counters' ranges and for the rising indexes. -/
theorem stepKeepsMinuteCounters : Obligations.StepKeepsMinuteCounters :=
  ⟨fun _ _ h ht => (step_tables ht).counters h, fun _ _ h ht => (step_tables ht).sorted h⟩

end Sys2Proof.Machine
end
section
/-! OBLIGATIONS O34 and O38. The local average: samples move it (R36), and its age makes it lapse (R37). -/

namespace Sys2Proof.Machine

theorem live_iff {s : State} : live s = true ↔ alive s = true ∧ running s = true := by
  rw [live, Bool.and_eq_true]

/-! ## The age of a sample (R37) -/

theorem exec_sampleAgeLapse {i : Nat} {c : Client} {a : Signal} {s : State} (ha : alive s = true)
    (hc : clientAt s i = some c) (h : c.average = some a) :
    exec (.sampleAgeLapse i) s =
      .next (modClient i (fun x => { x with average := none }) (runTo (a.since + Config.sampleLapseNs) s)) := by
  show execSampleAgeLapse i s = _
  rw [execSampleAgeLapse, taken_alive ha]
  simp only [hc, Option.bind_some, h]

theorem exec_sampleAgeLapse_absent {i : Nat} {s : State} (ha : alive s = true)
    (h : (clientAt s i).bind Client.average = none) : exec (.sampleAgeLapse i) s = .next s := by
  show execSampleAgeLapse i s = _
  rw [execSampleAgeLapse, taken_alive ha]
  simp only [h]

/-- Without a local average a claim evaluation sets the better count to 0 (R46). -/
theorem evaluateClaim_noAverage {i n : Nat} {r : Int} {c : Client} {s : State} (hc : clientAt s i = some c)
    (ha : c.average = none) (hr : c.role = .remote) (hn : c.serving = n) (hs : c.servingReading.isSome = true) :
    evaluateClaim i n r s = modClient i (fun x => { x with better := 0 }) s := by
  simp only [evaluateClaim, hc, hr, hn, hs, and_self, if_true, ha]

theorem clampSample_eq (x : Int) : clampSample x = max (-100) (min (-10) x) := by
  unfold clampSample
  split
  · omega
  · split <;> omega

/-- Settles O38: the lapse writes one entry; without an average nothing is listed, no claim is made, and a sample starts
anew. -/
theorem sampleAgeLapsesTheAverage : Obligations.SampleAgeLapsesTheAverage := by
  refine ⟨fun i s ha h => exec_sampleAgeLapse_absent ha h, fun i c a s ha hc h => ?_, fun served c h => ?_,
    fun i n r c s hc h hr hn hs => ?_, fun x => ?_⟩
  · simp [exec_sampleAgeLapse ha hc h, modClient_some _ ((clientAt_runTo _ i s).trans hc), State.setRc,
      Config.sampleLapseNs, Config.secNs]
  · rw [listingOf, h, Option.map_none]
  · exact (evaluateClaim_noAverage hc h hr hn hs).trans (modClient_some _ hc)
  · rw [averageAfter, clampSample_eq]

/-! ## Samples (R35, R36) -/

/-- The pairs of a SAMPLES item, taken in list order (R35). -/
def takePairs (l : List (Addr × Int)) (s : State) : State := l.foldl (fun u p => takeSample p.1 p.2 u) s

theorem exec_nodePortSamples {it : NodeItem} {s : State} (hl : live s = true) (hi : samplesItemOk it = true) :
    exec (.nodePortSamples it) s = .next (takePairs (samplePairs it.pairs.toNat it.bytes) s) := by
  obtain ⟨ha, hr⟩ := live_iff.1 hl
  show execNodePortSamples it s = _
  rw [execNodePortSamples, taken_alive ha]
  simp only [hr, hi, Bool.and_self, if_true]
  rfl

theorem exec_nodePortSamples_invalid {it : NodeItem} {s : State} (hl : live s = true) (hi : samplesItemOk it = false) :
    exec (.nodePortSamples it) s = .next s := by
  obtain ⟨ha, hr⟩ := live_iff.1 hl
  show execNodePortSamples it s = _
  rw [execNodePortSamples, taken_alive ha]
  simp only [hi, Bool.and_false, Bool.false_eq_true, if_false]

theorem takeSample_unknown {a : Addr} {s : State} (r : Int) (h : findClient s a = none) : takeSample a r s = s := by
  simp only [takeSample, h]

theorem takeSample_found {a : Addr} {i : Nat} {c : Client} {s : State} (r : Int) (h : findClient s a = some (i, c)) :
    takeSample a r s = putClient i { c with
      average := some { value := averageAfter c.average r, since := s.now }, lastActivity := s.now } s := by
  simp only [takeSample, h]

theorem averageAfter_some (v : Signal) (x : Int) :
    averageAfter (some v) x = v.value + (4 * max (-100) (min (-10) x) - v.value) / 8 := by
  rw [← clampSample_eq]; rfl

@[simp] theorem takePairs_frame (l : List (Addr × Int)) (s : State) :
    (takePairs l s).pins = s.pins ∧ (takePairs l s).sl = s.sl :=
  ⟨foldl_keeps State.pins _ (fun _ _ => by simp) l s, foldl_keeps State.sl _ (fun _ _ => by simp) l s⟩

theorem live_takePairs (l : List (Addr × Int)) (s : State) : live (takePairs l s) = live s := by
  simp [live, alive, running]

/-- What makes a SAMPLES item valid, with the number of its bytes in place of the body length. -/
theorem samplesItemOk_iff {it : NodeItem} : samplesItemOk it = true ↔
    it.kind = 2#8 ∧ it.origin.toNat ≤ 2 ∧ it.bodyLen.toNat = it.bytes.length ∧ 1 ≤ it.pairs.toNat ∧
      it.pairs.toNat ≤ 32 ∧ it.bytes.length = 7 * it.pairs.toNat := by
  simp only [samplesItemOk, Bool.and_eq_true, decide_eq_true_eq, beq_iff_eq]
  constructor
  · rintro ⟨⟨⟨⟨⟨hk, ho⟩, hb⟩, h1⟩, h32⟩, hp⟩
    exact ⟨hk, ho, hb, h1, h32, hb.symm.trans hp⟩
  · rintro ⟨hk, ho, hb, h1, h32, hp⟩
    exact ⟨⟨⟨⟨⟨hk, ho⟩, hb⟩, h1⟩, h32⟩, hb.trans hp⟩

/-- A SAMPLES item of the first pair alone, and one of the others. -/
def firstPair (it : NodeItem) : NodeItem := { it with pairs := 1#8, bodyLen := 7#16, bytes := it.bytes.take 7 }

def otherPairs (it : NodeItem) : NodeItem :=
  { it with pairs := it.pairs - 1#8, bodyLen := it.bodyLen - 7#16, bytes := it.bytes.drop 7 }

theorem pairs_otherPairs {it : NodeItem} (h : 2 ≤ it.pairs.toNat) :
    (otherPairs it).pairs.toNat = it.pairs.toNat - 1 := by
  show (it.pairs - 1#8).toNat = _
  bv_omega

theorem samplesItemOk_firstPair {it : NodeItem} (h : samplesItemOk it = true) : samplesItemOk (firstPair it) = true := by
  obtain ⟨hk, ho, -, h1, -, hp⟩ := samplesItemOk_iff.1 h
  have length : (it.bytes.take 7).length = 7 := by rw [List.length_take]; omega
  exact samplesItemOk_iff.2 ⟨hk, ho, length.symm, Nat.le_refl 1, (by decide : 1 ≤ 32), length⟩

theorem samplesItemOk_otherPairs {it : NodeItem} (h : samplesItemOk it = true) (h2 : 2 ≤ it.pairs.toNat) :
    samplesItemOk (otherPairs it) = true := by
  obtain ⟨hk, ho, hb, -, h32, hp⟩ := samplesItemOk_iff.1 h
  have pairs := pairs_otherPairs h2
  have body : (otherPairs it).bodyLen.toNat = it.bodyLen.toNat - 7 := by
    show (it.bodyLen - 7#16).toNat = _
    bv_omega
  have length : (otherPairs it).bytes.length = it.bytes.length - 7 := List.length_drop
  exact samplesItemOk_iff.2 ⟨hk, ho, by omega, by omega, by omega, by omega⟩

theorem samplePairs_one (d : List Byte) : samplePairs 1 d = [(addrAt 0 d, signed8 ((d.drop 6).headD 0#8))] := rfl

/-- The first pair is read from the first 7 bytes alone. -/
theorem samplePairs_first (d : List Byte) : samplePairs 1 (d.take 7) = samplePairs 1 d := by
  have address : addrAt 0 (d.take 7) = addrAt 0 d := by simp [addrAt, field, slice, List.take_take]
  have sample : ((d.take 7).drop 6).headD 0#8 = (d.drop 6).headD 0#8 := by
    rw [List.drop_take]
    cases d.drop 6 <;> rfl
  rw [samplePairs_one, samplePairs_one, address, sample]

/-- The pairs of an item are its first one and the others. -/
theorem samplePairs_split {it : NodeItem} (h : 2 ≤ it.pairs.toNat) : samplePairs it.pairs.toNat it.bytes =
    samplePairs (firstPair it).pairs.toNat (firstPair it).bytes ++
      samplePairs (otherPairs it).pairs.toNat (otherPairs it).bytes := by
  have first : samplePairs (firstPair it).pairs.toNat (firstPair it).bytes = samplePairs 1 it.bytes :=
    samplePairs_first it.bytes
  rw [first, pairs_otherPairs h]
  obtain ⟨n, hn⟩ : ∃ n, it.pairs.toNat = n + 1 := ⟨it.pairs.toNat - 1, by omega⟩
  rw [hn]
  rfl

/-- The bounds of an average, which a clamped sample keeps (R36). -/
theorem averageAfter_bounds {v : Signal} (x : Int) (hlo : -400 ≤ v.value) (hhi : v.value ≤ -40) :
    -400 ≤ averageAfter (some v) x ∧ averageAfter (some v) x ≤ -40 := by
  rw [averageAfter_some]
  omega

/-- An average stays when the difference is no full eighth upwards (R36). -/
theorem averageAfter_fixed (v : Signal) (x : Int) : averageAfter (some v) x = v.value ↔
    v.value ≤ 4 * max (-100) (min (-10) x) ∧ 4 * max (-100) (min (-10) x) ≤ v.value + 7 := by
  rw [averageAfter_some]
  omega

/-- Settles O34: a pair starts or moves one average, which stays in its bounds; the pairs go in list order. -/
theorem samplesMoveTheAverage : Obligations.SamplesMoveTheAverage := by
  refine ⟨fun it s hl hi => exec_nodePortSamples_invalid hl hi, fun it s hl hi h1 => ?_,
    fun v x hlo hhi => ⟨(averageAfter_bounds x hlo hhi).1, (averageAfter_bounds x hlo hhi).2, averageAfter_fixed v x⟩,
    fun it s t hl hi h2 ht => ?_⟩
  · intro a q
    have one : exec (.nodePortSamples it) s = .next (takeSample a (signed8 ((it.bytes.drop 6).headD 0#8)) s) := by
      rw [exec_nodePortSamples hl hi, h1]; rfl
    rw [one]
    refine ⟨fun h => congrArg _ (takeSample_unknown _ h), fun i c hf => ?_⟩
    rw [takeSample_found _ hf.1]
    refine ⟨fun h => ?_, fun v h => ?_⟩
    · rw [h, averageAfter, clampSample_eq]; rfl
    · rw [h, averageAfter_some]; rfl
  · have first : t = takePairs (samplePairs (firstPair it).pairs.toNat (firstPair it).bytes) s :=
      (Host.Outcome.next.inj ((exec_nodePortSamples hl (samplesItemOk_firstPair hi)).symm.trans ht)).symm
    have hlt : live t = true := by rw [first, live_takePairs, hl]
    rw [exec_nodePortSamples hl hi, samplePairs_split h2]
    refine Eq.trans (congrArg _ ?_) (exec_nodePortSamples hlt (samplesItemOk_otherPairs hi h2)).symm
    rw [first]
    exact List.foldl_append

end Sys2Proof.Machine
end
section
/-! OBLIGATION O26. The answers to a claim: GRANT, REFUSE and WITHDRAW (R51, R54, R55). -/

namespace Sys2Proof.Machine

theorem sendBulletin_running {s : State} (n : Nat) (b : Body) (h : running s = true) :
    sendBulletin n b s = s.setBu { s.bu with control := joinControl (.bulletin n b) s.bu.control } := if_pos h

theorem delivered_running {k : Nat} {f : MeshFrame} {p : Peer} {b : Body} {s : State} (h : delivered k f p b s) :
    running s = true := (live_iff.1 h.1).2

/-- An entry in use becomes SERVED: it is written, and its offers stay (R24). -/
theorem toRole_served {i : Nat} {c : Client} {s : State} (f : Client → Client) (h : clientAt s i = some c) :
    toRole i .served f s = s.setRc { s.rc with
      clients := tabSet s.rc.clients i (f (changeRole s.sl.params s.now .served c)) } := by
  simp [toRole, modClient_some _ h]

theorem matchesClaim_iff {c : Client} {n : Nat} {number : BitVec 16} :
    matchesClaim c n number = true ↔ c.claimNo = some number ∧ c.serving = n := by
  simp [matchesClaim]

section
variable {n i : Nat} {a : Addr} {number : BitVec 16} {c : Client} {s : State}

/-! ## GRANT (R51) -/

/-- A GRANT for no claim of this node is withdrawn. -/
theorem takeGrant_withdrawn (h : ∀ i c, findClient s a = some (i, c) →
      ¬ ((c.role = .claiming ∨ c.role = .expecting) ∧ matchesClaim c n number = true)) :
    takeGrant n (.grant a number) s = wake (sendBulletin n (.withdraw a number) s) := by
  simp only [takeGrant]
  split
  · rename_i i c hf
    have hno := h i c hf
    rw [if_neg fun hc => hno ⟨.inl hc.1, hc.2⟩, if_neg fun hc => hno ⟨.inr hc.1, hc.2⟩]
  · rfl

theorem takeGrant_expecting (hf : findClient s a = some (i, c)) (hr : c.role = .expecting)
    (hm : matchesClaim c n number = true) : takeGrant n (.grant a number) s = s := by
  simp [takeGrant, hf, hr, hm]

theorem takeGrant_claiming (hf : findClient s a = some (i, c)) (hr : c.role = .claiming)
    (hm : matchesClaim c n number = true) : takeGrant n (.grant a number) s = toRole i .expecting id s := by
  simp [takeGrant, hf, hr, hm]

/-! ## REFUSE (R54) -/

theorem takeRefuse_ignored {reason : Nat} (h : ∀ i c, findClient s a = some (i, c) →
      ¬ (c.role = .claiming ∧ matchesClaim c n number = true)) : takeRefuse n (.refuse a number reason) s = s := by
  simp only [takeRefuse]
  split
  · rw [if_neg (h _ _ ‹_›)]
  · rfl

theorem takeRefuse_claiming {reason : Nat} (hf : findClient s a = some (i, c)) (hr : c.role = .claiming)
    (hm : matchesClaim c n number = true) : takeRefuse n (.refuse a number reason) s =
      toRole i .remote (fun x => setHolddown s.sl.params s.now { x with refusal := some reason }) s := by
  simp [takeRefuse, hf, hr, hm]

/-! ## WITHDRAW (R55) -/

theorem takeWithdraw_ignored (h : ∀ i c, findClient s a = some (i, c) →
      ¬ (c.role = .handing ∧ c.claimNo = some number ∧ c.claimant = some n)) :
    takeWithdraw n (.withdraw a number) s = s := by
  simp only [takeWithdraw]
  split
  · rw [if_neg (h _ _ ‹_›)]
  · rfl

theorem takeWithdraw_handing (hf : findClient s a = some (i, c)) (hr : c.role = .handing) (hn : c.claimNo = some number)
    (hc : c.claimant = some n) : takeWithdraw n (.withdraw a number) s =
      wake (offerFill (raise (.steerCancelled a n) (toRole i .served id s))) := by
  simp [takeWithdraw, hf, hr, hn, hc]

end

/-- Offers made leave the Client Table, the events and the AC as they were (R62). -/
theorem offerFill_keeps (s : State) : (offerFill s).rc.clients = s.rc.clients ∧ (offerFill s).ml = s.ml := by simp

section
variable {f : MeshFrame} {p : Peer} {a : Addr} {number : BitVec 16} {s : State}

theorem exec_grant (h : delivered 4 f p (.grant a number) s) :
    exec (.grantReceive f) s = .next (takeGrant f.source.toNat (.grant a number) (afterSeq f p s)) := taken_receive _ h

theorem exec_refuse {reason : Nat} (h : delivered 5 f p (.refuse a number reason) s) :
    exec (.refuseReceive f) s = .next (takeRefuse f.source.toNat (.refuse a number reason) (afterSeq f p s)) :=
  taken_receive _ h

theorem exec_withdraw (h : delivered 6 f p (.withdraw a number) s) :
    exec (.withdrawReceive f) s = .next (takeWithdraw f.source.toNat (.withdraw a number) (afterSeq f p s)) :=
  taken_receive _ h

/-- The WITHDRAW of an unwanted GRANT joins the queue, and nothing else changes (R51). -/
theorem grant_withdrawn (h : delivered 4 f p (.grant a number) s) (hw : txWaits s = true)
    (hno : ∀ i c, findClient s a = some (i, c) →
      ¬ ((c.role = .claiming ∨ c.role = .expecting) ∧ matchesClaim c f.source.toNat number = true)) :
    exec (.grantReceive f) s = .next { s with
      bu := { seqTaken f p s.bu with
        control := joinControl (.bulletin f.source.toNat (.withdraw a number)) s.bu.control } } := by
  rw [exec_grant h, takeGrant_withdrawn (s := afterSeq f p s) hno, sendBulletin_running (s := afterSeq f p s) _ _
    (delivered_running h : running s = true), wake_waits (by simpa [txWaits, afterSeq] using hw)]
  rfl

/-- What holds of the one entry found holds of each. -/
theorem findClient_only {i : Nat} {c : Client} {P : Client → Prop} (hf : findClient s a = some (i, c)) (hp : P c) :
    ∀ j d, findClient s a = some (j, d) → P d := by
  intro j d hd
  obtain ⟨-, rfl⟩ := Prod.mk.inj (Option.some.inj (hf.symm.trans hd))
  exact hp

theorem findClient_noEntry {P : Client → Prop} (hf : findClient s a = none) :
    ∀ j d, findClient s a = some (j, d) → P d := by
  intro j d hd
  rw [hf] at hd
  cases hd

/-- A WITHDRAW that matches: the entry, the event, and outside DRAINING nothing else (R55). -/
theorem withdraw_taken {i : Nat} {c : Client} (h : delivered 6 f p (.withdraw a number) s) (hw : txWaits s = true)
    (he : entryOf s a i c) (hr : c.role = .handing) (hn : c.claimNo = some number) (hc : c.claimant = some f.source.toNat) :
    ∃ t, exec (.withdrawReceive f) s = .next t ∧
      clientAt t i = some { c with
        role := .served, timer := none, lastActivity := s.now, claimNo := none, claimant := none } ∧
      t.ml = offerEvent (stamp (.steerCancelled a f.source.toNat) s) s.ml ∧
      (acDraining s = false → t = { s with
        bu := seqTaken f p s.bu
        rc := { s.rc with
          clients := tabSet s.rc.clients i { c with
            role := .served, timer := none, lastActivity := s.now, claimNo := none, claimant := none } }
        ml := t.ml }) := by
  have entry : changeRole s.sl.params s.now .served c =
      { c with role := .served, timer := none, lastActivity := s.now, claimNo := none, claimant := none } := by
    simp [changeRole, roleTimer, isServing, hr]
  have handed := toRole_served (s := afterSeq f p s) id he.2
  rw [exec_withdraw h, takeWithdraw_handing (s := afterSeq f p s) he.1 hr hn hc, handed,
    wake_waits (by simpa [txWaits, afterSeq] using hw)]
  refine ⟨_, rfl, ?_, by simp [raise, afterSeq, stamp], fun hd => ?_⟩
  · rw [clientAt, (offerFill_keeps _).1, ← entry]
    exact tabGet_tabSet_self _ i _
  · rw [offerFill_idle (h := ?_), ← entry]
    · rfl
    · exact hd

end

/-- Settles O26, answer by answer: the entry it matches, and every other. -/
theorem answersToClaimsAreTaken : Obligations.AnswersToClaimsAreTaken := by
  refine ⟨fun f p a number s h hw => ⟨fun hnone => ?_, fun i c ⟨hf, hc⟩ => ⟨fun h1 h2 => ?_, fun hno => ?_,
      fun hr hn hs => ?_, fun hr hn hs => ?_⟩⟩,
    fun f p a number reason s h => ⟨fun hnone => ?_, fun i c ⟨hf, hc⟩ => ⟨fun hno => ?_, fun hr hn hs => ?_⟩⟩,
    fun f p a number s h hw => ⟨fun hnone => ?_, fun i c he => ⟨fun hno => ?_, withdraw_taken h hw he⟩⟩⟩
  · exact grant_withdrawn h hw (findClient_noEntry hnone)
  · exact grant_withdrawn h hw (findClient_only hf fun hm => hm.1.elim h1 h2)
  · refine grant_withdrawn h hw (findClient_only hf fun hm => ?_)
    obtain ⟨hn, hs⟩ := matchesClaim_iff.1 hm.2
    exact hno.elim (· hn) (· hs)
  · rw [exec_grant h, takeGrant_expecting (s := afterSeq f p s) hf hr (matchesClaim_iff.2 ⟨hn, hs⟩)]
    rfl
  · rw [exec_grant h, takeGrant_claiming (s := afterSeq f p s) hf hr (matchesClaim_iff.2 ⟨hn, hs⟩),
      toRole_leaving (s := afterSeq f p s) _ hc (by decide)]
    simp [changeRole, roleTimer, isServing, hr, afterSeq, Config.secNs, State.setRc, State.setBu]
  · rw [exec_refuse h, takeRefuse_ignored (s := afterSeq f p s) (findClient_noEntry hnone)]
    rfl
  · have other : ¬ (c.role = .claiming ∧ matchesClaim c f.source.toNat number = true) := by
      rw [matchesClaim_iff]
      exact fun ⟨hr, hn, hs⟩ => hno.elim (· hr) fun hno => hno.elim (· hn) (· hs)
    rw [exec_refuse h, takeRefuse_ignored (s := afterSeq f p s) (findClient_only hf other)]
    rfl
  · rw [exec_refuse h, takeRefuse_claiming (s := afterSeq f p s) hf hr (matchesClaim_iff.2 ⟨hn, hs⟩),
      toRole_leaving (s := afterSeq f p s) _ hc (by decide)]
    simp [changeRole, roleTimer, setHolddown, isServing, hr, afterSeq, Config.secNs, State.setRc, State.setBu]
  · rw [exec_withdraw h, takeWithdraw_ignored (s := afterSeq f p s) (findClient_noEntry hnone)]
    rfl
  · have other : ¬ (c.role = .handing ∧ c.claimNo = some number ∧ c.claimant = some f.source.toNat) :=
      fun ⟨hr, hn, hs⟩ => hno.elim (· hr) fun hno => hno.elim (· hn) (· hs)
    rw [exec_withdraw h, takeWithdraw_ignored (s := afterSeq f p s) (findClient_only he.1 other)]
    rfl

end Sys2Proof.Machine
end
section
/-! OBLIGATION O24. Claims: the better count of a SIGHTING's listing, and an OFFER (R46, R47, R48, R64). -/

namespace Sys2Proof.Machine

/-! ## The evaluation of a claim (R46, R47) -/

section
variable {i n : Nat} {reading : Int} {c : Client} {a : Signal} {s : State}

/-- The better count after a reading that beats the average by the margin. -/
def counted (c : Client) : Nat := min (c.better + 1) 7

theorem evaluateClaim_below (hc : clientAt s i = some c) (hr : c.role = .remote) (hn : c.serving = n)
    (hs : c.servingReading.isSome = true) (ha : c.average = some a)
    (h : a.value - reading < 4 * (s.sl.params.margin : Int)) :
    evaluateClaim i n reading s = modClient i (fun x => { x with better := 0 }) s := by
  simp only [evaluateClaim, hc, hr, hn, hs, and_self, if_true, ha, if_neg (Int.not_le.2 h)]

theorem evaluateClaim_beyond (hc : clientAt s i = some c) (hr : c.role = .remote) (hn : c.serving = n)
    (hs : c.servingReading.isSome = true) (ha : c.average = some a)
    (h : 4 * (s.sl.params.margin : Int) ≤ a.value - reading) :
    evaluateClaim i n reading s =
      if s.sl.params.k ≤ counted c ∧ mayClaim s = true ∧ ¬ holddownRuns s.now c = true ∧ servingTakesClaims s n = true
      then sendClaim i (modClient i (fun x => { x with better := min (x.better + 1) 7 }) s)
      else modClient i (fun x => { x with better := min (x.better + 1) 7 }) s := by
  simp only [evaluateClaim, hc, hr, hn, hs, and_self, if_true, ha, if_pos h]
  rfl

/-- A claim is sent: its number is taken, the CLAIM queued, and the entry is CLAIMING (R48). -/
theorem sendClaim_sent (hrun : running s = true) (hc : clientAt s i = some c) (hr : c.role = .remote)
    (ha : c.average = some a) : sendClaim i s = { s with
      bu := { s.bu with
        control := joinControl (.bulletin c.serving (.claim c.addr s.rc.claimCounter a.value)) s.bu.control }
      rc := { s.rc with
        claimCounter := s.rc.claimCounter + 1
        offers := s.rc.offers.filter (fun o => o.client != i)
        clients := tabSet s.rc.clients i { c with
          role := .claiming, timer := some (s.now + 300000000), lastActivity := s.now
          claimNo := some s.rc.claimCounter, claimant := none, verdict := none, better := 0, refusal := none } } } := by
  have numbered : running (s.setRc { s.rc with claimCounter := s.rc.claimCounter + 1 }) = true := hrun
  simp only [sendClaim, hc, ha]
  rw [sendBulletin_running _ _ numbered, toRole_leaving (c := c) (hr := by decide)]
  · simp [changeRole, roleTimer, isServing, hr, ha, Config.claimWaitNs, Config.msNs, State.setRc, State.setBu]
  · exact hc

end

/-! ## A listing that moves the better count -/

section
variable {n i : Nat} {e : Listing} {c v : Client} {s : State}

/-- The entry a listing leaves before a claim is evaluated (R28, R29). -/
def heardEntry (n : Nat) (e : Listing) (s : State) (c : Client) : Client :=
  readEntry n e.reading s.now (listedEntry n e c)

/-- The state that holds v as entry i after a listing of the client (R28, R63). -/
def heard (e : Listing) (i : Nat) (c v : Client) (s : State) : State := s.setRc { s.rc with
  clients := tabSet s.rc.clients i v
  offers := listedOffers i e c s.rc.offers }

theorem clientAt_heard : clientAt (heard e i c v s) i = some v := tabGet_tabSet_self _ i v

theorem modClient_heard (f : Client → Client) : modClient i f (heard e i c v s) = heard e i c (f v) s := by
  rw [modClient_some f clientAt_heard]
  exact congrArg (fun l => s.setRc { s.rc with clients := l, offers := listedOffers i e c s.rc.offers })
    (tabSet_tabSet _ _ _ _)

/-- A listing of a client not served here is read into its entry, and a claim is evaluated (R28, R29, R47). -/
theorem listed_evaluated (hf : findClient s e.addr = some (i, c)) (hc : clientAt s i = some c)
    (hr : e.servedHere = false ∨ (c.role ≠ .served ∧ c.role ≠ .handing)) :
    listingReading n e (if e.servedHere then roleEffect n e s else s) =
      evaluateClaim i n e.reading (heard e i c (heardEntry n e s c) s) := by
  have read {x : Client} {o : List Offer} {u : State} (hu : HasEntry s e.addr i x o u) : listingReading n e u =
      evaluateClaim i n e.reading
        (s.setRc { s.rc with clients := tabSet s.rc.clients i (readEntry n e.reading s.now x), offers := o }) := by
    simp only [listingReading, hu.found]
    rw [modClient_some _ hu.entry, recordReading_eq, ← hu.put, hu.now]
    rfl
  by_cases hs : e.servedHere = true
  · obtain ⟨x, hu, hx⟩ := roleEffect_listed (n := n) hf hc (hr.resolve_left (by simp [hs])) hs
    rw [if_pos hs, read hu, hx]
    rfl
  · have hl : listedEntry n e c = c := by simp [listedEntry, hs]
    rw [if_neg hs, read (hasEntry_self hf hc), heard, heardEntry, hl, listedOffers, if_neg (fun h => hs h.1)]

/-- Such a client, REMOTE once heard, was not served before. -/
theorem heard_unserved (hr : e.servedHere = false ∨ (c.role ≠ .served ∧ c.role ≠ .handing))
    (h : (heardEntry n e s c).role = .remote) : isServing c.role = false := by
  rcases hr with hs | ⟨h1, h2⟩
  · have hl : listedEntry n e c = c := by simp [listedEntry, hs]
    rw [heardEntry, hl] at h
    rw [show c.role = .remote from h]
    rfl
  · cases hrole : c.role with
    | served => exact absurd hrole h1
    | handing => exact absurd hrole h2
    | remote | claiming | expecting | orphan | departed => rfl

theorem servedCount_heard (hc : clientAt s i = some c) (hu : isServing c.role = false) (hv : isServing v.role = false) :
    servedCount (heard e i c v s) = servedCount s :=
  countP_tabSet_of_not (t := s.rc.clients) (fun p => isServing p.2.role) hc hu hv

/-- What follows a listing that changed no served client is the filling of the offer list (R62, R163). -/
theorem drainSettle_heard (hc : clientAt s i = some c) (hu : isServing c.role = false) (hv : isServing v.role = false)
    (hd : acDraining s = true → servedCount s ≠ 0) : drainSettle (heard e i c v s) = offerFill (heard e i c v s) := by
  refine congrArg offerFill (acDrained_calm ?_)
  rw [servedCount_heard hc hu hv]
  cases h : acDraining s with
  | false => exact .inl h
  | true => exact .inr (hd h)

end

/-! ## The SIGHTING of one client -/

section
variable {f : MeshFrame} {p : Peer} {e : Listing} {i : Nat} {c v : Client} {s : State}

theorem heardEntry_addr (n : Nat) (e : Listing) (s : State) (c : Client) : (heardEntry n e s c).addr = c.addr := by
  show (listedEntry n e c).addr = c.addr
  unfold listedEntry
  dsimp only
  (repeat' split) <;> rfl

theorem heardEntry_holddown (n : Nat) (e : Listing) (s : State) (c : Client) :
    (heardEntry n e s c).holddownEnds = c.holddownEnds := by
  show (listedEntry n e c).holddownEnds = c.holddownEnds
  unfold listedEntry
  dsimp only
  (repeat' split) <;> rfl

/-- The reading of a REMOTE entry's serving node is its serving reading (R29). -/
theorem heardEntry_reading {n : Nat} (hr : (heardEntry n e s c).role = .remote) (hn : (heardEntry n e s c).serving = n) :
    (heardEntry n e s c).servingReading.isSome = true := by
  have h1 : (listedEntry n e c).role = .remote := hr
  have h2 : (listedEntry n e c).serving = n := hn
  simp [heardEntry, readEntry, h1, h2]

theorem exec_sighting_heard (h : delivered 2 f p (.sighting [e]) s) (hw : txWaits s = true)
    (hr : e.servedHere = false ∨ (e.tenure ≠ 0#16 ∧ c.role ≠ .served ∧ c.role ≠ .handing)) (he : entryOf s e.addr i c) :
    exec (.sightingReceive f) s = .next (drainSettle (evaluateClaim i f.source.toNat e.reading
      (heard e i c (heardEntry f.source.toNat e s c) (afterSeq f p s)))) := by
  rw [exec_sighting h hw, List.foldl_cons, List.foldl_nil, takeListing_heard (findClient_some he.1).2 (hr.imp_right And.left),
    listed_evaluated (s := afterSeq f p s) he.1 he.2 (hr.imp_right And.right)]
  rfl

/-- The state t holds v as entry i after the SIGHTING, and beside it differs by the offers of a DRAINING node alone (R62). -/
def Recounted (f : MeshFrame) (p : Peer) (e : Listing) (i : Nat) (c v : Client) (s t : State) : Prop :=
  t = { s with
    bu := { seqTaken f p s.bu with control := t.bu.control }
    rc := { s.rc with clients := tabSet s.rc.clients i v, offers := t.rc.offers } } ∧
  (acDraining s = false → t.bu.control = s.bu.control ∧ t.rc.offers = listedOffers i e c s.rc.offers)

theorem recounted_drainSettle (hc : clientAt s i = some c) (hu : isServing c.role = false) (hv : isServing v.role = false)
    (hd : acDraining s = true → servedCount s ≠ 0) :
    Recounted f p e i c v s (drainSettle (heard e i c v (afterSeq f p s))) := by
  rw [drainSettle_heard (s := afterSeq f p s) hc hu hv hd]
  obtain ⟨l, q, -, hfill⟩ := offerFill_offered (heard e i c v (afterSeq f p s))
  refine ⟨by rw [hfill]; rfl, fun h => ?_⟩
  rw [offerFill_idle (s := heard e i c v (afterSeq f p s)) h]
  exact ⟨rfl, rfl⟩

theorem mayClaim_iff : mayClaim s = true ↔ servedCount s < s.sl.params.h ∧ acBusy s = false := by
  simp [mayClaim]

theorem servingTakesClaims_afterSeq (v : Client) :
    servingTakesClaims (heard e i c v (afterSeq f p s)) f.source.toNat = true ↔
      p.state = .present ∧ p.adv.draining = false ∧ p.adv.leaving = false := by
  have hp : peerOf (heard e i c v (afterSeq f p s)) f.source.toNat = some { p with lastSeq := f.seq } :=
    tabGet_tabSet_self _ _ _
  simp [servingTakesClaims, isPresent, isDrainingPeer, hp]

/-- The checks a claim waits for (R46). -/
theorem claimChecks_iff (hc : clientAt s i = some c) (hu : isServing c.role = false) (hv : isServing v.role = false)
    (hh : v.holddownEnds = c.holddownEnds) :
    (s.sl.params.k ≤ counted v ∧ mayClaim (heard e i c v (afterSeq f p s)) = true ∧ ¬ holddownRuns s.now v = true ∧
      servingTakesClaims (heard e i c v (afterSeq f p s)) f.source.toNat = true) ↔
    s.sl.params.k ≤ counted v ∧ (servedCount s < s.sl.params.h ∧ acBusy s = false) ∧ c.holddownEnds ≤ s.now ∧
      p.state = .present ∧ p.adv.draining = false ∧ p.adv.leaving = false := by
  have served : servedCount (heard e i c v (afterSeq f p s)) = servedCount s :=
    servedCount_heard (s := afterSeq f p s) hc hu hv
  have busy : acBusy (heard e i c v (afterSeq f p s)) = acBusy s := rfl
  have h : (heard e i c v (afterSeq f p s)).sl.params.h = s.sl.params.h := rfl
  rw [mayClaim_iff, served, busy, h, servingTakesClaims_afterSeq, holddownRuns, hh, decide_eq_true_eq, Nat.not_lt]

end

/-! ## The three outcomes of a listing of a REMOTE client that has an average -/

/-- A SIGHTING of one client, which is then REMOTE with the source as serving node and a local average. -/
structure RemoteHeard (f : MeshFrame) (p : Peer) (e : Listing) (i : Nat) (c : Client) (a : Signal) (s : State) : Prop where
  delivered : delivered 2 f p (.sighting [e]) s
  waits : txWaits s = true
  served : acDraining s = true → servedCount s ≠ 0
  listing : e.servedHere = false ∨ (e.tenure ≠ 0#16 ∧ c.role ≠ .served ∧ c.role ≠ .handing)
  entry : entryOf s e.addr i c
  role : (heardEntry f.source.toNat e s c).role = .remote
  serving : (heardEntry f.source.toNat e s c).serving = f.source.toNat
  average : (heardEntry f.source.toNat e s c).average = some a

section
variable {f : MeshFrame} {p : Peer} {e : Listing} {i : Nat} {c : Client} {a : Signal} {s : State}

theorem RemoteHeard.unserved (h : RemoteHeard f p e i c a s) : isServing c.role = false :=
  heard_unserved (h.listing.imp_right And.right) h.role

theorem RemoteHeard.remote (h : RemoteHeard f p e i c a s) :
    isServing (heardEntry f.source.toNat e s c).role = false := by rw [h.role]; rfl

theorem RemoteHeard.exec (h : RemoteHeard f p e i c a s) : exec (.sightingReceive f) s = .next (drainSettle
    (evaluateClaim i f.source.toNat e.reading (heard e i c (heardEntry f.source.toNat e s c) (afterSeq f p s)))) :=
  exec_sighting_heard h.delivered h.waits h.listing h.entry

/-- Any better count put into the entry. -/
theorem RemoteHeard.recounted (h : RemoteHeard f p e i c a s) (b : Nat) :
    Recounted f p e i c { heardEntry f.source.toNat e s c with better := b } s
      (drainSettle (heard e i c { heardEntry f.source.toNat e s c with better := b } (afterSeq f p s))) :=
  recounted_drainSettle h.entry.2 h.unserved h.remote h.served

theorem RemoteHeard.below (h : RemoteHeard f p e i c a s) (hlow : a.value - e.reading < 4 * (s.sl.params.margin : Int)) :
    ∃ t, Machine.exec (.sightingReceive f) s = .next t ∧
      Recounted f p e i c { heardEntry f.source.toNat e s c with better := 0 } s t := by
  have evaluated := evaluateClaim_below (s := heard e i c (heardEntry f.source.toNat e s c) (afterSeq f p s))
    clientAt_heard h.role h.serving (heardEntry_reading h.role h.serving) h.average hlow
  rw [h.exec, evaluated, modClient_heard]
  exact ⟨_, rfl, h.recounted 0⟩

/-- The outcome of a listing that beats the margin, by the checks of R46. -/
theorem RemoteHeard.beyond (h : RemoteHeard f p e i c a s)
    (hhigh : 4 * (s.sl.params.margin : Int) ≤ a.value - e.reading) :
    Machine.exec (.sightingReceive f) s = .next (drainSettle
      (if s.sl.params.k ≤ counted (heardEntry f.source.toNat e s c) ∧
          (servedCount s < s.sl.params.h ∧ acBusy s = false) ∧ c.holddownEnds ≤ s.now ∧
          p.state = .present ∧ p.adv.draining = false ∧ p.adv.leaving = false
        then sendClaim i (heard e i c { heardEntry f.source.toNat e s c with
          better := counted (heardEntry f.source.toNat e s c) } (afterSeq f p s))
        else heard e i c { heardEntry f.source.toNat e s c with
          better := counted (heardEntry f.source.toNat e s c) } (afterSeq f p s))) := by
  have evaluated := evaluateClaim_beyond (s := heard e i c (heardEntry f.source.toNat e s c) (afterSeq f p s))
    clientAt_heard h.role h.serving (heardEntry_reading h.role h.serving) h.average hhigh
  have checks := claimChecks_iff (f := f) (p := p) (e := e) h.entry.2 h.unserved h.remote
    (heardEntry_holddown f.source.toNat e s c)
  rw [h.exec, evaluated, modClient_heard]
  simp only [← checks]
  rfl

theorem RemoteHeard.waiting (h : RemoteHeard f p e i c a s)
    (hhigh : 4 * (s.sl.params.margin : Int) ≤ a.value - e.reading)
    (hfail : counted (heardEntry f.source.toNat e s c) < s.sl.params.k ∨ s.sl.params.h ≤ servedCount s ∨
      acBusy s = true ∨ s.now < c.holddownEnds ∨ p.state ≠ .present ∨ p.adv.draining = true ∨ p.adv.leaving = true) :
    ∃ t, Machine.exec (.sightingReceive f) s = .next t ∧ Recounted f p e i c { heardEntry f.source.toNat e s c with
      better := counted (heardEntry f.source.toNat e s c) } s t := by
  rw [h.beyond hhigh, if_neg]
  · exact ⟨_, rfl, h.recounted _⟩
  · rintro ⟨hk, ⟨hs, hb⟩, hh, hp, hd, hl⟩
    rcases hfail with h | h | h | h | h | h | h
    · omega
    · omega
    · rw [hb] at h; cases h
    · omega
    · exact h hp
    · rw [hd] at h; cases h
    · rw [hl] at h; cases h

theorem filter_listedOffers (l : List Offer) :
    (listedOffers i e c l).filter (fun o => o.client != i) = l.filter (fun o => o.client != i) := by
  unfold listedOffers
  split
  · rw [List.filter_filter]
    simp
  · rfl

theorem RemoteHeard.claims (h : RemoteHeard f p e i c a s)
    (hhigh : 4 * (s.sl.params.margin : Int) ≤ a.value - e.reading)
    (hk : s.sl.params.k ≤ counted (heardEntry f.source.toNat e s c)) (hs : servedCount s < s.sl.params.h)
    (hb : acBusy s = false) (hh : c.holddownEnds ≤ s.now) (hp : p.state = .present) (hd : p.adv.draining = false)
    (hl : p.adv.leaving = false) :
    Machine.exec (.sightingReceive f) s = .next { s with
      bu := { seqTaken f p s.bu with
        control := joinControl (.bulletin f.source.toNat (.claim c.addr s.rc.claimCounter a.value)) s.bu.control }
      rc := { s.rc with
        claimCounter := s.rc.claimCounter + 1
        offers := s.rc.offers.filter (fun o => o.client != i)
        clients := tabSet s.rc.clients i { heardEntry f.source.toNat e s c with
          role := .claiming, timer := some (s.now + 300000000), claimNo := some s.rc.claimCounter
          claimant := none, verdict := none, better := 0, refusal := none } } } := by
  have idle : acDraining s = false := by
    cases hac : s.ac.state <;> simp [acDraining, acBusy, hac] at hb ⊢
  have sent := sendClaim_sent (s := heard e i c { heardEntry f.source.toNat e s c with
    better := counted (heardEntry f.source.toNat e s c) } (afterSeq f p s)) (delivered_running h.delivered : running s = true)
    clientAt_heard h.role h.average
  have settled (t : State) (ht : t.ac = s.ac) : drainSettle t = t :=
    drainSettle_idle (by rw [acDraining, ht]; exact idle)
  rw [h.beyond hhigh, if_pos ⟨hk, ⟨hs, hb⟩, hh, hp, hd, hl⟩, settled _ (by simp [heard, afterSeq]), sent]
  simp only [heard, afterSeq, State.setRc, State.setBu, filter_listedOffers, tabSet_tabSet, seqTaken, heardEntry_addr, h.serving]
  rfl

end

/-! ## The OFFER (R64) -/

section
variable {n i : Nat} {a : Addr} {c : Client} {s : State}

theorem takeOffer_ignored (h : ∀ i c, findClient s a = some (i, c) →
      ¬ (c.role = .remote ∧ c.serving = n ∧ c.average.isSome = true ∧ mayClaim s = true)) :
    takeOffer n (.offer a) s = s := by
  simp only [takeOffer]
  split
  · rw [if_neg (h _ _ ‹_›)]
  · rfl

theorem takeOffer_claims (hf : findClient s a = some (i, c)) (hr : c.role = .remote) (hn : c.serving = n)
    (ha : c.average.isSome = true) (hm : mayClaim s = true) : takeOffer n (.offer a) s = wake (sendClaim i s) := by
  simp [takeOffer, hf, hr, hn, ha, hm]

theorem exec_offer {f : MeshFrame} {p : Peer} (h : delivered 9 f p (.offer a) s) :
    exec (.offerReceive f) s = .next (takeOffer f.source.toNat (.offer a) (afterSeq f p s)) := taken_receive _ h

end

/-- Settles O24: the count below the margin, the count with a check that fails, the claim, and the OFFER. -/
theorem claimsAreSent : Obligations.ClaimsAreSent := by
  refine ⟨fun f p e i c a s h hw hd hr he => ?_, fun f p a s h hw => ⟨fun hnone => ?_, fun i c he => ⟨fun hno => ?_,
    fun v hr hn ha hh hb => ?_⟩⟩⟩
  · intro n r turned offers counted' hrole hserv havg
    have heard : RemoteHeard f p e i c a s := ⟨h, hw, hd, hr, he, hrole, hserv, havg⟩
    exact ⟨heard.below, heard.waiting, heard.claims⟩
  · rw [exec_offer h, takeOffer_ignored (s := afterSeq f p s) (findClient_noEntry hnone)]
    rfl
  · have other : ¬ (c.role = .remote ∧ c.serving = f.source.toNat ∧ c.average.isSome = true ∧
        mayClaim (afterSeq f p s) = true) := by
      rintro ⟨hr, hn, ha, hm⟩
      obtain ⟨hh, hb⟩ := mayClaim_iff.1 hm
      rcases hno with h | h | h | h | h
      · exact h hr
      · exact h hn
      · rw [h] at ha; cases ha
      · exact absurd hh (Nat.not_lt.2 h)
      · exact absurd (hb.symm.trans h) (by decide)
    rw [exec_offer h, takeOffer_ignored (s := afterSeq f p s) (findClient_only he.1 other)]
    rfl
  · have sent := sendClaim_sent (s := afterSeq f p s) (delivered_running h : running s = true) he.2 hr ha
    rw [exec_offer h, takeOffer_claims (s := afterSeq f p s) he.1 hr hn (by rw [ha]; rfl) (mayClaim_iff.2 ⟨hh, hb⟩),
      sent, hn, wake_waits (by simpa [txWaits, afterSeq] using hw)]
    rfl

end Sys2Proof.Machine
end
section
/-! SUPPORT. A verdict judged, an entry attached, and the offers that follow (R31, R62, R76, R77, R129, R132). -/

namespace Sys2Proof.Machine

/-! ## The verdict of a serving entry (R76, R77, R132) -/

/-- The entry with its verdict judged by a cause; a client newly BLOCKED has no flows left. -/
def judged (k : Option Cause) (c : Client) : Client := { c with
  verdict := if k.isSome then some .blocked else some .allowed
  games := if k.isSome = true ∧ c.verdict ≠ some .blocked then 0 else c.games }

/-- The FC with the flows of client i gone. -/
def withoutFlows (i : Nat) (now : Nat) (f : Fc) : Fc :=
  dropGames (f.gameCount - f.flows.countP (fun q => q.2.client == i && q.2.cls == .game)) now
    { f with flows := f.flows.filter (fun q => q.2.client != i) }

/-- The ML after the event of a verdict that changed. -/
def judgedMl (k : Option Cause) (c : Client) (s : State) (m : Ml) : Ml :=
  match k with
  | some k => if c.verdict = some .blocked then m else offerEvent (stamp (.clientBlocked c.addr c.profile k) s) m
  | none => if c.verdict = some .blocked then offerEvent (stamp (.clientAllowed c.addr c.profile) s) m else m

theorem clientAt_putClient (i : Nat) (c : Client) (s : State) : clientAt (putClient i c s) i = some c :=
  tabGet_tabSet_self _ i c

theorem putClient_putClient (i : Nat) (c d : Client) (s : State) : putClient i d (putClient i c s) = putClient i d s :=
  congrArg (fun l => s.setRc { s.rc with clients := l }) (tabSet_tabSet _ _ _ _)

theorem modClient_putClient (i : Nat) (f : Client → Client) (c : Client) (s : State) :
    modClient i f (putClient i c s) = putClient i (f c) s := by
  rw [modClient_some f (clientAt_putClient i c s)]
  exact putClient_putClient i c (f c) s

theorem removeFlowsOf_putClient (i : Nat) (c : Client) (s : State) : removeFlowsOf i (putClient i c s) =
    putClient i { c with games := 0 } (s.setFc (withoutFlows i s.now s.fc)) :=
  modClient_putClient i (fun c => { c with games := 0 }) c (s.setFc (withoutFlows i s.now s.fc))

/-- The verdict of a SERVED or HANDING entry is judged: entry, flows and event, and nothing else (R132). -/
theorem evalVerdict_putClient {i : Nat} {c : Client} {s : State} (hs : isServing c.role = true) :
    evalVerdict i (putClient i c s) = { s with
      rc := { s.rc with clients := tabSet s.rc.clients i (judged (blockCause s c) c) }
      fc := if (blockCause s c).isSome = true ∧ c.verdict ≠ some .blocked then withoutFlows i s.now s.fc else s.fc
      ml := judgedMl (blockCause s c) c s s.ml } := by
  have cause : blockCause (putClient i c s) c = blockCause s c := rfl
  simp only [evalVerdict, clientAt_putClient, hs, if_true, cause]
  cases hk : blockCause s c with
  | some k =>
    by_cases hv : c.verdict = some .blocked
    · have same : c = judged (some k) c := by simp [judged, ← hv]
      simp only [hv, if_true, judgedMl, ne_eq, not_true_eq_false, and_false, if_false]
      rw [← same]
      rfl
    · have entry : ({ c with verdict := some .blocked, games := 0 } : Client) = judged (some k) c := by simp [judged, hv]
      simp only [hv, if_false, judgedMl, ne_eq, not_false_eq_true, and_true, Option.isSome_some, if_true]
      rw [modClient_putClient, removeFlowsOf_putClient, ← entry]
      rfl
  | none =>
    have entry : ({ c with verdict := some .allowed } : Client) = judged none c := by simp [judged]
    simp only [judgedMl, Option.isSome_none, Bool.false_eq_true, false_and, if_false]
    rw [modClient_putClient, ← entry]
    split <;> rfl

/-- An event offered before the request completes or after it. -/
theorem offerEvent_completed (r : EventRec) (o : ReqOutcome) (d : List Byte) (m : Ml) :
    offerEvent r { m with state := .done, outcome := some o, result := d, polled := false } =
      { offerEvent r m with state := .done, outcome := some o, result := d, polled := false } := by
  unfold offerEvent
  dsimp only
  split
  · split <;> rfl
  · rfl

theorem complete_judgedMl (k : Option Cause) (c : Client) (s : State) (o : ReqOutcome) (d : List Byte) (m : Ml) :
    { judgedMl k c s m with state := .done, outcome := some o, result := d, polled := false } =
      judgedMl k c s { m with state := .done, outcome := some o, result := d, polled := false } := by
  unfold judgedMl
  split <;> split <;> simp only [offerEvent_completed]

/-! ## An attached entry (R31, R129) -/

/-- What CLIENT ATTACH with profile byte q makes of an entry, before its verdict is judged (Table 2-2). -/
def attachEntry (p : Params) (now day q : Nat) (tenure : BitVec 16) (c : Client) : Client := { c with
  role := .served, serving := p.node, tenure := tenure, timer := none, claimNo := none, claimant := none
  holddownEnds := now + p.holddown * 1000000000, lastActivity := now
  profile := if decide (q ≠ 255) then q else if c.given then c.profile else p.pendingProfile
  given := decide (q ≠ 255) || c.given
  better := if c.role = .remote ∨ c.serving ≠ p.node then 0 else c.better
  servingReading := if c.serving = p.node then c.servingReading else none
  used := if keepsCounters c.role then c.used else 0, extra := if keepsCounters c.role then c.extra else 0
  drawn := if keepsCounters c.role then c.drawn else 0, day := if keepsCounters c.role then c.day else day }

theorem attached_eq (p : Params) (now day q : Nat) (tenure : BitVec 16) (c : Client) :
    attached p now day (optProfile q) { c with tenure := tenure } = attachEntry p now day q tenure c := by
  have profile (d : Client) : attachProfile p.pendingProfile (optProfile q) d = { d with
      profile := if decide (q ≠ 255) then q else if d.given then d.profile else p.pendingProfile
      given := decide (q ≠ 255) || d.given } := by
    by_cases hq : q = 255
    · rcases d with ⟨⟩
      simp only [attachProfile, optProfile, hq, if_true]
      split <;> simp_all
    · simp [attachProfile, optProfile, hq]
  have served : setHolddown p now (setServing p.node (changeRole p now .served { c with tenure := tenure })) = { c with
      role := .served, serving := p.node, tenure := tenure, timer := none, claimNo := none, claimant := none
      holddownEnds := now + p.holddown * 1000000000, lastActivity := now
      better := if c.role = .remote ∨ c.serving ≠ p.node then 0 else c.better
      servingReading := if c.serving = p.node then c.servingReading else none } := by
    by_cases hn : c.serving = p.node <;> by_cases hr : c.role = .remote <;>
      simp [setServing_eq, setHolddown, changeRole, roleTimer, isServing, hn, hr, Config.secNs]
  unfold attached
  rw [profile, served]
  by_cases hk : keepsCounters c.role = true <;> simp [attachEntry, hk]

/-! ## The offers of a DRAINING node join behind what is queued (R9, R62) -/

theorem joinControl_prefix {c : Control} (h : isSighting c = false) (q : List Control) : q <+: joinControl c q := by
  unfold joinControl
  split
  · exact List.prefix_append q [c]
  · rw [h, Bool.false_and]
    exact List.prefix_refl q

theorem offerOne_prefix (s : State) : s.bu.control <+: (offerOne s).bu.control := by
  unfold offerOne
  split
  · split
    · rename_i i c _ _ r _
      show s.bu.control <+: (sendBulletin r.node (.offer c.addr) s).bu.control
      unfold sendBulletin queueControl
      split
      · exact joinControl_prefix rfl _
      · exact List.prefix_refl _
    · exact List.prefix_refl _
  · exact List.prefix_refl _

theorem offerLoop_prefix (n : Nat) (s : State) : s.bu.control <+: (offerLoop n s).bu.control := by
  induction n generalizing s with
  | zero => exact List.prefix_refl _
  | succ n ih =>
    simp only [offerLoop]
    split
    · exact (offerOne_prefix s).trans (ih _)
    · exact List.prefix_refl _

theorem offerFill_prefix (s : State) : s.bu.control <+: (offerFill s).bu.control := by
  unfold offerFill
  split
  · exact offerLoop_prefix _ s
  · exact List.prefix_refl _

/-! ## Room for a client that attaches (R27) -/

/-- How late an entry of a role is evicted for a client that attaches: DEPARTED, ORPHAN, REMOTE, and no other (R27). -/
def evictionRank (r : Role) : Nat := if r = .departed then 0 else if r = .orphan then 1 else if r = .remote then 2 else 3

theorem victimOf_attach_none {s : State} (hs : tabSorted s.rc.clients = true)
    (h : ∀ q ∈ s.rc.clients, 3 ≤ evictionRank q.2.role) : victimOf s [.departed, .orphan, .remote] = none := by
  have absent (r : Role) (hr : evictionRank r < 3) : oldestOf s r = none :=
    oldestOf_none hs fun i c hc he => by
      have := h (i, c) (mem_of_tabGet hc)
      rw [he] at this
      omega
  simp [victimOf, absent .departed (by decide), absent .orphan (by decide), absent .remote (by decide)]

/-- The victim is the oldest entry of the lowest rank, the lower index between equals (R27). -/
theorem victimOf_attach_some {s : State} {i : Nat} {c : Client} (hs : tabSorted s.rc.clients = true)
    (hc : (i, c) ∈ s.rc.clients) (hr : evictionRank c.role ≤ 2)
    (h : ∀ q ∈ s.rc.clients, evictionRank c.role < evictionRank q.2.role ∨
      (evictionRank c.role = evictionRank q.2.role ∧ goesFirst (i, c) q)) :
    victimOf s [.departed, .orphan, .remote] = some i := by
  have oldest : oldestOf s c.role = some i := oldestOf_some hs (tabGet_of_mem hs hc) fun j k hj hk => by
    rcases h (j, k) (mem_of_tabGet hj) with hlt | ⟨-, hgo⟩
    · rw [hk] at hlt
      omega
    · exact hgo
  have absent (r : Role) (hlt : evictionRank r < evictionRank c.role) : oldestOf s r = none :=
    oldestOf_none hs fun j k hj he => by
      rcases h (j, k) (mem_of_tabGet hj) with h | ⟨h, -⟩ <;> rw [he] at h <;> omega
  cases hrole : c.role with
  | departed =>
    rw [hrole] at oldest
    simp [victimOf, oldest]
  | orphan =>
    rw [hrole] at oldest absent
    simp [victimOf, oldest, absent .departed (by decide)]
  | remote =>
    rw [hrole] at oldest absent
    simp [victimOf, oldest, absent .departed (by decide), absent .orphan (by decide)]
  | served | handing | claiming | expecting =>
    rw [hrole] at hr
    exact absurd hr (by decide)

theorem makeRoom_free {roles : List Role} {s : State} {i : Nat} (h : tabFree s.rc.clients 256 = some i) :
    makeRoom roles s = some (i, s) := by
  simp only [makeRoom, show tabFree s.rc.clients Config.clientEntries = some i from h]

theorem makeRoom_victim {roles : List Role} {s : State} {i : Nat} (h : tabFree s.rc.clients 256 = none)
    (hv : victimOf s roles = some i) : makeRoom roles s = some (i, removeClient i s) := by
  simp only [makeRoom, show tabFree s.rc.clients Config.clientEntries = none from h, hv]

theorem makeRoom_full {roles : List Role} {s : State} (h : tabFree s.rc.clients 256 = none)
    (hv : victimOf s roles = none) : makeRoom roles s = none := by
  simp only [makeRoom, show tabFree s.rc.clients Config.clientEntries = none from h, hv]

end Sys2Proof.Machine
end
section
/-! SUPPORT. CLIENT ATTACH: its checks, and the part it leaves (R27, R31). -/

namespace Sys2Proof.Machine

/-! ## The entry and what it brings with it -/

theorem sendBulletin_putClient (n : Nat) (m : Body) (i : Nat) (c : Client) (s : State) :
    sendBulletin n m (putClient i c s) = putClient i c (sendBulletin n m s) := by
  unfold sendBulletin queueControl
  have same : running (putClient i c s) = running s := rfl
  rw [same]
  split <;> rfl

/-- The control transmit queue with ARRIVED offered to it, which a part that is not RUNNING does not take (R9, R31). -/
def announced (c : Client) (s : State) : List Control :=
  if running s then joinControl (.bulletin 0 (.arrived c.addr c.tenure)) s.bu.control else s.bu.control

theorem sendBulletin_arrived (c : Client) (s : State) :
    sendBulletin 0 (.arrived c.addr c.tenure) s = s.setBu { s.bu with control := announced c s } := by
  unfold sendBulletin queueControl announced
  split <;> rfl

/-- CLIENT ATTACH at an index: the entry judged, its flows, ARRIVED, the event of a verdict and the result (R31, R132). -/
theorem attachAt_eq (i : Nat) (o : Option Nat) (c : Client) (s : State) {e : Client}
    (he : attached s.sl.params s.now (dayOf s.su.clock) o c = e) (hr : e.role = .served) : attachAt i o c s = { s with
      bu := { s.bu with control := announced c s }
      rc := { s.rc with clients := tabSet s.rc.clients i (judged (blockCause s e) e) }
      fc := if (blockCause s e).isSome = true ∧ e.verdict ≠ some .blocked then withoutFlows i s.now s.fc else s.fc
      ml := judgedMl (blockCause s e) e s { s.ml with
        state := .done, outcome := some .ok, result := toBE 1 i ++ toBE 2 c.tenure.toNat, polled := false } } := by
  have evaluated := evalVerdict_putClient (i := i) (c := e) (s := s.setBu { s.bu with control := announced c s })
    (by rw [hr]; rfl)
  unfold attachAt
  dsimp only
  rw [he, sendBulletin_putClient, sendBulletin_arrived, evaluated, ← complete_judgedMl]
  rfl

/-! ### The outcome in a part whose Client Table and flows are as they stand, or as an eviction left them -/

section
variable {x : Submit} {s : State} {r : Rc} {f : Fc} {i q : Nat} {c : Client} {tenure : BitVec 16}

/-- The part with its Client Table and flows replaced and CLIENT ATTACH PENDING. -/
def attaching (x : Submit) (s : State) (r : Rc) (f : Fc) : State := ((s.setRc r).setFc f).setMl (mlPending 2 x s)

/-- The part after CLIENT ATTACH, the offers of a DRAINING node included. -/
def attachedState (x : Submit) (s : State) (r : Rc) (f : Fc) (i q : Nat) (tenure : BitVec 16) (c : Client) : State :=
  offerFill (attachAt i (optProfile q) { c with tenure := tenure } (attaching x s r f))

/-- The entry made, in the part it is made in. -/
def attachedHere (s : State) (q : Nat) (tenure : BitVec 16) (c : Client) : Client :=
  attachEntry s.sl.params s.now (s.su.clock.minute / 1440) q tenure c

/-- The part after CLIENT ATTACH, but for the offers of a DRAINING node. -/
theorem attachAt_attaching (e : Client) (he : attachedHere s q tenure c = e) :
    attachAt i (optProfile q) { c with tenure := tenure } (attaching x s r f) = { s with
      bu := { s.bu with control := announced { c with tenure := tenure } s }
      rc := { r with clients := tabSet r.clients i (judged (blockCause s e) e) }
      fc := if (blockCause s e).isSome = true ∧ e.verdict ≠ some .blocked then withoutFlows i s.now f else f
      ml := judgedMl (blockCause s e) e s (mlDone 2 x .ok (toBE 1 i ++ toBE 2 tenure.toNat) s) } := by
  have made := attachAt_eq i (optProfile q) { c with tenure := tenure } (attaching x s r f)
    (attached_eq s.sl.params s.now (s.su.clock.minute / 1440) q tenure c) rfl
  exact he ▸ made

theorem attachedState_eq (e : Client) (he : attachedHere s q tenure c = e) : attachedState x s r f i q tenure c = { s with
    bu := { s.bu with control := (attachedState x s r f i q tenure c).bu.control }
    rc := { r with
      clients := tabSet r.clients i (judged (blockCause s e) e)
      offers := (attachedState x s r f i q tenure c).rc.offers }
    fc := if (blockCause s e).isSome = true ∧ e.verdict ≠ some .blocked then withoutFlows i s.now f else f
    ml := judgedMl (blockCause s e) e s (mlDone 2 x .ok (toBE 1 i ++ toBE 2 tenure.toNat) s) } := by
  obtain ⟨l, w, -, hfill⟩ := offerFill_offered
    (attachAt i (optProfile q) { c with tenure := tenure } (attaching x s r f))
  rw [attachedState, hfill, attachAt_attaching e he]
  rfl

theorem attachedState_calm (h : acDraining s = false) :
    (attachedState x s r f i q tenure c).rc.offers = r.offers ∧
      (attachedState x s r f i q tenure c).bu.control = announced { c with tenure := tenure } s := by
  rw [attachedState, offerFill_idle (by rw [attachAt_attaching _ rfl]; exact h), attachAt_attaching _ rfl]
  exact ⟨rfl, rfl⟩

/-- With room in the queue ARRIVED stands behind what was queued, whatever offers follow it. -/
theorem attachedState_arrived (hl : s.bu.control.length < 16) (hr : running s = true) :
    (attachedState x s r f i q tenure c).bu.control[s.bu.control.length]? =
      some (.bulletin 0 (.arrived c.addr tenure)) := by
  have queued : announced { c with tenure := tenure } s = s.bu.control ++ [.bulletin 0 (.arrived c.addr tenure)] := by
    rw [announced, if_pos hr, joinControl_room hl]
  have kept := offerFill_prefix (attachAt i (optProfile q) { c with tenure := tenure } (attaching x s r f))
  rw [attachAt_attaching _ rfl] at kept
  obtain ⟨l, hl⟩ := kept
  rw [attachedState, attachAt_attaching _ rfl, ← hl]
  show (announced { c with tenure := tenure } s ++ l)[s.bu.control.length]? = _
  rw [queued]
  simp

theorem judgedMl_result (k : Option Cause) (e : Client) (u : State) (m : Ml) : (judgedMl k e u m).state = m.state ∧
    (judgedMl k e u m).outcome = m.outcome ∧ (judgedMl k e u m).result = m.result := by
  have offered (r : EventRec) : (offerEvent r m).state = m.state ∧ (offerEvent r m).outcome = m.outcome ∧
      (offerEvent r m).result = m.result := by
    rw [offerEvent_eq]
    exact ⟨rfl, rfl, rfl⟩
  unfold judgedMl
  split <;> split <;> simp only [offered, and_self]

end

/-! ### The checks -/

section
variable {x : Submit} {s : State}

theorem exec_clientAttach (h : requestTaken (lenIs 7) x s) :
    exec (.clientAttach x) s = .next (runClientAttach (submitArgs x) (s.setMl (mlPending 2 x s))) := taken_submit h

theorem exec_clientDetach (h : requestTaken (lenIs 6) x s) :
    exec (.clientDetach x) s = .next (runClientDetach (submitArgs x) (s.setMl (mlPending 3 x s))) := taken_submit h

theorem runClientAttach_badField {d : List Byte} (h : isGroup (addrAt 0 d) = true) :
    runClientAttach d s = complete .badField [] s := if_pos h

/-- The profile byte passes: it names a profile, or none. -/
theorem optProfile_passes {q : Nat} (h : q ≤ 15 ∨ q = 255) : ¬ (optProfile q).any (fun p => decide (15 < p)) = true := by
  unfold optProfile
  split
  · exact Bool.false_ne_true
  · simp only [Option.any_some, decide_eq_true_eq]
    omega

theorem runClientAttach_outOfRange {d : List Byte} (hg : isGroup (addrAt 0 d) = false) (h : 15 < field 6 1 d)
    (hn : field 6 1 d ≠ 255) : runClientAttach d s = complete .outOfRange [] s := by
  simp [runClientAttach, hg, optProfile, hn, h]

theorem runClientAttach_found {d : List Byte} {i : Nat} {c : Client} (hq : field 6 1 d ≤ 15 ∨ field 6 1 d = 255)
    (hf : findClient s (addrAt 0 d) = some (i, c)) : runClientAttach d s =
      wake (offerFill (attachAt i (optProfile (field 6 1 d)) { c with tenure := nextNonzero c.tenure } s)) := by
  simp only [runClientAttach, (findClient_some hf).2, Bool.false_eq_true, if_false, if_neg (optProfile_passes hq), hf]

theorem runClientAttach_new {d : List Byte} {i : Nat} {t : State} (hq : field 6 1 d ≤ 15 ∨ field 6 1 d = 255)
    (hg : isGroup (addrAt 0 d) = false) (hf : findClient s (addrAt 0 d) = none)
    (hm : makeRoom [.departed, .orphan, .remote] s = some (i, t)) : runClientAttach d s =
      wake (offerFill (attachAt i (optProfile (field 6 1 d)) (newClient t (addrAt 0 d) .served t.sl.params.node 1) t)) := by
  simp only [runClientAttach, hg, Bool.false_eq_true, if_false, if_neg (optProfile_passes hq), hf, hm]

theorem runClientAttach_full {d : List Byte} (hq : field 6 1 d ≤ 15 ∨ field 6 1 d = 255)
    (hg : isGroup (addrAt 0 d) = false) (hf : findClient s (addrAt 0 d) = none)
    (hm : makeRoom [.departed, .orphan, .remote] s = none) : runClientAttach d s = complete .tableFull [] s := by
  simp only [runClientAttach, hg, Bool.false_eq_true, if_false, if_neg (optProfile_passes hq), hf, hm]

end

end Sys2Proof.Machine
end
section
/-! SUPPORT. A READY transmitter with nothing to take: a command acts as while a frame was being sent, and then the transmitter
takes what the command left (R106, R110). -/

namespace Sys2Proof.Machine

theorem txWaits_sending (fr : TxFrame) (s : State) : txWaits (sending (some fr) s) = true := rfl

/-- The transmitter that sends nothing, said of a state in which it does. -/
theorem sending_none {s : State} (h : s.es.backhaulTx = none) : sending none s = s := by
  rw [sending, ← h]
  rfl

/-- Work that leaves the transmitter out of account, and ends with its looking for something to take. -/
theorem ready_as_busy {c : Instr} {V : State → State} {s : State} {fr : TxFrame} (ht : s.es.backhaulTx = none)
    (ha : alive s = true) (hfr : fr.ends = s.now) (hready : exec c s = .next (wake (V s)))
    (hbusy : exec c (sending (some fr) s) = .next (wake (V (sending (some fr) s))))
    (hV : ∀ o, V (sending o s) = sending o (V s)) (hnow : (V s).now = s.now) (hpins : (V s).pins = s.pins) :
    ∃ t, exec c (sending (some fr) s) = .next t ∧ exec c s = exec .backhaulTxDone t := by
  have sent : exec c (sending (some fr) s) = .next (sending (some fr) (V s)) := by
    rw [hbusy, hV, wake_waits (txWaits_sending fr _)]
  have idle : sending none (V s) = V s := by rw [← hV none, sending_none ht]
  have living : alive (sending (some fr) (V s)) = true := by
    rw [← ha]
    simp [alive, sending, hpins]
  have time : runTo fr.ends (sending (some fr) (V s)) = sending (some fr) (V s) := by
    rw [runTo, if_neg]
    simp [sending, hfr, hnow]
  refine ⟨_, sent, ?_⟩
  rw [hready, exec_backhaulTxDone (fr := fr) living rfl, time]
  exact congrArg (fun t => Host.Outcome.next (wake t)) idle.symm

/-! ## Requests -/

section
variable {o : Option TxFrame} {code : Nat} {lenOk : List Byte → Bool} {run W : List Byte → State → State} {x : Submit}

/-- A request that wakes the transmitter at its end wakes it whether it is carried out or not, when nothing waits. -/
theorem submit_wakes (hrun : ∀ d u, NothingToTake u → run d u = wake (W d u)) {s : State} (h : NothingToTake s) :
    submit code lenOk run x s = wake (submit code lenOk W x s) := by
  have still {t : State} (hb : t.bu = s.bu) (he : t.es = s.es) : t = wake t :=
    (wake_nothing (h.of_eq (by rw [hb]) he)).symm
  unfold submit dispatch
  dsimp only
  split
  · split
    · exact still rfl rfl
    · split
      · exact still rfl rfl
      · split
        · exact still rfl rfl
        · exact hrun _ _ (h.of_eq rfl rfl)
  · exact still rfl rfl

theorem submit_sending (hW : ∀ d u, W d (sending o u) = sending o (W d u)) (s : State) :
    submit code lenOk W x (sending o s) = sending o (submit code lenOk W x s) := by
  have shifted : shiftOut (2 + x.length) (echoBytes (sending o s)) (sending o s) =
    sending o (shiftOut (2 + x.length) (echoBytes s) s) := rfl
  have begun (t : State) : takeSubmit code (submitTag x) (sending o t) = sending o (takeSubmit code (submitTag x) t) := rfl
  have dispatched (t : State) : dispatch lenOk W x (sending o t) = sending o (dispatch lenOk W x t) := by
    unfold dispatch
    rw [hW, complete_sending, complete_sending, show (sending o t).sl = t.sl from rfl]
    (repeat' split) <;> rfl
  have ml (t : State) : (sending o t).ml = t.ml := rfl
  unfold submit
  dsimp only
  rw [shifted, begun, dispatched, ml]
  (repeat' split) <;> rfl

theorem submit_frame (hW : ∀ d u, (W d u).now = u.now ∧ (W d u).pins = u.pins) (s : State) :
    (submit code lenOk W x s).now = s.now ∧ (submit code lenOk W x s).pins = s.pins := by
  unfold submit dispatch
  dsimp only
  split
  · split
    · exact ⟨rfl, rfl⟩
    · split
      · exact ⟨rfl, rfl⟩
      · split
        · exact ⟨rfl, rfl⟩
        · exact hW _ _
  · exact ⟨rfl, rfl⟩

/-- A request in a part whose READY transmitter has nothing to take. -/
theorem request_ready {c : Instr} {s : State} {fr : TxFrame} (hc : ∀ u, exec c u = taken (submit code lenOk run x) u)
    (hrun : ∀ d u, NothingToTake u → run d u = wake (W d u)) (hW : ∀ d o u, W d (sending o u) = sending o (W d u))
    (hk : ∀ d u, (W d u).now = u.now ∧ (W d u).pins = u.pins) (ht : s.es.backhaulTx = none) (ha : alive s = true)
    (hfr : fr.ends = s.now) (h : NothingToTake s) :
    ∃ t, exec c (sending (some fr) s) = .next t ∧ exec c s = exec .backhaulTxDone t := by
  refine ready_as_busy (V := submit code lenOk W x) ht ha hfr ?_ ?_ (fun o => submit_sending (fun d u => hW d o u) s)
    (submit_frame hk s).1 (submit_frame hk s).2
  · rw [hc, taken_alive ha, submit_wakes hrun h]
  · rw [hc, taken_alive (show alive (sending (some fr) s) = true from ha), submit_wakes hrun h.sending]

/-! ## The Roaming Controller's work -/

theorem sendBulletin_sending (n : Nat) (b : Body) (s : State) :
    sendBulletin n b (sending o s) = sending o (sendBulletin n b s) := by
  unfold sendBulletin queueControl
  rw [show running (sending o s) = running s from rfl]
  split <;> rfl

theorem offerOne_sending (s : State) : offerOne (sending o s) = sending o (offerOne s) := by
  have eligible (i : Nat) (c : Client) : offerEligible (sending o s) i c = offerEligible s i c := rfl
  unfold offerOne
  simp only [eligible, show (sending o s).rc = s.rc from rfl]
  split
  · split
    · rw [sendBulletin_sending]
      rfl
    · rfl
  · rfl

theorem offerLoop_sending (n : Nat) (s : State) : offerLoop n (sending o s) = sending o (offerLoop n s) := by
  induction n generalizing s with
  | zero => rfl
  | succ n ih =>
    simp only [offerLoop]
    rw [show (sending o s).rc = s.rc from rfl, offerOne_sending, ih]
    split <;> rfl

theorem offerFill_sending (s : State) : offerFill (sending o s) = sending o (offerFill s) := by
  unfold offerFill
  rw [show acDraining (sending o s) = acDraining s from rfl, offerLoop_sending]
  split <;> rfl

theorem drainSettle_sending (s : State) : drainSettle (sending o s) = sending o (drainSettle s) := by
  rw [drainSettle, acDrained_sending, offerFill_sending]
  rfl

theorem removeClient_sending (i : Nat) (s : State) : removeClient i (sending o s) = sending o (removeClient i s) := by
  unfold removeClient
  dsimp only
  rw [removeFlowsOf_sending]
  rfl

theorem makeRoom_sending (roles : List Role) (s : State) :
    makeRoom roles (sending o s) = (makeRoom roles s).map (fun r => (r.1, sending o r.2)) := by
  have victim : victimOf (sending o s) roles = victimOf s roles := rfl
  unfold makeRoom
  rw [show (sending o s).rc = s.rc from rfl, victim]
  split
  · rfl
  · split
    · rw [removeClient_sending]
      rfl
    · rfl

theorem attachAt_sending (i : Nat) (p : Option Nat) (c : Client) (s : State) :
    attachAt i p c (sending o s) = sending o (attachAt i p c s) := by
  have put (v : Client) : putClient i v (sending o s) = sending o (putClient i v s) := rfl
  unfold attachAt
  dsimp only
  rw [put, sendBulletin_sending, evalVerdict_sending]
  rfl

end

end Sys2Proof.Machine
end
section
/-! OBLIGATION O56. CLIENT ATTACH and CLIENT DETACH together (R27, R31, R34, R62, R63, R163). -/

namespace Sys2Proof.Machine

/-! ## CLIENT ATTACH -/

theorem withoutFlows_eq (i now : Nat) (f : Fc) : withoutFlows i now f = { f with
    flows := f.flows.filter (fun q => q.2.client != i)
    gameCount := f.gameCount - f.flows.countP (fun q => q.2.client == i && q.2.cls == .game)
    quietSince := if 0 < f.gameCount ∧ f.gameCount - f.flows.countP (fun q => q.2.client == i && q.2.cls == .game) = 0
      then some now else f.quietSince } := by
  simp [withoutFlows, dropGames]

/-- The two sides of a verdict's event, as the statement tells them apart. -/
theorem judgedMl_eq (k : Option Cause) (e : Client) (s : State) (m : Ml) : judgedMl k e s m =
    match k with
    | some j => if k.isSome = true ∧ e.verdict ≠ some .blocked
      then offerEvent (stamp (.clientBlocked e.addr e.profile j) s) m else m
    | none => if e.verdict = some .blocked then offerEvent (stamp (.clientAllowed e.addr e.profile) s) m else m := by
  cases k with
  | none => rfl
  | some j => by_cases hv : e.verdict = some .blocked <;> simp [judgedMl, hv]

section
variable {x : Submit} {s : State} {r : Rc} {f : Fc} {i q : Nat} {c : Client} {tenure : BitVec 16}

theorem wake_attachedState (hw : txWaits s = true) :
    wake (attachedState x s r f i q tenure c) = attachedState x s r f i q tenure c := by
  have waits : txWaits (attachedState x s r f i q tenure c) = true := by
    rw [attachedState_eq _ rfl]
    exact hw
  exact wake_waits waits

/-- The Client Table an eviction leaves, with what goes with the entry (R25, R27). -/
def evictedRc (i : Nat) (r : Rc) : Rc := { r with
  clients := tabErase r.clients i
  offers := r.offers.filter (fun o => o.client != i)
  lapsed := tabErase r.lapsed i }

theorem removeClient_attaching (hc : clientAt s i = some c) : removeClient i (attaching x s s.rc s.fc) =
    attaching x s (evictedRc i s.rc) (withoutFlows i s.now s.fc) := removeClient_eq (s := attaching x s s.rc s.fc) hc

theorem exec_attach_found (ht : requestTaken (lenIs 7) x s) (hw : txWaits s = true)
    (hq : field 6 1 (submitArgs x) ≤ 15 ∨ field 6 1 (submitArgs x) = 255)
    (hf : findClient s (addrAt 0 (submitArgs x)) = some (i, c)) : exec (.clientAttach x) s =
      .next (attachedState x s s.rc s.fc i (field 6 1 (submitArgs x)) (nextNonzero c.tenure) c) := by
  rw [exec_clientAttach ht, runClientAttach_found (s := s.setMl (mlPending 2 x s)) hq hf]
  exact congrArg _ (wake_attachedState hw)

/-- A new entry is made as one of the address that was just learned as SERVED (R31). -/
theorem attachAt_new (a : Addr) :
    attachAt i (optProfile q) (newClient (attaching x s r f) a .served s.sl.params.node 1) (attaching x s r f) =
      attachAt i (optProfile q) { newClient s a .served s.sl.params.node 1 with tenure := 1#16 } (attaching x s r f) := by
  have made : newClient (attaching x s r f) a .served s.sl.params.node 1 =
      { newClient s a .served s.sl.params.node 1 with tenure := 1#16 } := by simp only [newClient, attaching]; rfl
  rw [made]

theorem exec_attach_new (ht : requestTaken (lenIs 7) x s) (hw : txWaits s = true)
    (hq : field 6 1 (submitArgs x) ≤ 15 ∨ field 6 1 (submitArgs x) = 255)
    (hg : isGroup (addrAt 0 (submitArgs x)) = false) (hf : findClient s (addrAt 0 (submitArgs x)) = none)
    (hm : makeRoom [.departed, .orphan, .remote] (attaching x s s.rc s.fc) = some (i, attaching x s r f)) :
    exec (.clientAttach x) s = .next (attachedState x s r f i (field 6 1 (submitArgs x)) 1#16
      (newClient s (addrAt 0 (submitArgs x)) .served s.sl.params.node 1)) := by
  rw [exec_clientAttach ht, runClientAttach_new (s := s.setMl (mlPending 2 x s)) hq hg hf hm,
    ← wake_attachedState hw, attachedState, ← attachAt_new]
  rfl

end

/-! ## CLIENT DETACH -/

section
variable {x : Submit} {d : List Byte} {s : State} {i : Nat} {c : Client}

theorem runClientDetach_unknown (hf : findClient s (addrAt 0 d) = none) :
    runClientDetach d s = complete .notFound [] s := by simp only [runClientDetach, hf]

theorem runClientDetach_elsewhere (hf : findClient s (addrAt 0 d) = some (i, c))
    (hr : c.role = .remote ∨ c.role = .claiming ∨ c.role = .orphan ∨ c.role = .departed) :
    runClientDetach d s = complete .wrongState [] s := by
  rcases hr with hr | hr | hr | hr <;> simp only [runClientDetach, hf, hr]

theorem runClientDetach_here (hf : findClient s (addrAt 0 d) = some (i, c))
    (hr : c.role = .served ∨ c.role = .handing ∨ c.role = .expecting) : runClientDetach d s =
      wake (drainSettle (complete .ok [] (removeFlowsOf i (toRole i .departed (setServing 0) s)))) := by
  rcases hr with hr | hr | hr <;> simp only [runClientDetach, hf, hr]

/-- A detached client's entry (Table 2-2). -/
def detachedEntry (now : Nat) (c : Client) : Client := { c with
  role := .departed, serving := 0, timer := some (now + 60000000000), lastActivity := now, claimNo := none
  claimant := none, verdict := none, active := if c.role = .expecting then c.active else false, games := 0
  servingReading := if c.serving = 0 then c.servingReading else none
  better := if c.serving = 0 then c.better else 0 }

/-- The part with a client DEPARTED, before a drain is looked at. -/
def detachedState (x : Submit) (s : State) (i : Nat) (c : Client) : State := { s with
  rc := { s.rc with
    clients := tabSet s.rc.clients i (detachedEntry s.now c)
    offers := s.rc.offers.filter (fun o => o.client != i) }
  fc := withoutFlows i s.now s.fc
  ml := mlDone 3 x .ok [] s }

theorem detached_eq (hc : clientAt s i = some c) (hr : c.role = .served ∨ c.role = .handing ∨ c.role = .expecting) :
    complete .ok [] (removeFlowsOf i (toRole i .departed (setServing 0) (s.setMl (mlPending 3 x s)))) =
      detachedState x s i c := by
  have entry : ({ setServing 0 (changeRole s.sl.params s.now .departed c) with games := 0 } : Client) =
      detachedEntry s.now c := by
    rcases hr with hr | hr | hr <;>
      simp [detachedEntry, setServing_eq, changeRole, roleTimer, isServing, hr, Config.removalNs, Config.secNs]
  have left : toRole i .departed (setServing 0) (s.setMl (mlPending 3 x s)) =
      putClient i (setServing 0 (changeRole s.sl.params s.now .departed c))
        ((s.setMl (mlPending 3 x s)).setRc { s.rc with offers := s.rc.offers.filter (fun o => o.client != i) }) :=
    toRole_leaving (s := s.setMl (mlPending 3 x s)) (setServing 0) hc (by decide)
  rw [left, removeFlowsOf_putClient, entry]
  rfl

theorem exec_clientDetach_here (h : requestTaken (lenIs 6) x s) (hw : txWaits s = true)
    (he : entryOf s (addrAt 0 (submitArgs x)) i c) (hr : c.role = .served ∨ c.role = .handing ∨ c.role = .expecting) :
    exec (.clientDetach x) s = .next (drainSettle (detachedState x s i c)) := by
  rw [exec_clientDetach h, runClientDetach_here (s := s.setMl (mlPending 3 x s)) he.1 hr, detached_eq he.2 hr,
    wake_waits (by simpa [txWaits, detachedState] using hw)]

/-- What the settling of a drain leaves as it was, whichever way it ends. -/
theorem drainSettle_control (u : State) : (drainSettle u).bu = { u.bu with control := (drainSettle u).bu.control } := by
  obtain ⟨l, q, -, hfill⟩ := offerFill_offered (acDrained u)
  rw [drainSettle, hfill]
  simp [State.setBu, State.setRc]

/-- With no client served a drain ends, and nothing is offered (R163). -/
theorem drainSettle_ends {u : State} (hd : acDraining u = true) (h0 : servedCount u = 0) :
    drainSettle u = enterLeaving false u := by
  have drained : acDrained u = enterLeaving false u := if_pos (by rw [hd, h0]; rfl)
  rw [drainSettle, drained, offerFill_idle]
  rw [enterLeaving_draining false hd]
  rfl

theorem drainSettle_goes_on {u : State} (h0 : servedCount u ≠ 0) : drainSettle u = offerFill u := by
  rw [drainSettle, acDrained_calm (.inr h0)]

theorem drainSettle_clients (u : State) : (drainSettle u).rc.clients = u.rc.clients := by simp
theorem drainSettle_fc (u : State) : (drainSettle u).fc = u.fc := by simp

theorem servedCount_drainSettle (u : State) : servedCount (drainSettle u) = servedCount u := by
  simp [servedCount]

end

/-! ## Both requests and a READY transmitter -/

/-- CLIENT ATTACH but for the transmitter's look at what waits. -/
def attachWork (d : List Byte) (s : State) : State :=
  if isGroup (addrAt 0 d) then complete .badField [] s
  else if (optProfile (field 6 1 d)).any (fun p => decide (15 < p)) then complete .outOfRange [] s
  else
    match findClient s (addrAt 0 d) with
    | some (i, c) => offerFill (attachAt i (optProfile (field 6 1 d)) { c with tenure := nextNonzero c.tenure } s)
    | none =>
      match makeRoom [.departed, .orphan, .remote] s with
      | some (i, t) =>
        offerFill (attachAt i (optProfile (field 6 1 d)) (newClient t (addrAt 0 d) .served t.sl.params.node 1) t)
      | none => complete .tableFull [] s

/-- CLIENT DETACH but for the transmitter's look at what waits. -/
def detachWork (d : List Byte) (s : State) : State :=
  match findClient s (addrAt 0 d) with
  | none => complete .notFound [] s
  | some (i, c) =>
    match c.role with
    | .served | .handing | .expecting =>
      drainSettle (complete .ok [] (removeFlowsOf i (toRole i .departed (setServing 0) s)))
    | .remote | .claiming | .orphan | .departed => complete .wrongState [] s

/-- A request refused gives the transmitter nothing to take. -/
theorem wake_refused {s : State} (h : NothingToTake s) (o : ReqOutcome) :
    complete o [] s = wake (complete o [] s) := by
  have nothing : NothingToTake (complete o [] s) := h.of_eq rfl rfl
  exact (wake_nothing nothing).symm

theorem runClientAttach_wakes (d : List Byte) {s : State} (h : NothingToTake s) :
    runClientAttach d s = wake (attachWork d s) := by
  by_cases hg : isGroup (addrAt 0 d) = true
  · simp only [runClientAttach, attachWork, if_pos hg]
    exact wake_refused h _
  · by_cases hp : (optProfile (field 6 1 d)).any (fun p => decide (15 < p)) = true
    · simp only [runClientAttach, attachWork, if_neg hg, if_pos hp]
      exact wake_refused h _
    · simp only [runClientAttach, attachWork, if_neg hg, if_neg hp]
      cases findClient s (addrAt 0 d) with
      | some p => rfl
      | none =>
        cases makeRoom [.departed, .orphan, .remote] s with
        | some p => rfl
        | none => exact wake_refused h _

theorem runClientDetach_wakes (d : List Byte) {s : State} (h : NothingToTake s) :
    runClientDetach d s = wake (detachWork d s) := by
  unfold runClientDetach detachWork
  cases findClient s (addrAt 0 d) with
  | none => exact wake_refused h _
  | some p =>
    obtain ⟨i, c⟩ := p
    dsimp only
    cases c.role with
    | served | handing | expecting => rfl
    | remote | claiming | orphan | departed => exact wake_refused h _

theorem attachWork_sending (d : List Byte) (o : Option TxFrame) (s : State) :
    attachWork d (sending o s) = sending o (attachWork d s) := by
  unfold attachWork
  rw [makeRoom_sending, show findClient (sending o s) (addrAt 0 d) = findClient s (addrAt 0 d) from rfl]
  split
  · rfl
  · split
    · rfl
    · split
      · rw [attachAt_sending, offerFill_sending]
      · cases makeRoom [.departed, .orphan, .remote] s with
        | none => rfl
        | some r =>
          show offerFill (attachAt r.1 _ _ (sending o r.2)) = _
          rw [attachAt_sending, offerFill_sending]
          rfl

theorem detachWork_sending (d : List Byte) (o : Option TxFrame) (s : State) :
    detachWork d (sending o s) = sending o (detachWork d s) := by
  have here (i : Nat) : drainSettle (complete .ok [] (removeFlowsOf i (toRole i .departed (setServing 0) (sending o s)))) =
      sending o (drainSettle (complete .ok [] (removeFlowsOf i (toRole i .departed (setServing 0) s)))) := by
    rw [toRole_sending, removeFlowsOf_sending, complete_sending, drainSettle_sending]
  unfold detachWork
  rw [show findClient (sending o s) (addrAt 0 d) = findClient s (addrAt 0 d) from rfl]
  split
  · rfl
  · split
    case h_1 | h_2 | h_3 => exact here _
    all_goals rfl

theorem attachWork_frame (d : List Byte) (s : State) : (attachWork d s).now = s.now ∧ (attachWork d s).pins = s.pins := by
  unfold attachWork
  split
  · exact ⟨rfl, rfl⟩
  · split
    · exact ⟨rfl, rfl⟩
    · split
      · simp
      · split
        · rename_i hroom
          obtain rfl | rfl := makeRoom_frame hroom <;> simp
        · exact ⟨rfl, rfl⟩

theorem detachWork_frame (d : List Byte) (s : State) : (detachWork d s).now = s.now ∧ (detachWork d s).pins = s.pins := by
  unfold detachWork
  split
  · exact ⟨rfl, rfl⟩
  · split <;> simp

/-- Either request in a part whose READY transmitter has nothing to take. -/
theorem attachOrDetach_ready {c : Instr} {x : Submit} {s : State} {fr : TxFrame}
    (hc : c = .clientAttach x ∨ c = .clientDetach x) (ht : s.es.backhaulTx = none) (ha : alive s = true)
    (hfr : fr.ends = s.now) (h : NothingToTake s) :
    ∃ t, exec c (sending (some fr) s) = .next t ∧ exec c s = exec .backhaulTxDone t := by
  rcases hc with rfl | rfl
  · exact request_ready (W := attachWork) (fun _ => rfl) (fun d _ hu => runClientAttach_wakes d hu)
      attachWork_sending attachWork_frame ht ha hfr h
  · exact request_ready (W := detachWork) (fun _ => rfl) (fun d _ hu => runClientDetach_wakes d hu)
      detachWork_sending detachWork_frame ht ha hfr h

/-- Settles O56: the attach by what is found and what room there is, the detach by the entry's role and the drain, then the READY
transmitter. -/
theorem attachAndDetachMoveClients : Obligations.AttachAndDetachMoveClients := by
  refine ⟨fun x s ht hw => ?_, fun x s ht hw => ?_, fun c x s hc hl hb hp hq hk => ?_⟩
  · intro a p rank given gone evicted taken fresh
    have attaches (i : Nat) (c : Client) (tenure : BitVec 16) (r : Rc) (f : Fc)
        (hr : ∀ j, j ≠ i → tabGet r.clients j = clientAt s j) :
        taken i c tenure ((s.setRc r).setFc f) (attachedState x s r f i p tenure c) := by
      have hstate := attachedState_eq (x := x) (r := r) (f := f) (i := i) (attachedHere s p tenure c) rfl
      refine ⟨judged (blockCause s (attachedHere s p tenure c)) (attachedHere s p tenure c), ?_, ⟨rfl, ?_⟩, fun j hj => ?_,
        attachedState_calm, fun _ => attachedState_arrived, ?_⟩
      · rw [hstate]
        exact tabGet_tabSet_self _ i _
      · rw [withoutFlows_eq, judgedMl_eq] at hstate
        exact hstate
      · rw [hstate]
        exact (tabGet_tabSet_ne _ _ hj).trans (hr j hj)
      · rw [hstate]
        exact judgedMl_result _ _ _ _
    refine ⟨fun hg => ?_, fun hg h15 hn => ?_, fun i c hq he => ?_, fun i hq hg hf hroom => ?_,
      fun hq hg hf hroom hs => ⟨fun hall => ?_, fun i c hc hr hfirst => ?_⟩⟩
    · rw [exec_clientAttach ht, runClientAttach_badField hg]
      rfl
    · rw [exec_clientAttach ht, runClientAttach_outOfRange hg h15 hn]
      rfl
    · exact ⟨_, exec_attach_found ht hw hq he.1, attaches i c _ s.rc s.fc fun _ _ => rfl⟩
    · exact ⟨_, exec_attach_new ht hw hq hg hf (makeRoom_free hroom), attaches i _ _ s.rc s.fc fun _ _ => rfl⟩
    · rw [exec_clientAttach ht, runClientAttach_full (s := s.setMl (mlPending 2 x s)) hq hg hf
        (makeRoom_full hroom (victimOf_attach_none hs hall))]
      rfl
    · have victim := makeRoom_victim (s := attaching x s s.rc s.fc) hroom (victimOf_attach_some hs hc hr hfirst)
      rw [removeClient_attaching (tabGet_of_mem hs hc), withoutFlows_eq] at victim
      exact ⟨_, exec_attach_new ht hw hq hg hf victim,
        attaches i _ _ (evictedRc i s.rc) (gone i s.fc) fun j hj => tabGet_tabErase_ne _ hj⟩
  · refine ⟨fun hf => ?_, fun i c he hr => ?_, fun i c he hr => ?_⟩
    · rw [exec_clientDetach ht, runClientDetach_unknown (s := s.setMl (mlPending 3 x s)) hf]
      rfl
    · rw [exec_clientDetach ht, runClientDetach_elsewhere (s := s.setMl (mlPending 3 x s)) he.1 hr]
      rfl
    · refine ⟨_, exec_clientDetach_here ht hw he hr, ?_, fun j hj => ?_, ?_, by simp [detachedState], by simp [detachedState],
        by simp [detachedState], by simp [detachedState], drainSettle_control _, fun hd h0 => ?_, fun hd h0 => ?_, fun hd => ?_⟩
      · rw [clientAt, drainSettle_clients]
        exact tabGet_tabSet_self _ i _
      · rw [clientAt, drainSettle_clients]
        exact tabGet_tabSet_ne _ _ hj
      · rw [drainSettle_fc]
        exact withoutFlows_eq i s.now s.fc
      · rw [servedCount_drainSettle] at h0
        rw [drainSettle_ends (u := detachedState x s i c) hd h0, enterLeaving_draining (s := detachedState x s i c) false hd, h0]
        exact ⟨rfl, rfl, rfl, rfl, rfl⟩
      · rw [servedCount_drainSettle] at h0
        rw [drainSettle_goes_on h0]
        simp [detachedState]
      · rw [drainSettle_idle (s := detachedState x s i c) hd]
        exact ⟨rfl, rfl, rfl⟩
  · obtain ⟨ha, -⟩ := live_iff.1 hl
    exact attachOrDetach_ready hc hb ha rfl ⟨hq, fun k => classFound_eq_false.2 (hk k)⟩

end Sys2Proof.Machine
end
section
/-! SUPPORT. A DATA item's work apart from what the transmitters take after it (R35, R38, R39). -/

namespace Sys2Proof.Machine

/-! ## The work and the choices that follow it -/

/-- The item classified, with what a GAME flow created does to the AC (R69, R80, R159). -/
def classifyItem (it : NodeItem) (s : State) : State × Class × Option Nat :=
  let r := classify (itemSubject it) (itemSubjectDest it) it.bytes s
  (if r.1.fc.gameCount = s.fc.gameCount then r.1 else acConditions r.1, r.2.1, r.2.2)

/-- A classified item resolved and offered, and whether a queue admitted its frame (R38, R39, R102). -/
def resolveItem (it : NodeItem) (cls : Class) (flow : Option Nat) (s : State) : State × Bool :=
  let a := touchSubject (itemSubject it) s
  let d := itemDest it a
  if d = .nowhere ∧ ¬ itemToClient it then (noUplink a, false)
  else
    let r := offerFrame d cls false it.bytes a
    (if r.2 then markActive (itemSubject it) (countFlow flow it.bytes.length r.1) else r.1, r.2)

/-- What an item does before a transmitter looks for something to take, and whether a queue admitted its frame (R35). -/
def itemWork (it : NodeItem) (s : State) : State × Bool :=
  if running s && dataItemOk it then
    let a := itemSample it s
    if isBlocked (itemSubject it) a then (a, false)
    else
      let r := classifyItem it a
      resolveItem it r.2.1 r.2.2 r.1
  else (s, false)

/-- Both transmitters look for something to take once a frame was admitted. -/
def pumpWhen (r : State × Bool) : State := if r.2 then nodePump (wake r.1) else r.1

theorem forward_eq (it : NodeItem) (cls : Class) (flow : Option Nat) (s : State) :
    forward it cls flow s = pumpWhen (resolveItem it cls flow s) := by
  unfold forward resolveItem pumpWhen
  dsimp only
  split
  · rfl
  · split <;> rfl

theorem exec_nodePortData (it : NodeItem) {s : State} (ha : alive s = true) :
    exec (.nodePortData it) s = .next (pumpWhen (itemWork it s)) := by
  show execNodePortData it s = _
  rw [execNodePortData, taken_alive ha]
  unfold itemWork takeItem
  dsimp only
  split
  · split
    · rfl
    · rw [forward_eq]
      rfl
  · rfl

/-! ## A new flow (R73, R80) -/

/-- The rule result is GAME and the client holds its limit of GAME flows (R80). -/
def tooManyGames (c : Client) (r : Class) (s : State) : Bool := r == .game && decide (s.sl.params.gmax ≤ c.games)

/-- The class of a new flow (R80). -/
def newClass (c : Client) (r : Class) (s : State) : Class := if tooManyGames c r s then .standard else r

/-- A new flow of client i (R73). -/
def newFlow (i : Nat) (c : Client) (k : FlowKey) (r : Class) (s : State) : Flow :=
  { key := k, cls := newClass c r s, demoted := tooManyGames c r s, client := i, bytes := 0, lastSeen := s.now }

theorem createFlow_game {i : Nat} {c : Client} (j : Nat) (k : FlowKey) {r : Class} {s : State}
    (h : newClass c r s = .game) : createFlow i c j k r s =
      (modClient i (fun x => { x with games := x.games + 1 })
        (s.setFc { s.fc with
          flows := tabSet s.fc.flows j (newFlow i c k r s), gameCount := s.fc.gameCount + 1, quietSince := none }),
        .game) := by
  have made : createFlow i c j k r s = _ := if_pos (beq_iff_eq.2 h)
  rw [made]
  exact congrArg (Prod.mk _) h

theorem createFlow_other (i : Nat) {c : Client} (j : Nat) (k : FlowKey) {r : Class} {s : State}
    (h : newClass c r s ≠ .game) : createFlow i c j k r s =
      (s.setFc { s.fc with flows := tabSet s.fc.flows j (newFlow i c k r s) }, newClass c r s) :=
  if_neg (mt beq_iff_eq.1 h)

/-! ## The transmitters are left out of account -/

/-- The state in which the two transmitters send these frames, or nothing. -/
def lines (o n : Option TxFrame) (s : State) : State := s.setEs { s.es with backhaulTx := o, nodeTx := n }

section
variable {o n : Option TxFrame}

theorem lines_self (s : State) : lines s.es.backhaulTx s.es.nodeTx s = s := rfl

theorem modClient_lines (i : Nat) (f : Client → Client) (s : State) :
    modClient i f (lines o n s) = lines o n (modClient i f s) := by
  unfold modClient
  rw [show clientAt (lines o n s) i = clientAt s i from rfl]
  split <;> rfl

theorem itemSample_lines (it : NodeItem) (s : State) : itemSample it (lines o n s) = lines o n (itemSample it s) := by
  unfold itemSample takeSample
  rw [show findClient (lines o n s) (itemSubject it) = findClient s (itemSubject it) from rfl]
  (repeat' split) <;> rfl

theorem acConditions_lines (s : State) : acConditions (lines o n s) = lines o n (acConditions s) := by
  have moved (a : AcState) : acTo a (lines o n s) = lines o n (acTo a s) := by
    unfold acTo
    rw [show acDraining (lines o n s) = acDraining s from rfl]
    dsimp only
    split <;> rfl
  unfold acConditions
  rw [show (lines o n s).ac.state = s.ac.state from rfl, show activationOk (lines o n s) = activationOk s from rfl,
    moved, moved]
  (repeat' split) <;> rfl

theorem createFlow_lines (i : Nat) (c : Client) (j : Nat) (k : FlowKey) (r : Class) (s : State) :
    createFlow i c j k r (lines o n s) = (lines o n (createFlow i c j k r s).1, (createFlow i c j k r s).2) := by
  by_cases h : newClass c r s = .game
  · rw [createFlow_game j k h, createFlow_game (s := lines o n s) j k h]
    exact congrArg (·, Class.game) (modClient_lines i _ (s.setFc _))
  · rw [createFlow_other i j k h, createFlow_other (s := lines o n s) i j k h]
    rfl

theorem flowMiss_lines (k : FlowKey) (f : FrameInfo) (s : State) :
    flowMiss k f (lines o n s) = (lines o n (flowMiss k f s).1, (flowMiss k f s).2) := by
  unfold flowMiss
  rw [show findClient (lines o n s) k.subject = findClient s k.subject from rfl, show (lines o n s).fc = s.fc from rfl]
  simp only [createFlow_lines]
  split
  · split <;> rfl
  · rfl

theorem classify_lines (a : Addr) (b : Bool) (frame : List Byte) (s : State) :
    classify a b frame (lines o n s) = (lines o n (classify a b frame s).1, (classify a b frame s).2) := by
  have found (k : FlowKey) : findFlow (lines o n s) k = findFlow s k := rfl
  unfold classify
  simp only [found, flowMiss_lines]
  (repeat' split) <;> rfl

theorem classifyItem_lines (it : NodeItem) (s : State) :
    classifyItem it (lines o n s) = (lines o n (classifyItem it s).1, (classifyItem it s).2) := by
  unfold classifyItem
  dsimp only
  rw [classify_lines, acConditions_lines]
  exact Prod.ext (apply_ite (lines o n) _ _ _).symm rfl

/-- An admission goes by the queues and the free cells (R102). -/
theorem admitFrame_lines (p : Params) (q : QName) (x : QEntry) (e : Es) :
    admitFrame p q x { e with backhaulTx := o, nodeTx := n } =
      ({ (admitFrame p q x e).1 with backhaulTx := o, nodeTx := n }, (admitFrame p q x e).2) := by
  have tail (q : QName) : admitTail (limitOf p q) q x { e with backhaulTx := o, nodeTx := n } =
      ({ (admitTail (limitOf p q) q x e).1 with backhaulTx := o, nodeTx := n }, (admitTail (limitOf p q) q x e).2) := by
    unfold admitTail
    rw [show ({ e with backhaulTx := o, nodeTx := n } : Es).queue q = e.queue q by cases q <;> rfl]
    dsimp only
    by_cases h : fits (limitOf p q) (e.queue q) e.free x.cells = true
    · rw [if_pos h, if_pos h]
      cases q <;> rfl
    · rw [if_neg h, if_neg h]
  cases q with
  | game =>
    simp only [admitFrame, admitGame]
    split <;> rfl
  | standard => exact tail .standard
  | bulk => exact tail .bulk
  | update => exact tail .update
  | node => exact tail .node

theorem offer_lines (q : QName) (x : QEntry) (s : State) :
    offer q x (lines o n s) = (lines o n (offer q x s).1, (offer q x s).2) := by
  unfold offer
  rw [show running (lines o n s) = running s from rfl]
  split
  · exact congrArg (fun r : Es × Bool => (s.setEs r.1, r.2)) (admitFrame_lines (o := o) (n := n) s.sl.params q x s.es)
  · rfl

theorem offerFrame_lines (d : Dest) (cls : Class) (b : Bool) (frame : List Byte) (s : State) :
    offerFrame d cls b frame (lines o n s) = (lines o n (offerFrame d cls b frame s).1, (offerFrame d cls b frame s).2) := by
  cases d with
  | nodeSide c => exact offer_lines _ _ s
  | peer m =>
    simp only [offerFrame, offerClass, offer_lines]
    split <;> rfl
  | nowhere => rfl

theorem countFlow_lines (j : Option Nat) (len : Nat) (s : State) :
    countFlow j len (lines o n s) = lines o n (countFlow j len s) := by
  unfold countFlow
  rw [show (lines o n s).fc = s.fc from rfl]
  (repeat' split) <;> rfl

theorem markActive_lines (a : Addr) (s : State) : markActive a (lines o n s) = lines o n (markActive a s) := by
  unfold markActive
  rw [show findClient (lines o n s) a = findClient s a from rfl]
  (repeat' split) <;> rfl

theorem touchSubject_lines (a : Addr) (s : State) : touchSubject a (lines o n s) = lines o n (touchSubject a s) := by
  unfold touchSubject
  rw [show findClient (lines o n s) a = findClient s a from rfl]
  split
  · exact modClient_lines _ _ s
  · rfl

theorem noUplink_lines (s : State) : noUplink (lines o n s) = lines o n (noUplink s) := by
  unfold noUplink
  rw [show (lines o n s).rc = s.rc from rfl]
  split <;> rfl

theorem resolveItem_lines (it : NodeItem) (cls : Class) (flow : Option Nat) (s : State) :
    resolveItem it cls flow (lines o n s) = (lines o n (resolveItem it cls flow s).1, (resolveItem it cls flow s).2) := by
  have dest (t : State) : itemDest it (lines o n t) = itemDest it t := rfl
  unfold resolveItem
  dsimp only
  rw [touchSubject_lines, dest, noUplink_lines, offerFrame_lines]
  dsimp only
  rw [countFlow_lines, markActive_lines]
  split
  · rfl
  · exact Prod.ext (apply_ite (lines o n) _ _ _).symm rfl

/-- What the transmitters send has no part in an item's work. -/
theorem itemWork_lines (it : NodeItem) (s : State) :
    itemWork it (lines o n s) = (lines o n (itemWork it s).1, (itemWork it s).2) := by
  have blocked (t : State) : isBlocked (itemSubject it) (lines o n t) = isBlocked (itemSubject it) t := rfl
  unfold itemWork
  rw [show running (lines o n s) = running s from rfl]
  dsimp only
  rw [itemSample_lines, blocked, classifyItem_lines, resolveItem_lines]
  (repeat' split) <;> rfl

end

/-- An item's work leaves what is being sent as it is. -/
theorem itemWork_tx (it : NodeItem) (s : State) : (itemWork it s).1.es.backhaulTx = s.es.backhaulTx ∧
    (itemWork it s).1.es.nodeTx = s.es.nodeTx := by
  have h := congrArg Prod.fst (itemWork_lines (o := s.es.backhaulTx) (n := s.es.nodeTx) it s)
  rw [lines_self] at h
  rw [h]
  exact ⟨rfl, rfl⟩

end Sys2Proof.Machine
end
section
/-! SUPPORT. A READY transmitter during a DATA item: the item acts as while a frame was being sent, and then the transmitter
takes what the item left (R106, R107, R112). -/

namespace Sys2Proof.Machine

/-! ## What an item's work leaves of the transmitters' side -/

theorem offerFrame_pause (d : Dest) (cls : Class) (b : Bool) (frame : List Byte) (s : State) :
    (offerFrame d cls b frame s).1.es.pause = s.es.pause := by
  have offered (q : QName) (x : QEntry) : (offer q x s).1.es.pause = s.es.pause := by
    unfold offer
    split
    · exact (admitFrame_tx _ _ _ _).2.2
    · rfl
  cases d with
  | nodeSide c => exact offered _ _
  | peer m =>
    simp only [offerFrame, offerClass]
    split <;> exact offered _ _
  | nowhere => rfl

@[simp] theorem classifyItem_frame (it : NodeItem) (s : State) :
    (classifyItem it s).1.bu = s.bu ∧ (classifyItem it s).1.sl = s.sl ∧ (classifyItem it s).1.pins = s.pins ∧
      (classifyItem it s).1.now = s.now ∧ (classifyItem it s).1.es = s.es := by
  unfold classifyItem
  dsimp only
  split <;> simp

@[simp] theorem resolveItem_frame (it : NodeItem) (cls : Class) (flow : Option Nat) (s : State) :
    (resolveItem it cls flow s).1.bu = s.bu ∧ (resolveItem it cls flow s).1.sl = s.sl ∧
      (resolveItem it cls flow s).1.pins = s.pins ∧ (resolveItem it cls flow s).1.now = s.now ∧
      (resolveItem it cls flow s).1.es.pause = s.es.pause := by
  unfold resolveItem
  dsimp only
  split
  · simp
  · split <;> simp [offerFrame_pause]

theorem itemWork_frame (it : NodeItem) (s : State) :
    (itemWork it s).1.bu = s.bu ∧ (itemWork it s).1.sl = s.sl ∧ (itemWork it s).1.pins = s.pins ∧
      (itemWork it s).1.now = s.now ∧ (itemWork it s).1.es.pause = s.es.pause := by
  unfold itemWork
  dsimp only
  split
  · split <;> simp
  · simp

/-! ## An offer that is refused -/

/-- Entries may have left the class queues; the NODE-SIDE queue is as it was (R104). -/
structure Shrunk (e f : Es) : Prop where
  node : f.node = e.node
  classes : ∀ c, classFound e c = false → classFound f c = false

theorem Shrunk.refl (e : Es) : Shrunk e e := ⟨rfl, fun _ h => h⟩

/-- What the GAME head drop takes out is all that a refused offer changes (R104). -/
theorem admitFrame_refused {p : Params} {q : QName} {x : QEntry} {e : Es} (h : (admitFrame p q x e).2 = false) :
    Shrunk e (admitFrame p q x e).1 := by
  by_cases hf : fits (limitOf p q) (e.queue q) e.free x.cells = true
  · rw [admitFrame_fits hf] at h
    cases h
  · by_cases hq : q = .game
    · subst hq
      obtain ⟨l, n, hd⟩ : ∃ l n, headDrop (limitOf p .game) x.cells e.game e.free = (l, n) := ⟨_, _, rfl⟩
      have drop : admitFrame p .game x e = _ := admitGame_of_headDrop hd
      rw [drop] at h ⊢
      split at h
      · cases h
      · rw [if_neg ‹_›]
        refine ⟨rfl, fun c hc => ?_⟩
        cases c with
        | game =>
          refine classFound_eq_false.2 ((classFound_eq_false.1 hc).imp_left fun empty => ?_)
          have none : e.game = [] := empty
          rw [none] at hd
          exact (congrArg Prod.fst hd).symm
        | standard | bulk | update => exact hc
    · rw [admitFrame_dropped (Bool.not_eq_true _ ▸ hf) hq]
      exact .refl e

theorem offerFrame_refused {d : Dest} {cls : Class} {b : Bool} {frame : List Byte} {s : State}
    (h : (offerFrame d cls b frame s).2 = false) : Shrunk s.es (offerFrame d cls b frame s).1.es := by
  have offered {q : QName} {x : QEntry} (h : (offer q x s).2 = false) : Shrunk s.es (offer q x s).1.es := by
    unfold offer at h ⊢
    split
    · rw [if_pos ‹_›] at h
      exact admitFrame_refused h
    · exact .refl _
  cases d with
  | nodeSide c => exact offered h
  | peer m =>
    have refused : (offer (queueName cls) (mkEntry frame.length cls (.carried m b frame)) s).2 = false := h
    simp only [offerFrame, offerClass, refused, Bool.false_eq_true, if_false]
    exact offered refused
  | nowhere => exact .refl _

theorem itemWork_refused {it : NodeItem} {s : State} (h : (itemWork it s).2 = false) :
    Shrunk s.es (itemWork it s).1.es := by
  have resolved {cls : Class} {flow : Option Nat} {t : State} (h : (resolveItem it cls flow t).2 = false) :
      Shrunk t.es (resolveItem it cls flow t).1.es := by
    unfold resolveItem at h ⊢
    dsimp only at h ⊢
    split
    · rw [show (noUplink (touchSubject (itemSubject it) t)).es = t.es by simp]
      exact .refl _
    · rw [if_neg ‹_›] at h
      rw [show (offerFrame _ cls false it.bytes _).2 = false from h, if_neg (by decide)]
      have refused := offerFrame_refused h
      rwa [(touchSubject_frame (itemSubject it) t).2.2.2.1] at refused
  have sampled : (itemSample it s).es = s.es := by simp
  unfold itemWork at h ⊢
  dsimp only at h ⊢
  split
  · rw [if_pos ‹_›] at h
    split
    · rw [sampled]
      exact .refl _
    · rw [if_neg ‹_›] at h
      have refused := resolved h
      rwa [(classifyItem_frame it _).2.2.2.2, sampled] at refused
  · exact .refl _

theorem itemWork_waits {it : NodeItem} {s : State} (h : txWaits s = true) : txWaits (itemWork it s).1 = true := by
  obtain ⟨-, -, -, -, pause⟩ := itemWork_frame it s
  rwa [txWaits, pause, (itemWork_tx it s).1]

/-- When there is nothing for a transmitter to take, it looks after an item whether the frame was admitted or not. -/
theorem pumpWhen_itemWork {it : NodeItem} {s : State} (hb : NothingToTake s ∨ txWaits s = true)
    (hn : s.es.node = [] ∨ s.es.nodeTx.isSome = true) : pumpWhen (itemWork it s) = nodePump (wake (itemWork it s).1) := by
  cases h : (itemWork it s).2 with
  | true => exact if_pos h
  | false =>
    have kept := itemWork_refused h
    have waked : wake (itemWork it s).1 = (itemWork it s).1 := by
      rcases hb with hb | hb
      · refine wake_nothing ⟨?_, fun c => kept.classes c (hb.classes c)⟩
        rw [(itemWork_frame it s).1]
        exact hb.control
      · exact wake_waits (itemWork_waits hb)
    have pumped : nodePump (itemWork it s).1 = (itemWork it s).1 := by
      rcases hn with hn | hn
      · exact nodePump_empty (kept.node.trans hn)
      · exact nodePump_busy (by rwa [(itemWork_tx it s).2])
    rw [waked, pumped]
    exact if_neg (by simp [h])

/-! ## The transmitters one by one -/

/-- With no bulletin waiting the backhaul transmitter's choice leaves the node port out of account (R107). -/
theorem wake_lines {s : State} (n : Option TxFrame) (h : s.bu.control = []) :
    wake (lines s.es.backhaulTx n s) = lines (wake s).es.backhaulTx n (wake s) := by
  have found : classFound (lines s.es.backhaulTx n s).es = classFound s.es := funext fun c => by cases c <;> rfl
  have chosen : chooseClass (lines s.es.backhaulTx n s).es = chooseClass s.es := by
    unfold chooseClass
    rw [found]
    rfl
  have sent (x : QEntry) (t : State) :
      sendEntry x (lines t.es.backhaulTx n t) = lines (sendEntry x t).es.backhaulTx n (sendEntry x t) := by
    unfold sendEntry
    split <;> rfl
  have taken (c : Class) :
      takeClass c (lines s.es.backhaulTx n s) = lines (takeClass c s).es.backhaulTx n (takeClass c s) := by
    have queue : (lines s.es.backhaulTx n s).es.queue (queueName c) = s.es.queue (queueName c) := by cases c <;> rfl
    unfold takeClass
    rw [queue]
    split
    · rw [← sent]
      cases c <;> rfl
    · rfl
  unfold wake
  rw [show backhaulReady (lines s.es.backhaulTx n s) = backhaulReady s from rfl, chosen,
    show (lines s.es.backhaulTx n s).bu.control = [] from h, h]
  dsimp only
  split
  · split
    · exact taken _
    · rfl
  · rfl

theorem wake_nodeTx {s : State} (h : s.bu.control = []) : (wake s).es.nodeTx = s.es.nodeTx := by
  have kept := wake_lines s.es.nodeTx h
  rw [lines_self] at kept
  rw [kept]
  rfl

/-- With both transmitters busy or held an item's work is all there is. -/
theorem exec_item_waits (it : NodeItem) {s : State} (ha : alive s = true) (hw : txWaits s = true)
    (hn : s.es.nodeTx.isSome = true) : exec (.nodePortData it) s = .next (itemWork it s).1 := by
  rw [exec_nodePortData it ha, pumpWhen_itemWork (.inr hw) (.inr hn), wake_waits (itemWork_waits hw),
    nodePump_busy (by rwa [(itemWork_tx it s).2])]

theorem exec_item_busy (it : NodeItem) {s : State} {o n : Option TxFrame} (ha : alive s = true)
    (hw : txWaits (lines o n s) = true) (hn : n.isSome = true) :
    exec (.nodePortData it) (lines o n s) = .next (lines o n (itemWork it s).1) := by
  rw [exec_item_waits it (s := lines o n s) ha hw hn, itemWork_lines]

/-- A frame that ends now. -/
def endsNow (s : State) : TxFrame := { bytes := [], ends := s.now }

theorem exec_backhaulTxDone_now {s t : State} {n : Option TxFrame} (ha : alive t = true) (hnow : t.now = s.now) :
    exec .backhaulTxDone (lines (some (endsNow s)) n t) = .next (wake (lines none n t)) := by
  have time : runTo s.now (lines (some (endsNow s)) n t) = lines (some (endsNow s)) n t :=
    if_neg (by simp [lines, State.setEs, hnow])
  rw [exec_backhaulTxDone (fr := endsNow s) (s := lines (some (endsNow s)) n t) ha rfl]
  show Host.Outcome.next (wake ((runTo s.now _).setEs _)) = _
  rw [time]
  rfl

theorem exec_nodePortTxDone_now {s t : State} (ha : alive t = true) (hnow : t.now = s.now)
    (ht : t.es.nodeTx = some (endsNow s)) :
    exec .nodePortTxDone t = .next (nodePump (lines t.es.backhaulTx none t)) := by
  have time : runTo s.now t = t := if_neg (by simp [hnow])
  rw [exec_nodePortTxDone (fr := endsNow s) ha ht]
  show Host.Outcome.next (nodePump ((runTo s.now _).setEs _)) = _
  rw [time]
  rfl

section
variable (it : NodeItem) {s : State} (ha : alive s = true)
include ha

theorem itemWork_alive : alive (itemWork it s).1 = true := by
  obtain ⟨-, -, pins, -, -⟩ := itemWork_frame it s
  simpa [alive, pins] using ha

theorem item_ready_backhaul (ht : s.es.backhaulTx = none) (h : NothingToTake s) (hn : s.es.nodeTx.isSome = true) :
    ∃ t, exec (.nodePortData it) (lines (some (endsNow s)) s.es.nodeTx s) = .next t ∧
      exec (.nodePortData it) s = exec .backhaulTxDone t := by
  obtain ⟨bu, -, -, now, -⟩ := itemWork_frame it s
  obtain ⟨txb, txn⟩ := itemWork_tx it s
  have self : lines none s.es.nodeTx (itemWork it s).1 = (itemWork it s).1 := by rw [← txn, ← ht, ← txb, lines_self]
  refine ⟨_, exec_item_busy it ha rfl hn, ?_⟩
  rw [exec_backhaulTxDone_now (itemWork_alive it ha) now, self, exec_nodePortData it ha,
    pumpWhen_itemWork (.inl h) (.inr hn), nodePump_busy]
  rwa [wake_nodeTx (by rw [bu]; exact h.control), txn]

theorem item_ready_nodePort (hn : s.es.nodeTx = none) (hq : s.es.node = []) (hw : txWaits s = true) :
    ∃ t, exec (.nodePortData it) (lines s.es.backhaulTx (some (endsNow s)) s) = .next t ∧
      exec (.nodePortData it) s = exec .nodePortTxDone t := by
  obtain ⟨-, -, -, now, -⟩ := itemWork_frame it s
  obtain ⟨txb, txn⟩ := itemWork_tx it s
  have self : lines s.es.backhaulTx none (itemWork it s).1 = (itemWork it s).1 := by rw [← txb, ← hn, ← txn, lines_self]
  refine ⟨_, exec_item_busy it ha hw rfl, ?_⟩
  rw [exec_nodePortTxDone_now (s := s) (t := lines s.es.backhaulTx (some (endsNow s)) (itemWork it s).1)
    (itemWork_alive it ha) now rfl, exec_nodePortData it ha,
    pumpWhen_itemWork (.inr hw) (.inl hq), wake_waits (itemWork_waits hw)]
  exact congrArg (fun t => Host.Outcome.next (nodePump t)) self.symm

theorem item_ready_both (ht : s.es.backhaulTx = none) (h : NothingToTake s) (hn : s.es.nodeTx = none)
    (hq : s.es.node = []) :
    ∃ t u, exec (.nodePortData it) (lines (some (endsNow s)) (some (endsNow s)) s) = .next t ∧
      exec .backhaulTxDone t = .next u ∧ exec (.nodePortData it) s = exec .nodePortTxDone u := by
  obtain ⟨bu, -, -, now, -⟩ := itemWork_frame it s
  obtain ⟨txb, txn⟩ := itemWork_tx it s
  have control : (itemWork it s).1.bu.control = [] := by rw [bu]; exact h.control
  have moved := wake_lines (some (endsNow s)) control
  have waked := wake_lines none control
  rw [txb, ht] at moved waked
  have self : lines none none (itemWork it s).1 = (itemWork it s).1 := by
    rw [← hn, ← txn]
    nth_rewrite 1 [txn, hn, ← ht, ← txb]
    rw [lines_self]
  refine ⟨_, _, exec_item_busy it ha rfl rfl, exec_backhaulTxDone_now (itemWork_alive it ha) now, ?_⟩
  have living : alive (wake (lines none (some (endsNow s)) (itemWork it s).1)) = true := by
    rw [← itemWork_alive it ha]
    simp [alive, lines, State.setEs]
  rw [exec_nodePortTxDone_now (s := s) living (by simp [lines, State.setEs, now]) (by rw [moved]; rfl), moved,
    exec_nodePortData it ha, pumpWhen_itemWork (.inl h) (.inl hq)]
  rw [self] at waked
  exact congrArg (fun t => Host.Outcome.next (nodePump t)) waked

end

end Sys2Proof.Machine
end
section
/-! SUPPORT. A classified DATA item is resolved and offered (R38, R39, R72, R78, R81, R102). -/

namespace Sys2Proof.Machine

/-! ## Destinations (R38, R39) -/

theorem clientDest_unknown {a : Addr} {s : State} (h : findClient s a = none) : clientDest s a = .nowhere := by
  simp only [clientDest, h]

theorem clientDest_found {a : Addr} {i : Nat} {c : Client} {s : State} (h : findClient s a = some (i, c)) :
    clientDest s a = if c.role = .served ∨ c.role = .handing then .nodeSide true
      else if c.role = .orphan ∨ c.role = .departed then .nowhere else .peer c.serving := by
  simp only [clientDest, h]
  cases c.role <;> rfl

theorem hasUplink_iff (s : State) (n : Nat) : hasUplink s n = true ↔
    if n = s.sl.params.node then s.sl.params.uplink = true
    else ∃ p, peerOf s n = some p ∧ p.state = .present ∧ p.adv.uplink = true := by
  unfold hasUplink
  split
  · rfl
  · split <;> simp [*]

theorem uplinkDest_none {s : State} (h : ∀ n, 1 ≤ n → n ≤ 8 → hasUplink s n = false) : uplinkDest s = .nowhere := by
  have none : uplinkNode s = none := List.find?_eq_none.2 fun n hn => by
    obtain ⟨h1, h8⟩ := mem_nodes.1 hn
    simp [h n h1 h8]
  simp only [uplinkDest, none]

/-- The lowest-numbered node with the uplink (R39). -/
theorem uplinkNode_lowest {s : State} {n : Nat} (h1 : 1 ≤ n) (h8 : n ≤ 8) (hn : hasUplink s n = true)
    (hm : ∀ m, 1 ≤ m → m < n → hasUplink s m = false) : uplinkNode s = some n := by
  have split : nodes = List.range' 1 (n - 1) ++ n :: List.range' (n + 1) (8 - n) := by
    interval_cases n <;> rfl
  refine List.find?_eq_some_iff_append.2 ⟨hn, _, _, split, fun m hmem => ?_⟩
  have range := List.mem_range'_1.1 hmem
  simp [hm m range.1 (by omega)]

theorem uplinkDest_lowest {s : State} {n : Nat} (h1 : 1 ≤ n) (h8 : n ≤ 8) (hn : hasUplink s n = true)
    (hm : ∀ m, 1 ≤ m → m < n → hasUplink s m = false) :
    uplinkDest s = if n = s.sl.params.node then .nodeSide false else .peer n := by
  simp only [uplinkDest, uplinkNode_lowest h1 h8 hn hm]

/-- What an item's destination goes by of its subject's entry: whether there is one, its role and its serving node. -/
theorem itemDest_congr {it : NodeItem} {s t : State} (hb : t.bu = s.bu) (hs : t.sl = s.sl)
    (h : (findClient t (itemSubject it)).map (fun p => (p.2.role, p.2.serving)) =
      (findClient s (itemSubject it)).map (fun p => (p.2.role, p.2.serving))) : itemDest it t = itemDest it s := by
  have up : uplinkDest t = uplinkDest s := by
    have each : hasUplink t = hasUplink s := by
      funext n
      simp only [hasUplink, peerOf, hb, hs]
    simp only [uplinkDest, uplinkNode, each, hs]
  have down : clientDest t (itemSubject it) = clientDest s (itemSubject it) := by
    cases hf : findClient s (itemSubject it) with
    | none =>
      rw [hf] at h
      rw [clientDest_unknown hf, clientDest_unknown (Option.map_eq_none_iff.1 h)]
    | some p =>
      obtain ⟨i, c⟩ := p
      rw [hf] at h
      obtain ⟨⟨j, d⟩, hd, heq⟩ := Option.map_eq_some_iff.1 h
      obtain ⟨role, serving⟩ := Prod.mk.inj heq
      dsimp only at role serving
      rw [clientDest_found hf, clientDest_found hd, role, serving]
  unfold itemDest
  rw [up, down]

/-! ## The offer (R81, R102) -/

/-- The queues after a frame was offered where it goes, and whether it was admitted. -/
def offeredTo (d : Dest) (cls : Class) (frame : List Byte) (p : Params) (e : Es) : Es × Bool :=
  match d with
  | .nodeSide b => admitFrame p .node (mkEntry frame.length cls (.nodeSide b frame)) e
  | .peer n => admitFrame p (queueName cls) (mkEntry frame.length cls (.carried n false frame)) e
  | .nowhere => (e, false)

/-- The arrivals after that: an admission to a class queue counts. -/
def arrivalsAfter (d : Dest) (cls : Class) (len : Nat) (admitted : Bool) (q : Quad) : Quad :=
  match d with
  | .peer _ => if admitted then q.put cls (min (q.at cls + len) 16777215) else q
  | _ => q

theorem offerFrame_running {s : State} (h : running s = true) (d : Dest) (cls : Class) (frame : List Byte) :
    offerFrame d cls false frame s =
      (let r := offeredTo d cls frame s.sl.params s.es
       ({ s with es := r.1
                 fc := { s.fc with arrivals := arrivalsAfter d cls frame.length r.2 s.fc.arrivals } }, r.2)) := by
  cases d with
  | nodeSide b => exact offer_running h
  | peer n =>
    refine (offerClass_running h).trans ?_
    cases hr : (offeredTo (.peer n) cls frame s.sl.params s.es).2 with
    | true =>
      have ok : (admitFrame s.sl.params (queueName cls) (mkEntry frame.length cls (.carried n false frame)) s.es).2 =
        true := hr
      simp only [offeredTo, arrivalsAfter, ok, if_true]
      rfl
    | false =>
      have ok : (admitFrame s.sl.params (queueName cls) (mkEntry frame.length cls (.carried n false frame)) s.es).2 =
        false := hr
      simp only [offeredTo, arrivalsAfter, ok, Bool.false_eq_true, if_false]
  | nowhere => rfl

/-- The Flow Table after an admitted frame's length was added to its flow's bytes (R72). -/
def flowsCounted (flow : Option Nat) (len : Nat) (t : Table Flow) : Table Flow :=
  match flow with
  | some i =>
    match tabGet t i with
    | some fl => tabSet t i { fl with bytes := min (fl.bytes + len) 16777215 }
    | none => t
  | none => t

theorem countFlow_eq (flow : Option Nat) (len : Nat) (s : State) :
    countFlow flow len s = s.setFc { s.fc with flows := flowsCounted flow len s.fc.flows } := by
  unfold countFlow flowsCounted
  cases flow with
  | none => rfl
  | some i =>
    dsimp only
    cases h : tabGet s.fc.flows i <;> rfl

theorem flowsCounted_tabSet (i len : Nat) (t : Table Flow) (fl : Flow) : flowsCounted (some i) len (tabSet t i fl) =
    tabSet t i { fl with bytes := min (fl.bytes + len) 16777215 } := by
  simp [flowsCounted, tabSet_tabSet]

/-- An admitted frame counts in the flow just written. -/
theorem flowsCounted_written (admitted : Bool) (i len : Nat) (t : Table Flow) (fl : Flow) :
    (if admitted then flowsCounted (some i) len (tabSet t i fl) else tabSet t i fl) =
      tabSet t i { fl with bytes := if admitted then min (fl.bytes + len) 16777215 else fl.bytes } := by
  rw [flowsCounted_tabSet]
  cases admitted <;> rfl

/-! ## The item resolved -/

/-- What becomes of an item's frame in the queues where it is sent. -/
def itemPut (it : NodeItem) (cls : Class) (s : State) : Es × Bool :=
  offeredTo (itemDest it s) cls it.bytes s.sl.params s.es

/-- An item for the uplink that no node has, while NO UPLINK may be raised (R39). -/
abbrev itemLost (it : NodeItem) (s : State) : Prop :=
  itemDest it s = .nowhere ∧ itemToClient it = false ∧ s.rc.noUplink = none

/-- The state with an item resolved and offered, its subject's entry as these clients have it. -/
def itemSent (it : NodeItem) (cls : Class) (flow : Option Nat) (clients : Table Client) (s : State) : State :=
  let put := itemPut it cls s
  { s with
    es := put.1
    fc := { s.fc with
      arrivals := arrivalsAfter (itemDest it s) cls it.bytes.length put.2 s.fc.arrivals
      flows := if put.2 then flowsCounted flow it.bytes.length s.fc.flows else s.fc.flows }
    rc := { s.rc with
      clients := clients
      noUplink := if itemLost it s then some (s.now + Config.noUplinkNs) else s.rc.noUplink }
    ml := if itemLost it s then offerEvent (stamp .noUplink s) s.ml else s.ml }

theorem noUplink_eq (s : State) : noUplink s = { s with
    rc := { s.rc with noUplink := if s.rc.noUplink = none then some (s.now + Config.noUplinkNs) else s.rc.noUplink }
    ml := if s.rc.noUplink = none then offerEvent (stamp .noUplink s) s.ml else s.ml } := by
  unfold noUplink
  cases h : s.rc.noUplink with
  | none => rfl
  | some d =>
    show s = { s with rc := { s.rc with noUplink := some d } }
    rw [← h]

section
variable {it : NodeItem} {cls : Class} {flow : Option Nat} {s : State} {clients : Table Client}

theorem itemSent_kept (h : ¬ itemLost it s) : itemSent it cls flow clients s = { s with
    es := (itemPut it cls s).1
    fc := { s.fc with
      arrivals := arrivalsAfter (itemDest it s) cls it.bytes.length (itemPut it cls s).2 s.fc.arrivals
      flows := if (itemPut it cls s).2 then flowsCounted flow it.bytes.length s.fc.flows else s.fc.flows }
    rc := { s.rc with clients := clients } } := by
  simp only [itemSent, if_neg h]

/-- An item whose subject's entry was touched, and is marked when its frame was admitted. -/
theorem resolveItem_eq (hr : running s = true) (ht : touchSubject (itemSubject it) s = setClients clients s)
    (hd : itemDest it (setClients clients s) = itemDest it s) : (resolveItem it cls flow s).1 =
      if (itemPut it cls s).2 then markActive (itemSubject it) (itemSent it cls flow clients s)
      else itemSent it cls flow clients s := by
  unfold resolveItem
  dsimp only
  rw [ht, hd]
  by_cases hw : itemDest it s = .nowhere ∧ ¬ itemToClient it = true
  · obtain ⟨hn, hc⟩ := hw
    have refused : itemPut it cls s = (s.es, false) := by rw [itemPut, hn]; rfl
    have lost : itemLost it s ↔ s.rc.noUplink = none := by simp [itemLost, hn, hc]
    rw [if_pos ⟨hn, hc⟩, refused, if_neg Bool.false_ne_true, noUplink_eq]
    simp only [itemSent, refused, hn, arrivalsAfter, lost, Bool.false_eq_true, if_false]
    rfl
  · have kept : ¬ itemLost it s := fun h => hw ⟨h.1, by simp [h.2.1]⟩
    rw [if_neg hw, offerFrame_running (s := setClients clients s) hr, countFlow_eq, itemSent_kept kept]
    simp only [show offeredTo (itemDest it s) cls it.bytes (setClients clients s).sl.params (setClients clients s).es =
      itemPut it cls s from rfl]
    cases ok : (itemPut it cls s).2 <;> rfl

theorem resolveItem_unknown (hr : running s = true) (h : findClient s (itemSubject it) = none) :
    (resolveItem it cls flow s).1 = itemSent it cls flow s.rc.clients s := by
  have touched : touchSubject (itemSubject it) s = s := by simp only [touchSubject, h]
  have marked : markActive (itemSubject it) (itemSent it cls flow s.rc.clients s) =
      itemSent it cls flow s.rc.clients s := by
    have none : findClient (itemSent it cls flow s.rc.clients s) (itemSubject it) = none := h
    simp only [markActive, none]
  rw [resolveItem_eq hr touched rfl, marked, ite_self]

theorem resolveItem_found {i : Nat} {c : Client} (hr : running s = true) (h : entryOf s (itemSubject it) i c) :
    (resolveItem it cls flow s).1 = itemSent it cls flow (tabSet s.rc.clients i { c with
      lastActivity := s.now, active := c.active || (isServing c.role && (itemPut it cls s).2) }) s := by
  obtain ⟨hf, hi⟩ := h
  have touched : touchSubject (itemSubject it) s =
      setClients (tabSet s.rc.clients i { c with lastActivity := s.now }) s := by
    simp only [touchSubject, hf]
    exact touch_some hi
  have found {t : State} (ht : t.rc.clients = tabSet s.rc.clients i { c with lastActivity := s.now }) :
      findClient t (itemSubject it) = some (i, { c with lastActivity := s.now }) := findClient_tabSet hf rfl ht
  have dest : itemDest it (setClients (tabSet s.rc.clients i { c with lastActivity := s.now }) s) = itemDest it s :=
    itemDest_congr rfl rfl (by rw [found rfl, hf]; rfl)
  rw [resolveItem_eq hr touched dest]
  cases hs : isServing c.role with
  | false =>
    have same : (c.active || (false && (itemPut it cls s).2)) = c.active := by simp
    rw [same]
    simp only [markActive, found (t := itemSent it cls flow _ s) rfl, hs, Bool.false_eq_true, if_false, ite_self]
  | true =>
    cases ok : (itemPut it cls s).2 with
    | false =>
      have same : (c.active || (true && false)) = c.active := by simp
      rw [same, if_neg (by decide)]
    | true =>
      rw [if_pos rfl, markActive_found (found (t := itemSent it cls flow _ s) rfl) hs, putClient, setClients]
      simp only [itemSent, State.setRc, tabSet_tabSet, Bool.and_self, Bool.or_true]

end

end Sys2Proof.Machine
end
section
/-! OBLIGATION O33. A DATA item is sampled, classified, and sent where it goes (R35 to R39, R69 to R81). -/

namespace Sys2Proof.Machine

/-! ## The sample of an item (R35, R36) -/

/-- The item without its sample. -/
def bareItem (it : NodeItem) : NodeItem := { it with flags := it.flags &&& 0xFB#8 }

theorem bareItem_flags (it : NodeItem) : itemToClient (bareItem it) = itemToClient it ∧
    itemSubjectDest (bareItem it) = itemSubjectDest it ∧ itemHasSample (bareItem it) = false := by
  simp [bareItem, itemToClient, itemSubjectDest, itemHasSample, bitOf]

theorem itemSample_bare (it : NodeItem) (s : State) : itemSample (bareItem it) s = s := by
  simp [itemSample, (bareItem_flags it).2.2]

/-- An item acts as the item without its sample on the state its sample leaves. -/
theorem itemWork_bare (it : NodeItem) (s : State) :
    pumpWhen (itemWork it s) =
      if running s && dataItemOk it then pumpWhen (itemWork (bareItem it) (itemSample it s)) else s := by
  obtain ⟨toClient, subjectDest, -⟩ := bareItem_flags it
  have bytes : (bareItem it).bytes = it.bytes := rfl
  have subject : itemSubject (bareItem it) = itemSubject it := by unfold itemSubject; rw [subjectDest, bytes]
  have ok : dataItemOk (bareItem it) = dataItemOk it := by unfold dataItemOk; rw [toClient]; rfl
  have classified (t : State) : classifyItem (bareItem it) t = classifyItem it t := by
    unfold classifyItem; rw [subject, subjectDest, bytes]
  have resolved (cls : Class) (flow : Option Nat) (t : State) :
      resolveItem (bareItem it) cls flow t = resolveItem it cls flow t := by
    unfold resolveItem itemDest; rw [subject, toClient, bytes]
  have runs : running (itemSample it s) = running s := by simp [running]
  cases h : running s && dataItemOk it with
  | false => simp [itemWork, h, pumpWhen]
  | true =>
    simp only [itemWork, itemSample_bare, runs, ok, h, subject, classified, resolved, if_true]

theorem itemSample_unknown {it : NodeItem} {s : State} (h : it.origin ≠ 0#8 ∨ findClient s (itemSubject it) = none) :
    itemSample it s = s := by
  unfold itemSample
  split
  · rename_i hs
    exact takeSample_unknown _ (h.resolve_left (not_not.2 (by simpa using (Bool.and_eq_true_iff.1 hs).2)))
  · rfl

theorem itemSample_found {it : NodeItem} {s : State} {i : Nat} {c : Client} (hs : itemHasSample it = true)
    (ho : it.origin = 0#8) (h : findClient s (itemSubject it) = some (i, c)) :
    itemSample it s = putClient i { c with
      average := some { value := averageAfter c.average (signed8 it.sample), since := s.now }
      lastActivity := s.now } s := by
  simp only [itemSample, hs, ho, beq_self_eq_true, Bool.and_self, if_true]
  exact takeSample_found _ h

theorem exec_item_sampled {it : NodeItem} {s : State} (hl : live s = true) (hi : dataItemOk it = true) :
    exec (.nodePortData it) s = exec (.nodePortData (bareItem it)) (itemSample it s) := by
  obtain ⟨ha, hr⟩ := live_iff.1 hl
  have living : alive (itemSample it s) = true := by simpa [alive] using ha
  rw [exec_nodePortData it ha, exec_nodePortData (bareItem it) living, itemWork_bare, hr, hi]
  rfl

/-! ## Classification (R69, R72 to R74) -/

/-- The state in which an item's classification has changed the Flow Table, the clients and the AC. -/
def classed (f : Fc) (a : Ac) (clients : Table Client) (s : State) : State :=
  { s with fc := f, ac := a, rc := { s.rc with clients := clients } }

/-- A GAME flow made for an entry of the Client Table. -/
theorem createFlow_counted {s : State} {i : Nat} {c : Client} (j : Nat) (k : FlowKey) {r : Class}
    (hc : clientAt s i = some c) (h : newClass c r s = .game) : createFlow i c j k r s =
      (classed { s.fc with
        flows := tabSet s.fc.flows j (newFlow i c k r s), gameCount := s.fc.gameCount + 1, quietSince := none }
        s.ac (tabSet s.rc.clients i { c with games := c.games + 1 }) s, .game) :=
  (createFlow_game j k h).trans (congrArg (·, Class.game) (modClient_some _ hc))

/-- WANTING ends where the game-quiet condition does not hold (R80, R159). -/
theorem acConditions_games {s : State} (h : s.fc.gameCount ≠ 0) : acConditions s = { s with
    ac := if s.ac.state = .wanting then { s.ac with state := .waiting, count := 0 } else s.ac } := by
  have failed : activationOk s = false := by simp [activationOk, condQuiet, h]
  by_cases hw : s.ac.state = .wanting
  · rw [acConditions_wanting hw, if_pos hw, failed]
    rfl
  · rw [if_neg hw]
    unfold acConditions
    split
    · rw [failed]
      rfl
    · exact absurd ‹_› hw
    · rfl

theorem flowKey_subject (a : Addr) (b : Bool) (f : FrameInfo) : (flowKey a b f).subject = a := by
  unfold flowKey
  split <;> rfl

theorem flowRole_iff (r : Role) : flowRole r = true ↔ r ≠ .orphan ∧ r ≠ .departed := by cases r <;> simp [flowRole]

section
variable {it : NodeItem} {s : State}

theorem classifyItem_quiet {r : State × Class × Option Nat}
    (h : classify (itemSubject it) (itemSubjectDest it) it.bytes s = r) (hg : r.1.fc.gameCount = s.fc.gameCount) :
    classifyItem it s = r := by
  rw [classifyItem, h]
  exact Prod.ext (if_pos hg) rfl

theorem classifyItem_game {r : State × Class × Option Nat}
    (h : classify (itemSubject it) (itemSubjectDest it) it.bytes s = r) (hg : r.1.fc.gameCount ≠ s.fc.gameCount) :
    classifyItem it s = (acConditions r.1, r.2) := by
  rw [classifyItem, h]
  exact Prod.ext (if_neg hg) rfl

theorem classifyItem_other (h : readFrame it.bytes = none) : classifyItem it s = (s, .standard, none) :=
  classifyItem_quiet (by simp only [classify, h]) rfl

variable {info : FrameInfo} (h : readFrame it.bytes = some info)
include h

theorem classifyItem_hit {j : Nat} {fl : Flow}
    (hf : findFlow s (flowKey (itemSubject it) (itemSubjectDest it) info) = some (j, fl)) :
    classifyItem it s = (classed { s.fc with flows := tabSet s.fc.flows j { fl with lastSeen := s.now } } s.ac
      s.rc.clients s, fl.cls, some j) :=
  classifyItem_quiet (by simp only [classify, h, hf]; rfl) rfl

variable (hf : findFlow s (flowKey (itemSubject it) (itemSubjectDest it) info) = none)
include hf

theorem classify_miss : classify (itemSubject it) (itemSubjectDest it) it.bytes s =
    flowMiss (flowKey (itemSubject it) (itemSubjectDest it) info) info s := by
  simp only [classify, h, hf]

/-- Without a flow of its own a GAME frame is STANDARD (R74). -/
theorem classifyItem_miss {profile : Option Nat}
    (hp : (findClient s (itemSubject it) = none ∧ profile = none) ∨
      ∃ i c, entryOf s (itemSubject it) i c ∧ profile = some c.profile ∧
        (c.role = .orphan ∨ c.role = .departed ∨ tabFree s.fc.flows 512 = none)) :
    classifyItem it s =
      (s, if ruleResult s.fc.rules (flowKey (itemSubject it) (itemSubjectDest it) info) info profile = .game
        then .standard else ruleResult s.fc.rules (flowKey (itemSubject it) (itemSubjectDest it) info) info profile,
        none) := by
  refine classifyItem_quiet ((classify_miss h hf).trans ?_) rfl
  unfold flowMiss
  rw [flowKey_subject]
  rcases hp with ⟨hc, rfl⟩ | ⟨i, c, ⟨hc, -⟩, rfl, hrole⟩
  · simp only [hc, beq_iff_eq]
  · simp only [hc, beq_iff_eq]
    split
    · rename_i j hr hj
      obtain ⟨ho, hd⟩ := (flowRole_iff _).1 hr
      rcases hrole with hrole | hrole | hfull
      · exact absurd hrole ho
      · exact absurd hrole hd
      · exact absurd (hfull.symm.trans hj) nofun
    · rfl

section
variable {i j : Nat} {c : Client} (hc : entryOf s (itemSubject it) i c) (ho : c.role ≠ .orphan)
  (hd : c.role ≠ .departed) (hj : tabFree s.fc.flows 512 = some j)
variable {result : Class}
  (hr : ruleResult s.fc.rules (flowKey (itemSubject it) (itemSubjectDest it) info) info (some c.profile) = result)
include hc ho hd hj hr

theorem classify_create : classify (itemSubject it) (itemSubjectDest it) it.bytes s =
    ((createFlow i c j (flowKey (itemSubject it) (itemSubjectDest it) info) result s).1,
      (createFlow i c j (flowKey (itemSubject it) (itemSubjectDest it) info) result s).2, some j) := by
  subst hr
  have role : flowRole c.role = true := (flowRole_iff _).2 ⟨ho, hd⟩
  have room : tabFree s.fc.flows Config.flowEntries = some j := hj
  rw [classify_miss h hf]
  unfold flowMiss
  rw [flowKey_subject]
  simp only [hc.1, role, room]

/-- A flow of another class than GAME is made (R73). -/
theorem classifyItem_create (hg : newClass c result s ≠ .game) : classifyItem it s =
      (classed { s.fc with
        flows := tabSet s.fc.flows j (newFlow i c (flowKey (itemSubject it) (itemSubjectDest it) info) result s) }
        s.ac s.rc.clients s, newClass c result s, some j) := by
  refine classifyItem_quiet ((classify_create h hf hc ho hd hj hr).trans ?_) rfl
  rw [createFlow_other i j _ hg]
  rfl

/-- A GAME flow is made; it counts, and the AC no longer wants (R73, R80, R159). -/
theorem classifyItem_createGame (hg : newClass c result s = .game) : classifyItem it s =
      (classed { s.fc with
          flows := tabSet s.fc.flows j (newFlow i c (flowKey (itemSubject it) (itemSubjectDest it) info) result s)
          gameCount := s.fc.gameCount + 1
          quietSince := none }
        (if s.ac.state = .wanting then { s.ac with state := .waiting, count := 0 } else s.ac)
        (tabSet s.rc.clients i { c with games := c.games + 1 }) s, .game, some j) := by
  have created := classify_create h hf hc ho hd hj hr
  rw [createFlow_counted j _ hc.2 hg] at created
  rw [classifyItem_game created (Nat.succ_ne_self _), acConditions_games (Nat.succ_ne_zero _)]
  rfl

end

end

end Sys2Proof.Machine
end
section
/-! OBLIGATION O33, the item sent and the claim assembled (R38, R39, R72 to R81, R102). -/

namespace Sys2Proof.Machine

/-- What sending an item of this class leaves, apart from the flows and the AC; `made` GAME flows were founded for it. -/
def SentAs (it : NodeItem) (cls : Class) (made : Nat) (s t : State) : Prop :=
  t.es = (itemPut it cls s).1 ∧
    t.fc.arrivals = arrivalsAfter (itemDest it s) cls it.bytes.length (itemPut it cls s).2 s.fc.arrivals ∧
    t.rc.noUplink = (if itemLost it s then some (s.now + 60000000000) else s.rc.noUplink) ∧
    t.ml = (if itemLost it s then offerEvent (stamp .noUplink s) s.ml else s.ml) ∧
    (findClient s (itemSubject it) = none → t.rc.clients = s.rc.clients) ∧
    (∀ i c, entryOf s (itemSubject it) i c →
      clientAt t i = some { c with
        lastActivity := s.now
        active := c.active || (isServing c.role && (itemPut it cls s).2)
        games := c.games + made } ∧
      ∀ j, j ≠ i → clientAt t j = clientAt s j) ∧
    t = { s with es := t.es, fc := t.fc, ml := t.ml, ac := t.ac,
                 rc := { s.rc with clients := t.rc.clients, noUplink := t.rc.noUplink } }

/-- The clients after the classification: the subject's entry counts the GAME flows made for it. -/
def Counted (it : NodeItem) (made : Nat) (clients : Table Client) (s : State) : Prop :=
  (findClient s (itemSubject it) = none → clients = s.rc.clients) ∧
    ∀ i c, entryOf s (itemSubject it) i c →
      entryOf (setClients clients s) (itemSubject it) i { c with games := c.games + made } ∧
        ∀ j, j ≠ i → tabGet clients j = clientAt s j

theorem Counted.none (it : NodeItem) (s : State) : Counted it 0 s.rc.clients s :=
  ⟨fun _ => rfl, fun _ _ h => ⟨h, fun _ _ => rfl⟩⟩

theorem Counted.one {it : NodeItem} {s : State} {i : Nat} {c : Client} (h : entryOf s (itemSubject it) i c) :
    Counted it 1 (tabSet s.rc.clients i { c with games := c.games + 1 }) s := by
  obtain ⟨hf, hi⟩ := h
  refine ⟨fun hn => absurd (hn.symm.trans hf) nofun, fun i' c' h' => ?_⟩
  obtain ⟨rfl, rfl⟩ := Prod.mk.inj (Option.some.inj (h'.1.symm.trans hf))
  exact ⟨⟨findClient_tabSet hf rfl rfl, tabGet_tabSet_self _ _ _⟩, fun j hj => tabGet_tabSet_ne _ _ hj⟩

section
variable {it : NodeItem} {cls : Class} {flow : Option Nat} {s : State} {f : Fc} {a : Ac} {clients : Table Client} {made : Nat}

/-- A subject in the Client Table or not (R23). -/
def subjectKnown (it : NodeItem) (s : State) : Prop :=
  findClient s (itemSubject it) = none ∨ ∃ i c, entryOf s (itemSubject it) i c

theorem itemDest_classed (hs : subjectKnown it s) (hc : Counted it made clients s) :
    itemDest it (classed f a clients s) = itemDest it s := by
  obtain ⟨hnone, hsome⟩ := hc
  have same : findClient (classed f a clients s) = findClient (setClients clients s) := rfl
  refine itemDest_congr rfl rfl ?_
  rw [same]
  rcases hs with hn | ⟨i, c, h⟩
  · rw [hnone hn]
    rfl
  · rw [(hsome i c h).1.1, h.1]
    rfl

/-- What is sent goes by the state before the classification. -/
theorem itemSent_classed (l : Table Client) (hd : itemDest it (classed f a clients s) = itemDest it s)
    (hf : f.arrivals = s.fc.arrivals) : itemSent it cls flow l (classed f a clients s) = { s with
      es := (itemPut it cls s).1
      fc := { f with
        arrivals := arrivalsAfter (itemDest it s) cls it.bytes.length (itemPut it cls s).2 s.fc.arrivals
        flows := if (itemPut it cls s).2 then flowsCounted flow it.bytes.length f.flows else f.flows }
      ac := a
      ml := if itemLost it s then offerEvent (stamp .noUplink s) s.ml else s.ml
      rc := { s.rc with
        clients := l
        noUplink := if itemLost it s then some (s.now + 60000000000) else s.rc.noUplink } } := by
  have put : itemPut it cls (classed f a clients s) = itemPut it cls s := by
    unfold itemPut
    rw [hd]
    rfl
  have ns : Config.noUplinkNs = 60000000000 := rfl
  unfold itemSent itemLost
  rw [put, hd, ns, ← hf]
  rfl

theorem sentAs_classed (hr : running s = true) (hs : subjectKnown it s) (hc : Counted it made clients s)
    (hf : f.arrivals = s.fc.arrivals) : ∃ t, (resolveItem it cls flow (classed f a clients s)).1 = t ∧
      SentAs it cls made s t ∧ t.ac = a ∧ t.fc = { f with
        arrivals := t.fc.arrivals
        flows := if (itemPut it cls s).2 then flowsCounted flow it.bytes.length f.flows else f.flows } := by
  have hd : itemDest it (classed f a clients s) = itemDest it s := itemDest_classed hs hc
  have put : itemPut it cls (classed f a clients s) = itemPut it cls s := by
    unfold itemPut
    rw [hd]
    rfl
  have runs : running (classed f a clients s) = true := hr
  obtain ⟨hnone, hsome⟩ := hc
  rcases hs with hn | ⟨i, c, h⟩
  · have unknown : findClient (classed f a clients s) (itemSubject it) = none := by
      rw [hnone hn]
      exact hn
    refine ⟨_, (resolveItem_unknown runs unknown).trans (itemSent_classed _ hd hf), ?_, rfl, rfl⟩
    exact ⟨rfl, rfl, rfl, rfl, hnone, fun i c h => absurd (hn.symm.trans h.1) nofun, rfl⟩
  · obtain ⟨⟨hfind, hat⟩, others⟩ := hsome i c h
    have found : entryOf (classed f a clients s) (itemSubject it) i { c with games := c.games + made } := ⟨hfind, hat⟩
    refine ⟨_, (resolveItem_found runs found).trans (itemSent_classed _ hd hf), ?_, rfl, rfl⟩
    refine ⟨rfl, rfl, rfl, rfl, fun hn => absurd (hn.symm.trans h.1) nofun, fun i' c' h' => ?_, rfl⟩
    obtain ⟨rfl, rfl⟩ := Prod.mk.inj (Option.some.inj (h'.1.symm.trans h.1))
    refine ⟨(tabGet_tabSet_self _ _ _).trans ?_, fun j hj => (tabGet_tabSet_ne _ _ hj).trans (others j hj)⟩
    rw [put]
    rfl

end

/-! ## The command, with both transmitters busy or held -/

section
variable {it : NodeItem} {s : State} (hl : live s = true) (hw : txWaits s = true) (hn : s.es.nodeTx.isSome = true)
include hl hw hn

variable (hi : dataItemOk it = true) (hm : itemHasSample it = false)
include hi hm

theorem exec_item_blocked (hb : isBlocked (itemSubject it) s = true) : exec (.nodePortData it) s = .next s := by
  obtain ⟨ha, hr⟩ := live_iff.1 hl
  have sampled : itemSample it s = s := by simp [itemSample, hm]
  rw [exec_item_waits it ha hw hn]
  simp [itemWork, hr, hi, sampled, hb]

/-- An item is sent as it was classified. -/
theorem exec_item_classed (hb : isBlocked (itemSubject it) s = false) {f : Fc} {a : Ac} {clients : Table Client}
    {cls : Class} {flow : Option Nat} {made : Nat} (hk : classifyItem it s = (classed f a clients s, cls, flow))
    (hs : subjectKnown it s) (hc : Counted it made clients s) (hf : f.arrivals = s.fc.arrivals) :
    ∃ t, exec (.nodePortData it) s = .next t ∧ SentAs it cls made s t ∧ t.ac = a ∧ t.fc = { f with
      arrivals := t.fc.arrivals
      flows := if (itemPut it cls s).2 then flowsCounted flow it.bytes.length f.flows else f.flows } := by
  obtain ⟨ha, hr⟩ := live_iff.1 hl
  have sampled : itemSample it s = s := by simp [itemSample, hm]
  have work : itemWork it s = resolveItem it cls flow (classed f a clients s) := by
    simp [itemWork, hr, hi, sampled, hb, hk]
  obtain ⟨t, ht, sent⟩ := sentAs_classed (cls := cls) (flow := flow) (a := a) hr hs hc hf
  exact ⟨t, by rw [exec_item_waits it ha hw hn, work, ht], sent⟩

section
variable (hb : isBlocked (itemSubject it) s = false) (hs : subjectKnown it s)
include hb hs

theorem exec_item_other (h : readFrame it.bytes = none) : ∃ t, exec (.nodePortData it) s = .next t ∧
    SentAs it .standard 0 s t ∧ t.fc = { s.fc with arrivals := t.fc.arrivals } ∧ t.ac = s.ac := by
  obtain ⟨t, he, sent, ac, fc⟩ := exec_item_classed hl hw hn hi hm hb
    (show classifyItem it s = (classed s.fc s.ac s.rc.clients s, .standard, none) from classifyItem_other h) hs
    (.none it s) rfl
  exact ⟨t, he, sent, fc.trans (by rw [flowsCounted, ite_self]), ac⟩

variable {info : FrameInfo} (h : readFrame it.bytes = some info)
include h

theorem exec_item_hit {j : Nat} {fl : Flow}
    (hf : findFlow s (flowKey (itemSubject it) (itemSubjectDest it) info) = some (j, fl)) :
    ∃ t, exec (.nodePortData it) s = .next t ∧ SentAs it fl.cls 0 s t ∧ t.ac = s.ac ∧ t.fc = { s.fc with
      arrivals := t.fc.arrivals
      flows := tabSet s.fc.flows j { fl with
        lastSeen := s.now
        bytes := if (itemPut it fl.cls s).2 then min (fl.bytes + it.bytes.length) 16777215 else fl.bytes } } := by
  obtain ⟨t, he, sent, ac, fc⟩ := exec_item_classed hl hw hn hi hm hb (classifyItem_hit h hf) hs (.none it s) rfl
  exact ⟨t, he, sent, ac, fc.trans (by rw [flowsCounted_written])⟩

variable (hf : findFlow s (flowKey (itemSubject it) (itemSubjectDest it) info) = none)
include hf

theorem exec_item_miss {profile : Option Nat}
    (hp : (findClient s (itemSubject it) = none ∧ profile = none) ∨
      ∃ i c, entryOf s (itemSubject it) i c ∧ profile = some c.profile ∧
        (c.role = .orphan ∨ c.role = .departed ∨ tabFree s.fc.flows 512 = none)) {result : Class}
    (hr : ruleResult s.fc.rules (flowKey (itemSubject it) (itemSubjectDest it) info) info profile = result) :
    ∃ t, exec (.nodePortData it) s = .next t ∧ SentAs it (if result = .game then .standard else result) 0 s t ∧
      t.fc = { s.fc with arrivals := t.fc.arrivals } ∧ t.ac = s.ac := by
  subst hr
  obtain ⟨t, he, sent, ac, fc⟩ := exec_item_classed hl hw hn hi hm hb (f := s.fc) (a := s.ac) (clients := s.rc.clients)
    (classifyItem_miss h hf hp) hs (.none it s) rfl
  exact ⟨t, he, sent, fc.trans (by rw [flowsCounted, ite_self]), ac⟩

theorem exec_item_create {i j : Nat} {c : Client} (hc : entryOf s (itemSubject it) i c) (ho : c.role ≠ .orphan)
    (hd : c.role ≠ .departed) (hj : tabFree s.fc.flows 512 = some j) {result : Class}
    (hr : ruleResult s.fc.rules (flowKey (itemSubject it) (itemSubjectDest it) info) info (some c.profile) = result) :
    ∃ t, exec (.nodePortData it) s = .next t ∧
      SentAs it (newClass c result s) (if newClass c result s = .game then 1 else 0) s t ∧
      t.ac = (if newClass c result s = .game ∧ s.ac.state = .wanting then { s.ac with state := .waiting, count := 0 }
        else s.ac) ∧
      t.fc = { s.fc with
        arrivals := t.fc.arrivals
        gameCount := if newClass c result s = .game then s.fc.gameCount + 1 else s.fc.gameCount
        quietSince := if newClass c result s = .game then none else s.fc.quietSince
        flows := tabSet s.fc.flows j {
          key := flowKey (itemSubject it) (itemSubjectDest it) info
          cls := newClass c result s, demoted := tooManyGames c result s, client := i
          bytes := if (itemPut it (newClass c result s) s).2 then min it.bytes.length 16777215 else 0
          lastSeen := s.now } } := by
  by_cases hg : newClass c result s = .game
  · obtain ⟨t, he, sent, ac, fc⟩ := exec_item_classed hl hw hn hi hm hb
      (classifyItem_createGame h hf hc ho hd hj hr hg) hs (.one hc) rfl
    rw [flowsCounted_written] at fc
    simp only [hg, if_true, true_and]
    refine ⟨t, he, sent, ac, fc.trans ?_⟩
    simp [newFlow, hg]
  · obtain ⟨t, he, sent, ac, fc⟩ := exec_item_classed hl hw hn hi hm hb
      (classifyItem_create h hf hc ho hd hj hr hg) hs (.none it s) rfl
    rw [flowsCounted_written] at fc
    simp only [hg, if_false, false_and]
    refine ⟨t, he, sent, ac, fc.trans ?_⟩
    simp [newFlow]

end

end

/-- Settles O33: the destinations by cases; a READY transmitter by the work's leaving the transmitters out of account; the
sample as a change of the state before; the rest by how the item is classified. -/
theorem dataItemClassifiedAndQueued : Obligations.DataItemClassifiedAndQueued := by
  refine ⟨fun a s => ⟨clientDest_unknown, fun i c h => clientDest_found h, ?_⟩, fun it s ha h => ?_,
    fun it s hl => ?_, fun it s hl hi hs => ?_, fun it s hl hw hn hi hm => ⟨fun i c hc hr hv => ?_, fun hb hs => ?_⟩⟩
  · intro up
    have iff (n : Nat) : hasUplink s n = true ↔ up n := hasUplink_iff s n
    refine ⟨fun h => uplinkDest_none fun n h1 h8 => ?_, fun n h1 h8 hn hm => uplinkDest_lowest h1 h8 ((iff n).2 hn)
      fun m hm1 hmn => ?_⟩
    · exact Bool.eq_false_iff.2 (mt (iff n).1 (h n h1 h8))
    · exact Bool.eq_false_iff.2 (mt (iff m).1 (hm m hm1 hmn))
  · have discarded : (running s && dataItemOk it) = false := by
      rcases h with h | h
      · simp [running, h]
      · simp [h]
    rw [exec_nodePortData it ha]
    simp [itemWork, discarded, pumpWhen]
  · obtain ⟨ha, -⟩ := live_iff.1 hl
    have nothing (hc : s.bu.control = []) (h : ∀ c, s.es.queue (queueName c) = [] ∨ s.es.tokens.at c ≤ 0) :
        NothingToTake s := ⟨hc, fun c => classFound_eq_false.2 (h c)⟩
    intro done idle free
    refine ⟨?_, ?_, ?_⟩
    · rintro ⟨ht, -, hc, hq⟩ hn
      exact item_ready_backhaul it ha ht (nothing hc hq) hn
    · rintro ⟨hn, hq⟩ hw
      exact item_ready_nodePort it ha hn hq hw
    · rintro ⟨ht, -, hc, hq⟩ ⟨hn, he⟩
      exact item_ready_both it ha ht (nothing hc hq) hn he
  · refine ⟨fun h => ?_, fun i c ho hc => ?_⟩
    · rw [exec_item_sampled hl hi, itemSample_unknown h]
      rfl
    · rw [exec_item_sampled hl hi, itemSample_found hs ho hc.1]
      rfl
  · refine exec_item_blocked hl hw hn hi hm ?_
    have serving : isServing c.role = true := by simpa [isServing] using hr
    simp [isBlocked, hc.1, serving, hv]
  · refine ⟨fun h => exec_item_other hl hw hn hi hm hb hs h, fun info h => ⟨fun j fl hf =>
      exec_item_hit hl hw hn hi hm hb hs h hf, fun i c j hf hc ho hd hj =>
      exec_item_create hl hw hn hi hm hb hs h hf hc ho hd hj rfl, fun profile hf hp =>
      exec_item_miss hl hw hn hi hm hb hs h hf hp rfl⟩⟩

end Sys2Proof.Machine
end
section
/-! OBLIGATION O40. A HANDING entry's hand wait runs out (R52, R62). -/

namespace Sys2Proof.Machine

/-- Offers made change the offer list and the control transmit queue, and nothing else (R62). -/
theorem offerFill_eq (s : State) : offerFill s = { s with
    bu := { s.bu with control := (offerFill s).bu.control }
    rc := { s.rc with offers := (offerFill s).rc.offers } } := by
  obtain ⟨l, q, -, h⟩ := offerFill_offered s
  rw [h]
  rfl

theorem wake_offerFill {s : State} (h : txWaits s = true) : wake (offerFill s) = offerFill s := by
  refine wake_waits ?_
  rw [offerFill_eq]
  exact h

/-- What Table 2-2 makes of a HANDING entry that is SERVED again. -/
theorem changeRole_handing_served {c : Client} (p : Params) (now : Nat) (h : c.role = .handing) :
    changeRole p now .served c =
      { c with role := .served, claimNo := none, claimant := none, timer := none, lastActivity := now } := by
  simp [changeRole, roleTimer, isServing, h]

/-- The part with a hand wait run out at the present instant, before offers are made (R52). -/
def handWaitOver (i : Nat) (c : Client) (n : Nat) (s : State) : State := { s with
  rc := { s.rc with
    clients := tabSet s.rc.clients i { c with
      role := .served, claimNo := none, claimant := none, timer := none, lastActivity := s.now } }
  ml := offerEvent (stamp (.steerFailed c.addr n false) s) s.ml }

section
variable {i d n : Nat} {c : Client} {s : State}

theorem raise_handWaitOver (hc : clientAt s i = some c) (hr : c.role = .handing) :
    raise (.steerFailed c.addr n false) (toRole i .served id s) = handWaitOver i c n s := by
  rw [toRole_served id hc, changeRole_handing_served _ _ hr]
  rfl

theorem exec_handWaitExpiryHanding (ha : alive s = true) (hc : clientAt s i = some c) (hr : c.role = .handing)
    (ht : c.timer = some d) (hn : c.claimant = some n) (hw : txWaits s = true) :
    exec (.handWaitExpiryHanding i) s = .next (offerFill (handWaitOver i c n (runTo d s))) := by
  refine (taken_alive ha).trans (congrArg _ ?_)
  have waits : txWaits (handWaitOver i c n (runTo d s)) = true := (txWaits_runTo d s).trans hw
  rw [roleExpiry_runs hc ht (by simp [hr]), hn, ← wake_offerFill waits,
    ← raise_handWaitOver ((clientAt_runTo d i s).trans hc) hr]
  rfl

end

/-- Settles O40: the entry handed back with its event, then the offers of a DRAINING node. -/
theorem handWaitOfHandingEntryExpires : Obligations.HandWaitOfHandingEntryExpires := by
  intro i c d n s ha hc hr ht hn hw
  refine ⟨_, exec_handWaitExpiryHanding ha hc hr ht hn hw, ?_, ?_, ?_, fun hd => ?_⟩
  · rw [offerFill_eq]
    exact tabGet_tabSet_self _ i _
  · rw [offerFill_eq]
    simp [handWaitOver]
  · rw [offerFill_eq]
    simp [handWaitOver]
  · rw [offerFill_idle (by simpa [acDraining, handWaitOver] using hd)]
    simp [handWaitOver]

end Sys2Proof.Machine
end
section
/-! OBLIGATION O25. A CLAIM is answered by Table 3-1, and by a DRAINING node without regard to holddown and reading (R49,
R50, R62). -/

namespace Sys2Proof.Machine

section
variable {n i : Nat} {a : Addr} {number : BitVec 16} {reading : Int} {c : Client} {s : State}

/-! ## The rows of Table 3-1 -/

theorem answerClaim_unknown (hf : findClient s a = none) :
    answerClaim n a number reading s = sendBulletin n (.refuse a number 1) s := by
  simp only [answerClaim, hf]

theorem answerClaim_notServed (hf : findClient s a = some (i, c)) (h1 : c.role ≠ .served) (h2 : c.role ≠ .handing) :
    answerClaim n a number reading s = sendBulletin n (.refuse a number 1) (dropOffer i n s) := by
  simp only [answerClaim, hf]
  cases hr : c.role with
  | served => exact absurd hr h1
  | handing => exact absurd hr h2
  | remote | claiming | expecting | orphan | departed => rfl

theorem answerClaim_handing (hf : findClient s a = some (i, c)) (hr : c.role = .handing) :
    answerClaim n a number reading s = sendBulletin n (.refuse a number 2) (dropOffer i n s) := by
  simp only [answerClaim, hf, hr]

theorem answerClaim_refused {r : Nat} (hf : findClient s a = some (i, c)) (hr : c.role = .served)
    (h : refusal s c n reading (hasOffer s i n) = some r) :
    answerClaim n a number reading s = sendBulletin n (.refuse a number r) (dropOffer i n s) := by
  simp only [answerClaim, hf, hr, h]

theorem answerClaim_granted (hf : findClient s a = some (i, c)) (hr : c.role = .served)
    (h : refusal s c n reading (hasOffer s i n) = none) :
    answerClaim n a number reading s = grantClaim i c n number (dropOffer i n s) := by
  simp only [answerClaim, hf, hr, h]

/-! ## The reason for a SERVED entry -/

theorem refusal_holddown {answers : Bool} (hd : acDraining s = false) (hh : s.now < c.holddownEnds) :
    refusal s c n reading answers = some 3 := by
  simp [refusal, holddownRuns, hd, hh]

theorem refusal_notBetter {v : Signal} (hd : acDraining s = false) (hh : c.holddownEnds ≤ s.now)
    (hv : c.average = some v) (hlow : reading - v.value < 4 * (s.sl.params.margin : Int)) :
    refusal s c n reading false = some 4 := by
  simp [refusal, holddownRuns, hd, Nat.not_lt.2 hh, hv, hlow]

/-- Outside DRAINING, past holddown and reading, the claimant's own drain is looked at (R49). -/
theorem refusal_better {answers : Bool} (hh : c.holddownEnds ≤ s.now)
    (hb : ∀ v, c.average = some v → 4 * (s.sl.params.margin : Int) ≤ reading - v.value) :
    refusal s c n reading answers = if isDrainingPeer s n then some 5 else none := by
  cases hv : c.average with
  | none => simp [refusal, holddownRuns, Nat.not_lt.2 hh, hv]
  | some v => simp [refusal, holddownRuns, Nat.not_lt.2 hh, hv, Int.not_lt.2 (hb v hv)]

/-- A DRAINING node looks at the claimant's drain alone (R62). -/
theorem refusal_draining {answers : Bool} (hd : acDraining s = true) :
    refusal s c n reading answers = if isDrainingPeer s n then some 5 else none := by
  simp [refusal, hd]

/-! ## The grant (R50) -/

/-- What Table 2-2 makes of a SERVED entry whose claim is granted. -/
def grantedEntry (p : Params) (now n : Nat) (number : BitVec 16) (c : Client) : Client := { c with
  role := .handing, claimNo := some number, claimant := some n, timer := some (now + p.handWait * 1000000000)
  lastActivity := now }

theorem grantClaim_eq (hrun : running s = true) (hc : clientAt s i = some c) (hr : c.role = .served) :
    grantClaim i c n number s = { s with
      bu := { s.bu with control := joinControl (.bulletin n (.grant c.addr number)) s.bu.control }
      rc := { s.rc with
        clients := tabSet s.rc.clients i (grantedEntry s.sl.params s.now n number c)
        offers := s.rc.offers.filter (fun o => o.client != i) }
      ml := offerEvent (stamp (.steer c.addr n number) s) s.ml } := by
  have entry : { changeRole s.sl.params s.now .handing c with claimNo := some number, claimant := some n } =
      grantedEntry s.sl.params s.now n number c := by
    simp [grantedEntry, changeRole, roleTimer, isServing, hr, Config.secNs]
  rw [grantClaim, sendBulletin_running _ _ hrun, toRole_leaving (c := c) _ (by exact hc) (by decide), ← entry]
  rfl

end

/-! ## The command -/

section
variable {f : MeshFrame} {p : Peer} {a : Addr} {number : BitVec 16} {reading : Int} {i r : Nat} {c : Client} {s : State}

theorem exec_claim (h : delivered 3 f p (.claim a number reading) s) : exec (.claimReceive f) s =
    .next (wake (offerFill (answerClaim f.source.toNat a number reading (afterSeq f p s)))) := taken_receive _ h

/-- The draining flags of the source are those of its last accepted PULSE (R16). -/
theorem isDrainingPeer_afterSeq : isDrainingPeer (afterSeq f p s) f.source.toNat = (p.adv.draining || p.adv.leaving) := by
  have hp : peerOf (afterSeq f p s) f.source.toNat = some { p with lastSeq := f.seq } := tabGet_tabSet_self _ _ _
  simp only [isDrainingPeer, hp]

theorem dropOffer_none (k m : Nat) (h : s.rc.offers = []) : dropOffer k m s = s := by
  rw [dropOffer, h, List.filter_nil, ← h]
  rfl

theorem hasOffer_none (k m : Nat) (h : s.rc.offers = []) : hasOffer s k m = false := by
  rw [hasOffer, h, List.any_nil]

/-- The part with a CLAIM refused for a reason: the REFUSE is queued, and nothing else changes (R49). -/
def refusedFor (f : MeshFrame) (p : Peer) (a : Addr) (number : BitVec 16) (r : Nat) (s : State) : State := { s with
  bu := { seqTaken f p s.bu with
    control := joinControl (.bulletin f.source.toNat (.refuse a number r)) s.bu.control } }

theorem exec_claim_refused (h : delivered 3 f p (.claim a number reading) s) (hw : txWaits s = true)
    (hd : acDraining s = false) (answered : answerClaim f.source.toNat a number reading (afterSeq f p s) =
      sendBulletin f.source.toNat (.refuse a number r) (afterSeq f p s)) :
    exec (.claimReceive f) s = .next (refusedFor f p a number r s) := by
  rw [exec_claim h, answered, sendBulletin_running (s := afterSeq f p s) _ _ (delivered_running h : running s = true), offerFill_idle,
    wake_waits]
  · rfl
  · exact hw
  · exact hd

end

/-- Settles O25: outside DRAINING row by row of Table 3-1, then the grant of a DRAINING node. -/
theorem claimAnsweredByTable31OrDraining : Obligations.ClaimAnsweredByTable31OrDraining := by
  refine ⟨fun f p a number reading s h hw hd ho => ?_, fun f p a number reading i c s h hw hd he hr h1 h2 => ?_⟩
  · intro refused
    have refuses (r : Nat) (i : Nat) (answered : answerClaim f.source.toNat a number reading (afterSeq f p s) =
        sendBulletin f.source.toNat (.refuse a number r) (dropOffer i f.source.toNat (afterSeq f p s))) :
        exec (.claimReceive f) s = refused r :=
      exec_claim_refused h hw hd (answered.trans (by rw [dropOffer_none (s := afterSeq f p s) _ _ ho]))
    have alone (i : Nat) : hasOffer (afterSeq f p s) i f.source.toNat = false := hasOffer_none _ _ ho
    refine ⟨fun hf => exec_claim_refused h hw hd (answerClaim_unknown hf), fun i c ⟨hf, hc⟩ => ⟨fun h1 h2 => ?_,
      fun hr => ?_, fun hr hh => ?_, fun v hr hh hv hlow => ?_, fun hr hh hb => ⟨fun hp => ?_, fun h1 h2 => ?_⟩⟩⟩
    · exact refuses 1 i (answerClaim_notServed hf h1 h2)
    · exact refuses 2 i (answerClaim_handing hf hr)
    · exact refuses 3 i (answerClaim_refused hf hr (refusal_holddown hd hh))
    · exact refuses 4 i (answerClaim_refused hf hr (by rw [alone]; exact refusal_notBetter hd hh hv hlow))
    · refine refuses 5 i (answerClaim_refused hf hr ?_)
      rw [refusal_better (s := afterSeq f p s) hh hb, isDrainingPeer_afterSeq, if_pos (by simpa using hp)]
    · have passes := refusal_better (s := afterSeq f p s) (n := f.source.toNat)
        (answers := hasOffer (afterSeq f p s) i f.source.toNat) hh hb
      rw [isDrainingPeer_afterSeq, h1, h2] at passes
      rw [exec_claim h, answerClaim_granted (s := afterSeq f p s) hf hr passes, dropOffer_none (s := afterSeq f p s) _ _ ho,
        grantClaim_eq (s := afterSeq f p s) (delivered_running h : running s = true) hc hr, offerFill_idle (by exact hd), wake_waits (by exact hw)]
      simp [afterSeq, ho, (findClient_some hf).1, grantedEntry, seqTaken, stamp]
  · have passes := refusal_draining (s := afterSeq f p s) (c := c) (n := f.source.toNat) (reading := reading)
      (answers := hasOffer (afterSeq f p s) i f.source.toNat) hd
    rw [isDrainingPeer_afterSeq, h1, h2] at passes
    rw [exec_claim h, answerClaim_granted (s := afterSeq f p s) he.1 hr passes,
      grantClaim_eq (s := dropOffer i f.source.toNat (afterSeq f p s)) (delivered_running h : running s = true) he.2 hr,
      wake_offerFill (by exact hw)]
    refine ⟨_, grantedEntry s.sl.params s.now f.source.toNat number c, rfl, ?_, rfl, rfl, rfl, rfl, ?_, ?_, ?_, ?_⟩
    · rw [offerFill_eq]
      exact tabGet_tabSet_self _ i _
    all_goals rw [offerFill_eq]
    · rfl
    · rfl
    · rfl
    · rw [← (findClient_some he.1).1]
      rfl

end Sys2Proof.Machine
end
section
/-! OBLIGATION O28. A CONTEXT's counters join those of a client served here (R60, R76, R129, R132). -/

namespace Sys2Proof.Machine

section
variable {n i profile day used extra : Nat} {a : Addr} {tenure : BitVec 16} {c : Client} {s : State}

theorem takeCounters_eq : takeCounters profile day used extra c = { c with
    profile := if c.given then c.profile else profile
    used := if day = c.day then min (used + c.used) 1440 else c.used
    extra := if day = c.day then extra - c.drawn else c.extra } := by
  unfold takeCounters
  by_cases hd : day = c.day
  · simp only [if_pos hd]
    split <;> rfl
  · simp only [if_neg hd]
    split <;> rfl

theorem takeContext_ignored (h : ∀ i c, findClient s a = some (i, c) → ¬ (isServing c.role = true ∧ tenure = c.tenure ∧
      profile ≤ 15 ∧ day ≤ 6 ∧ used ≤ 1440 ∧ extra ≤ 240)) :
    takeContext n (.context a tenure profile day used extra) s = s := by
  simp only [takeContext]
  split
  · rw [if_neg (h _ _ ‹_›)]
  · rfl

theorem takeContext_taken (hf : findClient s a = some (i, c)) (h : isServing c.role = true ∧ tenure = c.tenure ∧
      profile ≤ 15 ∧ day ≤ 6 ∧ used ≤ 1440 ∧ extra ≤ 240) :
    takeContext n (.context a tenure profile day used extra) s =
      evalVerdict i (putClient i (takeCounters profile day used extra c) s) := by
  simp only [takeContext, hf]
  rw [if_pos h]

theorem exec_context {f : MeshFrame} {p : Peer} (h : delivered 8 f p (.context a tenure profile day used extra) s) :
    exec (.contextReceive f) s =
      .next (takeContext f.source.toNat (.context a tenure profile day used extra) (afterSeq f p s)) := taken_receive _ h

end

/-- Settles O28: a CONTEXT for no client served here, one that does not fit, and one whose counters are taken and whose
verdict is judged. -/
theorem contextMergesCounters : Obligations.ContextMergesCounters := by
  intro f p a tenure profile day used extra s h
  refine ⟨fun hf => ?_, fun i c ⟨hf, hc⟩ => ⟨fun hno => ?_, fun hr ht h1 h2 h3 h4 => ?_⟩⟩
  · rw [exec_context h, takeContext_ignored (s := afterSeq f p s) (findClient_noEntry hf)]
    rfl
  · have misfit : ¬ (isServing c.role = true ∧ tenure = c.tenure ∧ profile ≤ 15 ∧ day ≤ 6 ∧ used ≤ 1440 ∧ extra ≤ 240) := by
      rintro ⟨hr, ht, h1, h2, h3, h4⟩
      rcases hno with h | h | h | h | h | h
      · simp [hr] at h
      · exact h ht
      all_goals omega
    rw [exec_context h, takeContext_ignored (s := afterSeq f p s) (findClient_only hf misfit)]
    rfl
  · intro o newly
    have merged : takeCounters profile day used extra c = o := takeCounters_eq
    have cause : blockCause (afterSeq f p s) o = blockCause s o := rfl
    have addr : o.addr = a := (findClient_some hf).1
    rw [exec_context h, takeContext_taken (s := afterSeq f p s) hf ⟨hr, ht, h1, h2, h3, h4⟩, merged,
      evalVerdict_putClient (c := o) hr, cause]
    have fresh : (blockCause s o).isSome = true ∧ o.verdict ≠ some .blocked ↔ newly = true := by simp [newly, o]
    refine ⟨_, rfl, ?_, fun j hj => tabGet_tabSet_ne _ _ hj, ?_, fun hn => ?_, ?_, ?_⟩
    · refine (tabGet_tabSet_self _ i _).trans (congrArg some ?_)
      simp only [judged, fresh]
      rw [apply_ite some]
    · simp only [fresh, apply_ite Fc.flows]
      rfl
    · simp only [fresh, hn, Bool.false_eq_true, if_false]
      rfl
    · rw [judgedMl_eq, addr]
      simp only [fresh] <;> rfl
    · simp only [fresh]
      cases newly <;> rfl

end Sys2Proof.Machine
end
section
/-! OBLIGATION O23. A client served here that another node lists as served there (R29, R44, R59, R61). -/

namespace Sys2Proof.Machine

section
variable {n i : Nat} {e : Listing} {c : Client} {s : State}

/-- The other node keeps the client (R61). -/
def yields (s : State) (c : Client) (n : Nat) (t : BitVec 16) : Bool :=
  newer t c.tenure || (!newer c.tenure t && decide (n < s.sl.params.node))

theorem roleEffect_serving (hf : findClient s e.addr = some (i, c)) (hr : c.role = .served ∨ c.role = .handing) :
    roleEffect n e s = doubleServe i c n e.tenure s := by
  rcases hr with hr | hr <;> simp only [roleEffect, hf, hr]

theorem doubleServe_kept {t : BitVec 16} (h : yields s c n t = false) : doubleServe i c n t s = s :=
  if_neg (by simpa [yields] using h)

/-- The entry of a served client that has moved to node n with tenure t, with the holddown set (R44, R58, R61). -/
def movedEntry (p : Params) (now n : Nat) (t : BitVec 16) (c : Client) : Client := { c with
  role := .remote, serving := n, tenure := t, timer := none, lastActivity := now
  claimNo := none, claimant := none, verdict := none, active := false
  servingReading := if c.serving = n then c.servingReading else none
  better := if c.serving = n then c.better else 0
  holddownEnds := now + p.holddown * 1000000000 }

/-- The CONTEXT sent for a client that has moved (R59). -/
def contextOf (c : Client) (n : Nat) (t : BitVec 16) : Control :=
  .bulletin n (.context c.addr t c.profile c.day c.used c.extra)

/-- A served client moves: its entry, its offer, the CONTEXT and the event (R58, R59, R61, R63). -/
def movedState (i : Nat) (c : Client) (n : Nat) (t : BitVec 16) (v : Event) (s : State) : State := { s with
  bu := { s.bu with control := joinControl (contextOf c n t) s.bu.control }
  rc := { s.rc with
    clients := tabSet s.rc.clients i (movedEntry s.sl.params s.now n t c)
    offers := s.rc.offers.filter (fun o => o.client != i) }
  ml := offerEvent (stamp v s) s.ml }

theorem raise_moved {t : BitVec 16} {v : Event} (hrun : running s = true) (hc : clientAt s i = some c)
    (hr : c.role = .served ∨ c.role = .handing) :
    raise v (sendContext c n t (toRole i .remote
      (fun x => setHolddown s.sl.params s.now (setServing n { x with tenure := t })) s)) = movedState i c n t v s := by
  have entry : setHolddown s.sl.params s.now (setServing n { changeRole s.sl.params s.now .remote c with tenure := t }) =
      movedEntry s.sl.params s.now n t c := by
    rcases hr with hr | hr <;>
      simp [movedEntry, setHolddown, setServing_eq, changeRole, roleTimer, isServing, hr, Config.secNs]
  rw [toRole_leaving _ hc (by decide), entry, sendContext, sendBulletin_running _ _ (by exact hrun)]
  rfl

theorem doubleServe_moved {t : BitVec 16} (h : yields s c n t = true) (hrun : running s = true)
    (hc : clientAt s i = some c) (hr : c.role = .served ∨ c.role = .handing) :
    doubleServe i c n t s = movedState i c n t (.doubleServe c.addr n t c.tenure) s := by
  rw [← raise_moved hrun hc hr]
  exact if_pos h

/-! ## The reading recorded (R29) -/

theorem listingReading_evaluated (hf : findClient s e.addr = some (i, c)) (hc : clientAt s i = some c) :
    listingReading n e s = evaluateClaim i n e.reading (putClient i (readEntry n e.reading s.now c) s) := by
  simp only [listingReading, hf]
  rw [modClient_some _ hc, recordReading_eq]
  rfl

/-- The better count starts anew at a client that has just moved, and no claim follows at once: its holddown runs, or one
reading is not enough (R46, R47, R48). -/
theorem listingReading_moved (hf : findClient s e.addr = some (i, c)) (hc : clientAt s i = some c) (hr : c.role = .remote)
    (hn : c.serving = n) (hb : c.better = 0) (hk : s.now < c.holddownEnds ∨ 2 ≤ s.sl.params.k) :
    ∃ b, listingReading n e s = putClient i { readEntry n e.reading s.now c with better := b } s := by
  have hat : clientAt (putClient i (readEntry n e.reading s.now c) s) i = some (readEntry n e.reading s.now c) :=
    clientAt_putClient i _ s
  have hread : (readEntry n e.reading s.now c).servingReading.isSome = true := by simp [readEntry, hr, hn]
  cases ha : c.average with
  | none =>
    refine ⟨0, (listingReading_found hf hc (.inr (.inr ha))).trans (congrArg (putClient i · s) ?_)⟩
    exact readOnly_counted (r := readEntry n e.reading s.now c) ⟨hr, hn⟩
  | some a =>
    rw [listingReading_evaluated hf hc]
    by_cases hm : a.value - e.reading < 4 * (s.sl.params.margin : Int)
    · rw [evaluateClaim_below hat hr hn hread ha hm, modClient_putClient]
      exact ⟨0, rfl⟩
    · rw [evaluateClaim_beyond hat hr hn hread ha (Int.not_lt.1 hm), if_neg, modClient_putClient]
      · exact ⟨_, rfl⟩
      · rintro ⟨hcount, -, hdown, -⟩
        have one : counted (readEntry n e.reading s.now c) = 1 := by simp [counted, readEntry, hb]
        rcases hk with hk | hk
        · exact hdown (decide_eq_true hk)
        · rw [one] at hcount
          exact absurd (hk.trans hcount) (by decide)

end

/-! ## The SIGHTING -/

section
variable {f : MeshFrame} {p : Peer} {e : Listing} {i : Nat} {c : Client} {s : State}

theorem exec_sighting_serving (h : delivered 2 f p (.sighting [e]) s) (hw : txWaits s = true) (hs : e.servedHere = true)
    (ht : e.tenure ≠ 0#16) (hf : findClient s e.addr = some (i, c)) (hr : c.role = .served ∨ c.role = .handing) :
    exec (.sightingReceive f) s = .next (drainSettle (listingReading f.source.toNat e
      (doubleServe i c f.source.toNat e.tenure (afterSeq f p s)))) := by
  rw [exec_sighting h hw, List.foldl_cons, List.foldl_nil, takeListing_heard (findClient_some hf).2 (.inr ht), if_pos hs,
    roleEffect_serving (s := afterSeq f p s) hf hr]

/-- This node yields: the entry has moved to the source, with the reading the source lists (R61). -/
theorem exec_sighting_yields (h : delivered 2 f p (.sighting [e]) s) (hw : txWaits s = true) (hd : acDraining s = false)
    (hs : e.servedHere = true) (ht : e.tenure ≠ 0#16) (he : entryOf s e.addr i c) (hr : c.role = .served ∨ c.role = .handing)
    (hn : c.serving ≠ f.source.toNat) (hk : 1 ≤ s.sl.params.holddown ∨ 2 ≤ s.sl.params.k)
    (hy : yields s c f.source.toNat e.tenure = true) : ∃ b, exec (.sightingReceive f) s = .next (putClient i
      { readEntry f.source.toNat e.reading s.now (movedEntry s.sl.params s.now f.source.toNat e.tenure c) with better := b }
      (movedState i c f.source.toNat e.tenure (.doubleServe c.addr f.source.toNat e.tenure c.tenure) (afterSeq f p s))) := by
  have found : findClient (movedState i c f.source.toNat e.tenure (.doubleServe c.addr f.source.toNat e.tenure c.tenure)
      (afterSeq f p s)) e.addr = some (i, movedEntry s.sl.params s.now f.source.toNat e.tenure c) :=
    findClient_tabSet (s := s) he.1 rfl rfl
  have down : s.now < (movedEntry s.sl.params s.now f.source.toNat e.tenure c).holddownEnds ∨ 2 ≤ s.sl.params.k := by
    refine hk.imp_left fun hk => ?_
    show s.now < s.now + s.sl.params.holddown * 1000000000
    omega
  obtain ⟨b, hb⟩ := listingReading_moved (n := f.source.toNat) found (tabGet_tabSet_self _ i _) rfl rfl (if_neg hn) down
  refine ⟨b, ?_⟩
  rw [exec_sighting_serving h hw hs ht he.1 hr,
    doubleServe_moved (s := afterSeq f p s) hy (delivered_running h : running s = true) he.2 hr, hb, drainSettle_idle (by exact hd)]
  rfl

/-- This node keeps the client, and records the reading (R61). -/
theorem exec_sighting_keeps (h : delivered 2 f p (.sighting [e]) s) (hw : txWaits s = true) (hd : acDraining s = false)
    (hs : e.servedHere = true) (ht : e.tenure ≠ 0#16) (he : entryOf s e.addr i c) (hr : c.role = .served ∨ c.role = .handing)
    (hy : yields s c f.source.toNat e.tenure = false) : exec (.sightingReceive f) s =
      .next (putClient i (readEntry f.source.toNat e.reading s.now c) (afterSeq f p s)) := by
  have other : ¬ (c.role = .remote ∧ c.serving = f.source.toNat) := fun hx => by
    rcases hr with hr | hr <;> exact absurd (hr.symm.trans hx.1) (by decide)
  have kept : readOnly f.source.toNat (readEntry f.source.toNat e.reading s.now c) =
      readEntry f.source.toNat e.reading s.now c := readOnly_kept other
  have read := listingReading_found (s := afterSeq f p s) (n := f.source.toNat) he.1 he.2
    (.inl (by rcases hr with hr | hr <;> simp [readEntry, hr]))
  rw [exec_sighting_serving h hw hs ht he.1 hr, doubleServe_kept (s := afterSeq f p s) hy, read,
    drainSettle_idle (by exact hd)]
  exact congrArg (fun x => Host.Outcome.next (putClient i x (afterSeq f p s))) kept

end

/-- Settles O23: by whose tenure, or else whose node number, prevails. -/
theorem doubleServeSettledByTenure : Obligations.DoubleServeSettledByTenure := by
  intro f p e i c s h hw hd hs ht he hr hn hk
  refine ⟨fun hlost => ?_, fun hold hkeep => ?_⟩
  · have hy : yields s c f.source.toNat e.tenure = true := by
      rcases hlost with h | ⟨h, hlow⟩
      · simp [yields, h]
      · simp [yields, h, hlow]
    obtain ⟨b, hb⟩ := exec_sighting_yields h hw hd hs ht he hr hn hk hy
    refine ⟨_, _, hb, clientAt_putClient i _ _, rfl, rfl, rfl, rfl, rfl, rfl, rfl, rfl, rfl, rfl, ?_, rfl, rfl, rfl, rfl, rfl, rfl⟩
    simp [readEntry, movedEntry]
  · have hy : yields s c f.source.toNat e.tenure = false := by
      rcases hkeep with h | hhigh
      · simp [yields, hold, h]
      · simp [yields, hold, Nat.not_lt.2 hhigh]
    exact ⟨_, _, exec_sighting_keeps h hw hd hs ht he hr hy, clientAt_putClient i _ _, rfl, rfl, rfl, rfl, rfl, rfl, rfl, rfl,
      rfl, rfl, rfl⟩

end Sys2Proof.Machine
end
section
/-! OBLIGATION O27. An ARRIVED moves its client, and the last one ends a drain (R58, R59, R62, R63, R163). -/

namespace Sys2Proof.Machine

section
variable {n i : Nat} {a : Addr} {t : BitVec 16} {c : Client} {s : State}

theorem takeArrived_unknown (hf : findClient s a = none) : takeArrived n (.arrived a t) s = s := by
  simp only [takeArrived, hf]

theorem takeArrived_found (hf : findClient s a = some (i, c)) :
    takeArrived n (.arrived a t) s = wake (drainSettle (arrivedEntry i c n t s)) := by
  simp only [takeArrived, hf]

theorem exec_arrived {f : MeshFrame} {p : Peer} (h : delivered 7 f p (.arrived a t) s) :
    exec (.arrivedReceive f) s = .next (takeArrived f.source.toNat (.arrived a t) (afterSeq f p s)) := taken_receive _ h

/-! ## A client served here -/

theorem arrivedEntry_serving (hrun : running s = true) (hc : clientAt s i = some c)
    (hr : c.role = .served ∨ c.role = .handing) :
    arrivedEntry i c n t s = movedState i c n t (.clientArrived c.addr n t) s := by
  rw [← raise_moved hrun hc hr]
  rcases hr with hr | hr <;> simp only [arrivedEntry, hr]

/-- A client that moves is served here no more (R24). -/
theorem servedCount_moved {v : Event} (hs : tabSorted s.rc.clients = true) (hc : clientAt s i = some c)
    (hr : c.role = .served ∨ c.role = .handing) : servedCount (movedState i c n t v s) + 1 = servedCount s := by
  have serving : isServing c.role = true := by rcases hr with hr | hr <;> simp [isServing, hr]
  have count := countP_tabSet (v := movedEntry s.sl.params s.now n t c) (fun q : Nat × Client => isServing q.2.role) hs hc
  simp only [serving, if_true] at count
  exact count

/-- The client that moves is not offered; the offers are of entries served before it moved (R62). -/
theorem offersFrom_moved {v : Event} {l : List Offer} (hs : tabSorted s.rc.clients = true)
    (hl : OffersFrom (movedState i c n t v s) l) : ∀ o ∈ l, o.client ≠ i ∧ o.ends = s.now + 300000000 ∧
      ∃ e r, clientAt s o.client = some e ∧ e.role = .served ∧ e.best = some r ∧ r.node = o.node := by
  intro o ho
  obtain ⟨hends, e, r, hmem, hr, hb, hn⟩ := hl o ho
  have entry : tabGet (tabSet s.rc.clients i (movedEntry s.sl.params s.now n t c)) o.client = some e :=
    tabGet_of_mem (tabSorted_tabSet i _ hs) hmem
  have other : o.client ≠ i := fun h => by
    rw [h, tabGet_tabSet_self] at entry
    rw [← Option.some.inj entry] at hr
    cases hr
  rw [tabGet_tabSet_ne _ _ other] at entry
  exact ⟨other, hends, e, r, entry, hr, hb, hn⟩

/-! ## A client served elsewhere, or nowhere -/

/-- What Table 3-2 makes of an entry that is neither SERVED nor HANDING. -/
def followedEntry (now n : Nat) (t : BitVec 16) (c : Client) : Client :=
  let learned : Client := { c with
    role := .remote, serving := n, tenure := t, lastActivity := now
    servingReading := if c.serving = n then c.servingReading else none
    better := if c.serving = n then c.better else 0 }
  if c.role = .remote then learned else { learned with timer := none, claimNo := none, claimant := none, verdict := none }

/-- The offers that stay when such a client arrives elsewhere (R63). -/
def followedOffers (i : Nat) (c : Client) (l : List Offer) : List Offer :=
  if c.role = .remote then l else l.filter (fun o => o.client != i)

/-- The part after such an ARRIVED, before offers are made. -/
def followedState (i : Nat) (c : Client) (n : Nat) (t : BitVec 16) (s : State) : State := s.setRc { s.rc with
  clients := tabSet s.rc.clients i (followedEntry s.now n t c)
  offers := followedOffers i c s.rc.offers }

theorem followedEntry_role (now : Nat) : (followedEntry now n t c).role = .remote := by
  unfold followedEntry
  dsimp only
  split <;> rfl

theorem arrivedEntry_elsewhere (hc : clientAt s i = some c) (h1 : c.role ≠ .served) (h2 : c.role ≠ .handing) :
    arrivedEntry i c n t s = followedState i c n t s := by
  have turned (hr : isServing c.role = false) (hne : c.role ≠ .remote) :
      toRole i .remote (fun x => setServing n { x with tenure := t }) s = followedState i c n t s := by
    have entry : setServing n { changeRole s.sl.params s.now .remote c with tenure := t } = followedEntry s.now n t c := by
      simp [followedEntry, setServing_eq, changeRole, roleTimer, show isServing .remote = false from rfl, hr, hne]
    rw [toRole_leaving _ hc (by decide), entry, followedState, followedOffers, if_neg hne]
  cases hr : c.role with
  | served => exact absurd hr h1
  | handing => exact absurd hr h2
  | remote =>
    have entry : ({ setServing n { c with tenure := t } with lastActivity := s.now } : Client) =
        followedEntry s.now n t c := by simp [followedEntry, setServing_eq, hr]
    have effect : arrivedEntry i c n t s = putClient i { setServing n { c with tenure := t } with lastActivity := s.now } s := by
      rw [arrivedEntry, hr]
    rw [effect, entry, followedState, followedOffers, if_pos hr]
    rfl
  | claiming | expecting | orphan | departed =>
    refine Eq.trans ?_ (turned (by simp [hr, isServing]) (by simp [hr]))
    rw [arrivedEntry, hr]

/-- It ends no drain (R62, R163). -/
theorem drainSettle_followed (hc : clientAt s i = some c) (h1 : c.role ≠ .served) (h2 : c.role ≠ .handing)
    (hd : acDraining s = false ∨ servedCount s ≠ 0) :
    drainSettle (followedState i c n t s) = offerFill (followedState i c n t s) := by
  have before : isServing c.role = false := by
    cases hr : c.role <;> simp_all [isServing]
  have same : servedCount (followedState i c n t s) = servedCount s :=
    countP_tabSet_of_not (t := s.rc.clients) (fun q => isServing q.2.role) hc before
      (by simp [followedEntry_role, isServing])
  exact congrArg offerFill (acDrained_calm (hd.imp_right fun h => same ▸ h))

end

/-! ## The command -/

section
variable {f : MeshFrame} {p : Peer} {a : Addr} {t : BitVec 16} {i : Nat} {c : Client} {s : State}

/-- The part after an ARRIVED of a client served here, before a drain is looked at. -/
def arrivedHere (f : MeshFrame) (p : Peer) (i : Nat) (c : Client) (t : BitVec 16) (s : State) : State :=
  movedState i c f.source.toNat t (.clientArrived c.addr f.source.toNat t) (afterSeq f p s)

theorem servedCount_arrivedHere (hs : tabSorted s.rc.clients = true) (hc : clientAt s i = some c)
    (hr : c.role = .served ∨ c.role = .handing) : servedCount (arrivedHere f p i c t s) + 1 = servedCount s :=
  servedCount_moved (s := afterSeq f p s) hs hc hr

theorem exec_arrived_serving (h : delivered 7 f p (.arrived a t) s) (hw : txWaits s = true) (he : entryOf s a i c)
    (hr : c.role = .served ∨ c.role = .handing) :
    exec (.arrivedReceive f) s = .next (drainSettle (arrivedHere f p i c t s)) := by
  rw [exec_arrived h, takeArrived_found (s := afterSeq f p s) he.1,
    arrivedEntry_serving (s := afterSeq f p s) (delivered_running h : running s = true) he.2 hr, wake_waits]
  · rfl
  · simpa [txWaits, movedState, afterSeq] using hw

theorem exec_arrived_elsewhere (h : delivered 7 f p (.arrived a t) s) (hw : txWaits s = true) (he : entryOf s a i c)
    (h1 : c.role ≠ .served) (h2 : c.role ≠ .handing) (hd : acDraining s = false ∨ servedCount s ≠ 0) :
    exec (.arrivedReceive f) s = .next (offerFill (followedState i c f.source.toNat t (afterSeq f p s))) := by
  rw [exec_arrived h, takeArrived_found (s := afterSeq f p s) he.1, arrivedEntry_elsewhere (s := afterSeq f p s) he.2 h1 h2,
    drainSettle_followed (s := afterSeq f p s) he.2 h1 h2 hd, wake_offerFill (by exact hw)]

end

/-- Settles O27: an unknown client, a served one outside DRAINING, the last served one, one of several, and any other. -/
theorem arrivedMovesClient : Obligations.ArrivedMovesClient := by
  intro f p a tenure s h hw
  refine ⟨fun hf => ?_, fun i c he => ?_⟩
  · rw [exec_arrived h, takeArrived_unknown (s := afterSeq f p s) hf]
    rfl
  · intro moved context arrived
    refine ⟨fun hr hd => ?_, fun hr hd h1 hs d hdesc => ?_, fun hr hd h2 hs => ?_, fun h1 h2 hd => ?_⟩
    · rw [exec_arrived_serving h hw he hr, drainSettle_idle (by exact hd)]
      rfl
    · have left := servedCount_arrivedHere (f := f) (p := p) (t := tenure) hs he.2 hr
      have nobody : servedCount (arrivedHere f p i c tenure s) = 0 := by omega
      have number : incomingNumber s = d.number := by simp [incomingNumber, hdesc]
      rw [exec_arrived_serving h hw he hr, drainSettle_ends (by exact hd) nobody, enterLeaving_draining false (by exact hd),
        nobody, ← number]
      rfl
    · have left := servedCount_arrivedHere (f := f) (p := p) (t := tenure) hs he.2 hr
      obtain ⟨l, q, hl, hfill⟩ := offerFill_offered (arrivedHere f p i c tenure s)
      rw [exec_arrived_serving h hw he hr, drainSettle_goes_on (by omega), hfill]
      exact ⟨_, l, rfl, rfl, offersFrom_moved (s := afterSeq f p s) hs hl, rfl, rfl, rfl⟩
    · intro learned entry kept
      obtain ⟨l, q, -, hfill⟩ := offerFill_offered (followedState i c f.source.toNat tenure (afterSeq f p s))
      refine ⟨_, exec_arrived_elsewhere h hw he h1 h2 hd, ?_, ?_, fun j hj => ?_, ?_, fun hdr => ?_⟩
      · rw [hfill]
        rfl
      · rw [hfill]
        exact tabGet_tabSet_self _ i _
      · rw [hfill]
        exact tabGet_tabSet_ne _ _ hj
      · rw [hfill]
        exact List.prefix_append kept l
      · rw [offerFill_idle (by exact hdr)]
        exact ⟨rfl, rfl⟩

end Sys2Proof.Machine
end
section
/-! SUPPORT. The offer list filled from any list: the first clients that may be offered, in index order, as far as the list
holds eight (R62). -/

namespace Sys2Proof.Machine

/-- The node of a client's best reading. -/
def bestNode (q : Nat × Client) : Nat := (q.2.best.map BestReading.node).getD 0

/-- The entries that may be offered, in index order (R62). -/
def mayBeOffered (s : State) : Table Client := s.rc.clients.filter (fun q => offerEligible s q.1 q.2)

/-- The part with these clients offered one after the other, each to the node of its best reading (R62). -/
def offersMade (l : List (Nat × Client)) (s : State) : State := { s with
  rc := { s.rc with
    offers := s.rc.offers ++
      l.map (fun q => { client := q.1, node := bestNode q, ends := s.now + Config.claimWaitNs }) }
  bu := if running s then
      { s.bu with control := l.foldl (fun c q => joinControl (.bulletin (bestNode q) (.offer q.2.addr)) c) s.bu.control }
    else s.bu }

theorem offersMade_nil (s : State) : offersMade [] s = s := by
  simp [offersMade]

theorem offersMade_cons (q : Nat × Client) (l : List (Nat × Client)) (s : State) :
    offersMade l (offersMade [q] s) = offersMade (q :: l) s := by
  have same : running (offersMade [q] s) = running s := rfl
  rw [offersMade, same]
  cases h : running s <;> simp [offersMade, h]

theorem offerEligible_best {s : State} {q : Nat × Client} (h : offerEligible s q.1 q.2 = true) :
    ∃ r, q.2.best = some r ∧ bestNode q = r.node := by
  cases hb : q.2.best with
  | none => simp [offerEligible, hb] at h
  | some r => exact ⟨r, rfl, by simp [bestNode, hb]⟩

theorem offerOne_none {s : State} (h : mayBeOffered s = []) : offerOne s = s := by
  have none' : s.rc.clients.find? (fun q => offerEligible s q.1 q.2) = none :=
    List.find?_eq_none.2 (List.filter_eq_nil_iff.1 h)
  rw [offerOne, none']

theorem offerOne_first {s : State} {q : Nat × Client} {r : Table Client} (h : mayBeOffered s = q :: r) :
    offerOne s = offersMade [q] s := by
  have first : s.rc.clients.find? (fun q => offerEligible s q.1 q.2) = some q := by
    rw [← List.head?_filter, show s.rc.clients.filter (fun q => offerEligible s q.1 q.2) = q :: r from h, List.head?_cons]
  have eligible : offerEligible s q.1 q.2 = true := by simpa using List.find?_some first
  obtain ⟨b, hb, hn⟩ := offerEligible_best eligible
  rw [offerOne, first]
  simp only [hb, ← hn]
  cases hr : running s with
  | true => rw [sendBulletin_running _ _ hr]; simp [offersMade, hr]; rfl
  | false => simp [offersMade, hr, sendBulletin, queueControl, State.setRc]

/-- An offer made takes its client alone from those that may be offered (R62). -/
theorem offerEligible_offersMade (q p : Nat × Client) (s : State) :
    offerEligible (offersMade [q] s) p.1 p.2 = (offerEligible s p.1 p.2 && q.1 != p.1) := by
  have peers : (offersMade [q] s).bu.peers = s.bu.peers := by
    cases h : running s <;> simp [offersMade, h]
  have takes (b : BestReading) : (isPresent (offersMade [q] s) b.node && !isDrainingPeer (offersMade [q] s) b.node) =
      (isPresent s b.node && !isDrainingPeer s b.node) := by
    simp only [isPresent, isDrainingPeer, peerOf, peers]
  have offered : (offersMade [q] s).rc.offers.any (fun o => o.client == p.1) =
      (s.rc.offers.any (fun o => o.client == p.1) || q.1 == p.1) := by simp [offersMade]
  have lapsed : (offersMade [q] s).rc.lapsed = s.rc.lapsed := rfl
  simp only [offerEligible, offered, takes, lapsed, Bool.not_or, bne]
  ac_rfl

theorem mayBeOffered_offersMade {s : State} {q : Nat × Client} {r : Table Client} (hs : tabSorted s.rc.clients = true)
    (h : mayBeOffered s = q :: r) : mayBeOffered (offersMade [q] s) = r := by
  have rising : tabSorted (q :: r) = true := h ▸ tabSorted_filter _ hs
  have later (p : Nat × Client) (hp : p ∈ r) : (q.1 != p.1) = true := bne_iff_ne.2 ((tabSorted_cons.1 rising).1 p hp).ne
  calc mayBeOffered (offersMade [q] s)
      = s.rc.clients.filter (fun p => offerEligible s p.1 p.2 && q.1 != p.1) := by
        simp only [mayBeOffered, offerEligible_offersMade]
        rfl
    _ = (mayBeOffered s).filter (fun p => q.1 != p.1) := by
        rw [mayBeOffered, List.filter_filter]
        simp only [Bool.and_comm]
    _ = r := by
        rw [h, List.filter_cons_of_neg (by simp), List.filter_eq_self.2 later]

/-- The loop offers the first clients, as far as its count goes and the list holds eight (R62). -/
theorem offerLoop_offers (n : Nat) {s : State} (hs : tabSorted s.rc.clients = true) :
    offerLoop n s = offersMade ((mayBeOffered s).take (min n (8 - s.rc.offers.length))) s := by
  induction n generalizing s with
  | zero => rw [Nat.zero_min, List.take_zero, offersMade_nil]; rfl
  | succ n ih =>
    rw [offerLoop, Config.offerListMax]
    by_cases hlen : s.rc.offers.length < 8
    · rw [if_pos hlen]
      cases h : mayBeOffered s with
      | nil => rw [offerOne_none h, ih hs, h, List.take_nil, List.take_nil]
      | cons q r =>
        have longer : (offersMade [q] s).rc.offers.length = s.rc.offers.length + 1 := by simp [offersMade]
        have count : min (n + 1) (8 - s.rc.offers.length) = min n (8 - (s.rc.offers.length + 1)) + 1 := by omega
        rw [offerOne_first h, ih (s := offersMade [q] s) hs, mayBeOffered_offersMade hs h, longer, offersMade_cons, count,
          List.take_succ_cons]
    · have full : min (n + 1) (8 - s.rc.offers.length) = 0 := by omega
      rw [if_neg hlen, full, List.take_zero, offersMade_nil]

/-- A DRAINING node's list is filled up to eight (R62). -/
theorem offerFill_offers {s : State} (hs : tabSorted s.rc.clients = true) (hd : acDraining s = true) :
    offerFill s = offersMade ((mayBeOffered s).take (8 - s.rc.offers.length)) s := by
  have count : min 8 (8 - s.rc.offers.length) = 8 - s.rc.offers.length := by omega
  rw [offerFill, if_pos hd, ← count]
  exact offerLoop_offers 8 hs

end Sys2Proof.Machine
end
section
/-! OBLIGATION O42. Drain offers lapse, and the drain and lapse timers end their states (R62, R63, R163, R164). -/

namespace Sys2Proof.Machine

/-! ## The offer timer (R62, R63) -/

/-- The peers that may be offered a client, read from the Peer Table (R62). -/
theorem takesClients_eq (s : State) (n : Nat) : takesClients s n =
    match tabGet s.bu.peers n with
    | some p => p.state == .present && !p.adv.draining && !p.adv.leaving
    | none => false := by
  unfold takesClients isPresent isDrainingPeer peerOf
  cases tabGet s.bu.peers n with
  | none => rfl
  | some p => simp only [Bool.not_or, Bool.and_assoc]

/-- What R62 asks of an entry, read from the tables. -/
theorem offerEligible_eq (s : State) (q : Nat × Client) : offerEligible s q.1 q.2 =
    (q.2.role == .served && s.rc.offers.all (fun x => x.client != q.1) &&
      match q.2.best with
      | some b => (match tabGet s.bu.peers b.node with
          | some p => p.state == .present && !p.adv.draining && !p.adv.leaving
          | none => false) && (match tabGet s.rc.lapsed q.1 with
          | some d => decide (d < b.since)
          | none => true)
      | none => false) := by
  have unoffered : (!s.rc.offers.any (fun o => o.client == q.1)) = s.rc.offers.all (fun x => x.client != q.1) :=
    List.not_any_eq_all_not
  unfold offerEligible
  rw [unoffered]
  cases q.2.best with
  | none => rfl
  | some b =>
    have peer := takesClients_eq s b.node
    rw [takesClients] at peer
    dsimp only
    rw [peer] <;> rfl

/-- A client whose best reading is no newer than its lapse is not offered again (R62; assumption log 22). -/
theorem offerEligible_lapsed {s : State} {i d : Nat} {c : Client} {b : BestReading} (hl : tabGet s.rc.lapsed i = some d)
    (hb : c.best = some b) (h : b.since ≤ d) : offerEligible s i c = false := by
  simp [offerEligible, hb, hl, Nat.not_lt.2 h]

section
variable {i : Nat} {o : Offer} {s : State}

theorem exec_offerTimerExpiry_none (ha : alive s = true) (h : s.rc.offers.find? (fun o => o.client == i) = none) :
    exec (.offerTimerExpiry i) s = .next s := by
  show execOfferTimerExpiry i s = _
  rw [execOfferTimerExpiry, taken_alive ha]
  simp only [h]

theorem exec_offerTimerExpiry (ha : alive s = true) (h : s.rc.offers.find? (fun o => o.client == i) = some o)
    (hw : txWaits s = true) :
    exec (.offerTimerExpiry i) s = .next (offerFill (lapseOffer i (runTo o.ends s))) := by
  have waits : txWaits (lapseOffer i (runTo o.ends s)) = true := (txWaits_runTo o.ends s).trans hw
  show execOfferTimerExpiry i s = _
  rw [execOfferTimerExpiry, taken_alive ha, ← wake_offerFill waits]
  simp only [h]

/-- The clients a lapse makes room for: none outside DRAINING (R62). -/
def refilled (u : State) : Table Client :=
  if u.ac.state = .draining then (mayBeOffered u).take (8 - u.rc.offers.length) else []

theorem refilled_eligible {u : State} {q : Nat × Client} (h : q ∈ refilled u) : offerEligible u q.1 q.2 = true := by
  unfold refilled at h
  split at h
  · exact (List.mem_filter.1 (List.mem_of_mem_take h)).2
  · cases h

theorem offerFill_refilled {u : State} (hs : tabSorted u.rc.clients = true) : offerFill u = offersMade (refilled u) u := by
  by_cases hd : u.ac.state = .draining
  · rw [refilled, if_pos hd, offerFill_offers hs (by simp [acDraining, hd])]
  · rw [refilled, if_neg hd, offersMade_nil, offerFill_idle (by simp [acDraining, hd])]

end

/-! ## The drain and lapse timers (R163, R164) -/

section
variable {d : Nat} {s : State}

theorem exec_drainTimerExpiry (ha : alive s = true) (ht : s.ac.drainTimer = some d) (hd : s.ac.state = .draining) :
    exec .drainTimerExpiry s = .next (enterLeaving true (runTo d s)) := by
  refine (taken_alive ha).trans (congrArg _ ?_)
  rw [ht, onExpiry_some, if_pos (by simp [acDraining, hd])]

theorem exec_lapseTimerExpiry (ha : alive s = true) (ht : s.ac.lapseTimer = some d) (hd : s.ac.state = .leaving) :
    exec .lapseTimerExpiry s = .next (lapseActivation (runTo d s)) := by
  refine (taken_alive ha).trans (congrArg _ ?_)
  rw [ht, onExpiry_some, if_pos (by simp [hd])]

/-- LEAVING that lapses: WAITING with the holdoff, the activate-now mark clear, the event (R164). -/
theorem lapseActivation_leaving (h : s.ac.state = .leaving) : lapseActivation s = { s with
    ac := { s.ac with
      state := .waiting, lapseTimer := none, holdoffEnds := s.now + 1800000000000, activateNow := false }
    ml := offerEvent (stamp (.activationLapsed (incomingNumber s)) s) s.ml } := by
  have calm : acTo .waiting s = s.setAc { s.ac with state := .waiting } := if_neg (by simp [acDraining, h])
  rw [lapseActivation, calm]
  rfl

end

/-- Settles O42: the offer timer with and without an offer, then the timers of DRAINING and LEAVING. -/
theorem drainTimersEndTheirStates : Obligations.DrainTimersEndTheirStates := by
  refine ⟨fun i s ha => ⟨exec_offerTimerExpiry_none ha, fun o ho hw hs => ?_⟩, fun s ha => ⟨fun h => ?_, fun h => ?_,
    fun d ht hd => ?_, fun d ht hd => ?_⟩⟩
  · intro u kept lapsed peerTakes eligible chosen best
    have time := runTo_now o.ends s
    obtain ⟨now, su, hrun⟩ := runTo_cases o.ends s
    have hlapsed : (lapseOffer i u).rc.lapsed = lapsed := by
      simp [lapseOffer, u, lapsed, time]
    have hkept : (lapseOffer i u).rc.offers = kept := by
      simp [lapseOffer, u, kept]
    have hchosen : refilled (lapseOffer i u) = chosen := by
      have same (q : Nat × Client) : offerEligible (lapseOffer i u) q.1 q.2 = eligible q := by
        rw [offerEligible_eq, hlapsed, hkept]
        simp only [lapseOffer, u, hrun] <;> rfl
      simp only [refilled, mayBeOffered, same, hkept]
      simp [lapseOffer, u, chosen]
    refine ⟨?_, fun c b hc hb hold hmem => ?_⟩
    · rw [exec_offerTimerExpiry ha ho hw, offerFill_refilled (by simpa [lapseOffer] using hs), show runTo o.ends s = u from rfl,
        hchosen]
      have now_eq : now = max s.now o.ends := by rw [← time, hrun]
      subst now_eq
      simp only [offersMade, lapseOffer, u, hrun]
      rfl
    · have noted : tabGet (lapseOffer i u).rc.lapsed i = some (max s.now o.ends) := by
        rw [hlapsed]
        exact tabGet_tabSet_self _ i _
      have stale := offerEligible_lapsed noted hb hold
      rw [← hchosen] at hmem
      exact absurd (refilled_eligible hmem) (by rw [stale]; decide)
  · exact (taken_alive ha).trans (by rw [h, onExpiry_none])
  · exact (taken_alive ha).trans (by rw [h, onExpiry_none])
  · intro u
    obtain ⟨now, su, hrun⟩ := runTo_cases d s
    rw [exec_drainTimerExpiry ha ht hd, show u = runTo d s from rfl, hrun, enterLeaving_draining true (by simp [acDraining, hd])]
    rfl
  · intro u
    obtain ⟨now, su, hrun⟩ := runTo_cases d s
    rw [exec_lapseTimerExpiry ha ht hd, show u = runTo d s from rfl, hrun, lapseActivation_leaving (by exact hd)]
    rfl

end Sys2Proof.Machine
end
section
/-! SUPPORT. The Activation Controller's look at its conditions, and what ACTIVATE NOW and CANCEL ACTIVATION make of it (R159,
R160, R165). -/

namespace Sys2Proof.Machine

section
variable {x : Submit} {s : State}

theorem acBusy_iff : acBusy s = true ↔
    s.ac.state = .draining ∨ s.ac.state = .leaving ∨ s.ac.state = .swapping ∨ s.ac.state = .swapped := by
  cases h : s.ac.state <;> simp [acBusy, h]

/-- Where the conditions take IDLE, WAITING and WANTING (R159). -/
def looked (ok : Bool) (a : AcState) : AcState := if a = .idle then .idle else if ok then .wanting else .waiting

/-- IDLE, WAITING and WANTING follow the conditions, and a change sets the count to 0 (R159). -/
theorem acConditions_looked (h : s.ac.state = .idle ∨ s.ac.state = .waiting ∨ s.ac.state = .wanting) :
    acConditions s = { s with ac := { s.ac with
      state := looked (activationOk s) s.ac.state
      count := if looked (activationOk s) s.ac.state = s.ac.state then s.ac.count else 0 } } := by
  rcases h with h | h | h
  · have stays : acConditions s = s := by simp only [acConditions, h]
    rw [stays, show looked (activationOk s) s.ac.state = s.ac.state by rw [looked, if_pos h, h], if_pos rfl]
  · cases hok : activationOk s with
    | false =>
      have stays : acConditions s = s := by simp [acConditions, h, hok]
      rw [stays, show looked false s.ac.state = s.ac.state by rw [h]; rfl, if_pos rfl]
    | true => simp [acConditions, h, hok, looked, acTo, acDraining, State.setAc]
  · rw [acConditions_wanting h]
    cases hok : activationOk s with
    | true => rw [show looked true s.ac.state = s.ac.state by rw [h]; rfl, if_pos rfl, if_pos rfl]
    | false => simp [h, looked]

/-! ## ACTIVATE NOW (R160) -/

theorem exec_activateNow (h : requestTaken (lenIs 0) x s) : exec (.activateNow x) s =
    .next (runActivateNow (submitArgs x) (s.setMl (mlPending 13 x s))) := taken_submit h

/-- The AC with the activate-now mark set and the conditions looked at: the maintenance window and the clock count as met
(R160). -/
def activatedAc (s : State) : Ac :=
  let state := looked (condHoldoff s && condQuiet s) s.ac.state
  { s.ac with state := state, activateNow := true, count := if state = s.ac.state then s.ac.count else 0 }

theorem acConditions_activated (h : s.ac.state = .idle ∨ s.ac.state = .waiting ∨ s.ac.state = .wanting) :
    acConditions (s.setAc { s.ac with activateNow := true }) = s.setAc (activatedAc s) := by
  have ok : activationOk (s.setAc { s.ac with activateNow := true }) = (condHoldoff s && condQuiet s) := by
    have maintenance : condMaintenance (s.setAc { s.ac with activateNow := true }) = true := Bool.or_true _
    have clock : condClock (s.setAc { s.ac with activateNow := true }) = true := Bool.or_true _
    rw [activationOk, maintenance, clock, Bool.and_true, Bool.and_true]
    rfl
  rw [acConditions_looked (s := s.setAc { s.ac with activateNow := true }) h, ok]
  rfl

theorem runActivateNow_busy {d : List Byte} (h : acBusy s = true) : runActivateNow d s = complete .wrongState [] s := if_pos h

theorem acReport_activated : acReport (s.setAc (activatedAc s)) =
    [BitVec.ofNat 8 (acCode (activatedAc s).state), if s.ac.holdoffEnds ≤ s.now then 1#8 else 0#8, 1#8,
      if condQuiet s then 1#8 else 0#8, 1#8] := by
  have quiet : condQuiet (s.setAc (activatedAc s)) = condQuiet s := rfl
  have holdoff : condHoldoff (s.setAc (activatedAc s)) = decide (s.ac.holdoffEnds ≤ s.now) := rfl
  have maintenance : condMaintenance (s.setAc (activatedAc s)) = true := Bool.or_true _
  have clock : condClock (s.setAc (activatedAc s)) = true := Bool.or_true _
  rw [acReport, quiet, holdoff, maintenance, clock, toBE_one]
  simp only [flagByte, decide_eq_true_eq]
  rfl

theorem runActivateNow_looks {d : List Byte} (h : s.ac.state = .idle ∨ s.ac.state = .waiting ∨ s.ac.state = .wanting) :
    runActivateNow d s = complete .ok (acReport (s.setAc (activatedAc s))) (s.setAc (activatedAc s)) := by
  have free : acBusy s = false := by rcases h with h | h | h <;> simp [acBusy, h]
  rw [runActivateNow, free, ← acConditions_activated h]
  rfl

/-! ## CANCEL ACTIVATION (R165) -/

theorem exec_cancelActivation (h : requestTaken (lenIs 0) x s) : exec (.cancelActivation x) s =
    .next (runCancelActivation (submitArgs x) (s.setMl (mlPending 15 x s))) := taken_submit h

theorem cancelled_eq (h1 : s.ac.state ≠ .swapping) (h2 : s.ac.state ≠ .swapped) : cancelled s = { s with
    rc := if s.ac.state = .draining then { s.rc with offers := [], lapsed := [] } else s.rc
    ac := if s.ac.state = .idle ∨ s.ac.state = .waiting then
        { s.ac with activateNow := false, holdoffEnds := s.now + 1800000000000 }
      else { s.ac with
        state := .waiting, count := 0, drainTimer := none, lapseTimer := none, activateNow := false
        holdoffEnds := s.now + 1800000000000 } } := by
  cases h : s.ac.state with
  | swapping => exact absurd h h1
  | swapped => exact absurd h h2
  | idle | waiting => simp [cancelled, h, setHoldoff, State.setAc, Config.holdoffNs, Config.minNs]
  | wanting | leaving =>
    simp [cancelled, h, setHoldoff, acStopTimers, acTo, acDraining, State.setAc, Config.holdoffNs, Config.minNs]
  | draining =>
    simp [cancelled, h, setHoldoff, acStopTimers, acTo, acDraining, clearOffers, State.setAc, State.setRc, Config.holdoffNs,
      Config.minNs]

/-- With the holdoff just set no condition is met, and the AC stays where the request took it (R159, R165). -/
theorem acConditions_cancelled (h1 : s.ac.state ≠ .swapping) (h2 : s.ac.state ≠ .swapped) :
    acConditions (cancelled s) = cancelled s := by
  have hac : (cancelled s).ac.holdoffEnds = s.now + 1800000000000 ∧
      ((cancelled s).ac.state = .idle ∨ (cancelled s).ac.state = .waiting) := by
    rw [cancelled_eq h1 h2]
    dsimp only
    split
    · exact ⟨rfl, ‹_›⟩
    · exact ⟨rfl, .inr rfl⟩
  have unmet : activationOk (cancelled s) = false := by
    simp [activationOk, condHoldoff, hac.1]
  rcases hac.2 with h | h
  · simp only [acConditions, h]
  · simp [acConditions, h, unmet]

theorem runCancelActivation_swapping {d : List Byte} (h : s.ac.state = .swapping ∨ s.ac.state = .swapped) :
    runCancelActivation d s = complete .wrongState [] s := if_pos h

theorem runCancelActivation_cancels {d : List Byte} (h1 : s.ac.state ≠ .swapping) (h2 : s.ac.state ≠ .swapped) :
    runCancelActivation d s = complete .ok [BitVec.ofNat 8 (acCode s.ac.state)] (cancelled s) := by
  rw [runCancelActivation, if_neg (fun h => h.elim h1 h2), acConditions_cancelled h1 h2, toBE_one]

end

end Sys2Proof.Machine
end
section
/-! OBLIGATION O51. ACTIVATE NOW, CANCEL ACTIVATION and SWAP SLOTS (R63, R155, R158 to R160, R165, R166). -/

namespace Sys2Proof.Machine

/-! ## SWAP SLOTS (R166) -/

section
variable {x : Submit} {d : List Byte} {s : State}

theorem exec_swapSlots (h : requestTaken (lenIs 0) x s) : exec (.swapSlots x) s =
    .next (runSwapSlots (submitArgs x) (s.setMl (mlPending 14 x s))) := taken_submit h

theorem runSwapSlots_wrongState (h : s.ac.state ≠ .leaving) : runSwapSlots d s = complete .wrongState [] s := if_pos h

theorem runSwapSlots_outOfRange (h : s.ac.state = .leaving) (hc : 4294967295 < swapCount s) :
    runSwapSlots d s = complete .outOfRange [] s := by
  rw [runSwapSlots, if_neg (by simp [h]), if_pos hc]

/-- The AC in SWAPPING, before the two header programs are asked for. -/
def swappingAc (a : Ac) : Ac := { a with state := .swapping, lapseTimer := none }

/-- The two header programs of a swap in their order: the active mark of the incoming slot, the retired mark of the active
one (R166). -/
def swapPrograms (s : State) : List HeaderWork :=
  [.mark (incSlot s) (.active (swapCount s)), .mark s.ie.activeSlot .retired]

/-- The part with a swap asked for, before flash work starts. -/
def swapAsked (s : State) : State := { s with
  ac := swappingAc s.ac
  ie := { s.ie with headers := s.ie.headers ++ swapPrograms s } }

theorem runSwapSlots_begins (h : s.ac.state = .leaving) (hc : swapCount s ≤ 4294967295) :
    runSwapSlots d s = startFlash (swapAsked s) := by
  have calm : acTo .swapping s = s.setAc { s.ac with state := .swapping } := if_neg (by simp [acDraining, h])
  rw [runSwapSlots, if_neg (by simp [h]), if_neg (Nat.not_lt.2 hc), beginSwap, calm, swapAsked, swapPrograms,
    List.append_cons]
  rfl

/-- The first header-class work starts, and the rest waits (R141). -/
theorem startFlash_firstHeader {w : HeaderWork} {r : List HeaderWork} (ho : s.ie.op = none)
    (hs : s.pins.supplyFail = false) (hh : s.ie.headers = w :: r) :
    (startFlash s).ie.op = some (.header w) ∧ (startFlash s).ie.headers = r := by
  have started := ((startFlash_started hs).2 ho).1 w r hh
  rw [started]
  exact ⟨rfl, rfl⟩

end

/-! ## The end of its programs (R166) -/

theorem Flash.header_setHeader_other (f : Flash) (sl : Slot) (h : Header) :
    (f.setHeader sl h).header (otherSlot sl) = f.header (otherSlot sl) := by
  cases sl <;> rfl

section
variable {s : State}

/-- What follows the end of a program, the transmitter waiting, leaves the link and the slots' contents as they were. -/
theorem afterOp_keeps (hw : txWaits s = true) : (afterOp s).flash = s.flash ∧ (afterOp s).ac = s.ac ∧
    (afterOp s).ml = s.ml ∧ (afterOp s).ie.inc = s.ie.inc ∧ (afterOp s).ie.incDesc = s.ie.incDesc ∧
    (afterOp s).ie.activeDesc = s.ie.activeDesc := by
  rw [afterOp_waits hw, startFlash_ie, issueFetches_eq]
  simp

theorem exec_swapProgramDone_other (ha : alive s = true) (h1 : ∀ sl n, s.ie.op ≠ some (.header (.mark sl (.active n))))
    (h2 : ∀ sl, s.ie.op ≠ some (.header (.mark sl .retired))) : exec .swapProgramDone s = .next s := by
  show execSwapProgramDone s = _
  rw [execSwapProgramDone, taken_alive ha]
  split
  · exact absurd ‹_› (h1 _ _)
  · exact absurd ‹_› (h2 _)
  · rfl

theorem exec_swapProgramDone_active {sl : Slot} {n : Nat} (ha : alive s = true)
    (ho : s.ie.op = some (.header (.mark sl (.active n)))) :
    exec .swapProgramDone s = .next (afterOp (markHeader sl (.active n) (opDone s))) := by
  show execSwapProgramDone s = _
  rw [execSwapProgramDone, taken_alive ha]
  simp only [ho]

theorem exec_swapProgramDone_retired {sl : Slot} (ha : alive s = true)
    (ho : s.ie.op = some (.header (.mark sl .retired))) :
    exec .swapProgramDone s = .next (afterOp (swapDone (markHeader sl .retired (opDone s)))) := by
  show execSwapProgramDone s = _
  rw [execSwapProgramDone, taken_alive ha]
  simp only [ho]

/-- The active mark's count in the incoming slot's header. -/
def markedCount (s : State) : Nat := ((s.flash.header (incSlot s)).activeCount).getD 0

/-- The second program's end: SWAPPED, its event, and the waiting request's result (R166). -/
theorem swapDone_eq (hd : acDraining s = false) : swapDone s = { s with
    ac := { s.ac with state := .swapped }
    ml := if s.ml.state = .pending ∧ s.ml.code = 14 then
        { offerEvent (stamp (.swapped (incomingNumber s) (markedCount s)) s) s.ml with
          state := .done, outcome := some .ok, result := toBE 4 (markedCount s), polled := false }
      else offerEvent (stamp (.swapped (incomingNumber s) (markedCount s)) s) s.ml } := by
  have calm : acTo .swapped s = s.setAc { s.ac with state := .swapped } := if_neg (by simp [hd])
  have kept (r : EventRec) : (offerEvent r s.ml).state = s.ml.state ∧ (offerEvent r s.ml).code = s.ml.code := by
    rw [offerEvent_eq]
    exact ⟨rfl, rfl⟩
  rw [swapDone, calm, completePending_eq]
  have := kept (stamp (.swapped (incomingNumber s) (markedCount s)) s)
  rw [← this.1, ← this.2]
  rfl

end

/-- Settles O51, request by request, then the ends of the two programs of a swap. -/
theorem activationAndSwapRequests : Obligations.ActivationAndSwapRequests := by
  refine ⟨⟨fun x s h => ⟨fun hb => ?_, fun hq => ?_⟩, fun x s h => ⟨fun hb => ?_, fun h1 h2 => ?_⟩⟩, fun x s h => ?_,
    fun s ha h1 h2 => exec_swapProgramDone_other ha h1 h2, fun sl n s ha hw ho => ?_, fun s ha hw hd ho => ?_⟩
  · rw [exec_activateNow h, runActivateNow_busy (s := s.setMl (mlPending 13 x s)) (acBusy_iff.2 hb)]
    rfl
  · intro ok state
    rw [exec_activateNow h, runActivateNow_looks (s := s.setMl (mlPending 13 x s)) hq, acReport_activated]
    rfl
  · rw [exec_cancelActivation h, runCancelActivation_swapping (s := s.setMl (mlPending 15 x s)) hb]
    rfl
  · rw [exec_cancelActivation h, runCancelActivation_cancels (s := s.setMl (mlPending 15 x s)) h1 h2,
      cancelled_eq (s := s.setMl (mlPending 15 x s)) h1 h2]
    rfl
  · intro count first second
    have hcount : swapCount (s.setMl (mlPending 14 x s)) = count := rfl
    refine ⟨fun hl => ?_, fun hl hc => ?_, fun hl hc =>
      ⟨startFlash (swapAsked (s.setMl (mlPending 14 x s))), ?_, ?_, ?_, ?_, ?_, ?_, fun hs => ?_, fun ho => ?_, fun hs ho hh => ?_⟩⟩
    · rw [exec_swapSlots h, runSwapSlots_wrongState (s := s.setMl (mlPending 14 x s)) hl]
      rfl
    · rw [exec_swapSlots h, runSwapSlots_outOfRange (s := s.setMl (mlPending 14 x s)) hl hc]
      rfl
    · rw [exec_swapSlots h, runSwapSlots_begins (s := s.setMl (mlPending 14 x s)) hl hc]
    · simp [swapAsked, swappingAc]
    · simp [swapAsked]
    · simp [swapAsked]
    · simp [swapAsked]
    · simp [swapAsked]
    · exact startFlash_headers_kept (.inr hs)
    · exact startFlash_headers_kept (.inl ho)
    · refine startFlash_firstHeader (r := [second]) ho hs ?_
      show s.ie.headers ++ _ = _
      rw [hh]
      rfl
  · obtain ⟨hflash, hac, hml, -⟩ := afterOp_keeps (s := markHeader sl (.active n) (opDone s)) hw
    refine ⟨_, exec_swapProgramDone_active ha ho, ?_, ?_, ?_, hac, hml⟩
    · rw [hflash]
      exact Flash.setHeader_mem _ _ _
    · rw [hflash]
      exact Flash.header_setHeader _ _ _
    · rw [hflash]
      exact Flash.header_setHeader_other _ _ _
  · intro count m
    have other : (markHeader s.ie.activeSlot .retired (opDone s)).flash.header (incSlot s) = s.flash.header (incSlot s) :=
      Flash.header_setHeader_other _ _ _
    have hcount : markedCount (markHeader s.ie.activeSlot .retired (opDone s)) = count :=
      congrArg (fun h => h.activeCount.getD 0) other
    have ended := swapDone_eq (s := markHeader s.ie.activeSlot .retired (opDone s)) hd
    rw [hcount] at ended
    obtain ⟨hflash, hac, hml, hinc, hdesc, hactive⟩ := afterOp_keeps
      (s := swapDone (markHeader s.ie.activeSlot .retired (opDone s))) (by rw [ended]; exact hw)
    have run := exec_swapProgramDone_retired ha ho
    rw [ended] at run hflash hac hml hinc hdesc hactive
    refine ⟨_, run, hac, ?_, ?_, ?_, hinc, hdesc, hactive, hml⟩
    · rw [hflash]
      exact Flash.setHeader_mem _ _ _
    · rw [hflash]
      exact Flash.header_setHeader _ _ _
    · rw [hflash]
      exact other

end Sys2Proof.Machine
end
